-- ==== Sys2Proof/Word.lean ====
section
/-! DEFINITION. The words of the machine and their plainest arithmetic (spec 00_scope R9, R10). -/

namespace Sys2Proof

/-- One byte of memory (20_memory R141). -/
abbrev Byte := BitVec 8

/-- A 64-bit register or virtual address (10_state R30, R35). -/
abbrev Word := BitVec 64

/-- A 36-bit physical address (20_memory R140). -/
abbrev PAddr := BitVec 36

/-- A 5-bit register number (30_encoding R222). -/
abbrev Reg := BitVec 5

end Sys2Proof
end

