-- ==== Sys2Proof/Syntax.lean ====
section
/-! DEFINITION. The instructions: one constructor per row of spec/opcode_table.json, in the table's order, its
operands the row's fields (30_encoding R222). -/

namespace Sys2Proof

/-- The instruction set: MIPS I to IV as the R5000 executes it (00_scope R3). -/
inductive Instr where
  -- Loads and stores (40_load_store)
  /-- LB (R261) -/
  | lb (base : Reg) (rt : Reg) (offset : BitVec 16)
  /-- LBU (R262) -/
  | lbu (base : Reg) (rt : Reg) (offset : BitVec 16)
  /-- LH (R263) -/
  | lh (base : Reg) (rt : Reg) (offset : BitVec 16)
  /-- LHU (R264) -/
  | lhu (base : Reg) (rt : Reg) (offset : BitVec 16)
  /-- LW (R265) -/
  | lw (base : Reg) (rt : Reg) (offset : BitVec 16)
  /-- LWU (R266) -/
  | lwu (base : Reg) (rt : Reg) (offset : BitVec 16)
  /-- LD (R267) -/
  | ld (base : Reg) (rt : Reg) (offset : BitVec 16)
  /-- SB (R268) -/
  | sb (base : Reg) (rt : Reg) (offset : BitVec 16)
  /-- SH (R269) -/
  | sh (base : Reg) (rt : Reg) (offset : BitVec 16)
  /-- SW (R270) -/
  | sw (base : Reg) (rt : Reg) (offset : BitVec 16)
  /-- SD (R271) -/
  | sd (base : Reg) (rt : Reg) (offset : BitVec 16)
  /-- LWL (R275) -/
  | lwl (base : Reg) (rt : Reg) (offset : BitVec 16)
  /-- LWR (R276) -/
  | lwr (base : Reg) (rt : Reg) (offset : BitVec 16)
  /-- SWL (R277) -/
  | swl (base : Reg) (rt : Reg) (offset : BitVec 16)
  /-- SWR (R278) -/
  | swr (base : Reg) (rt : Reg) (offset : BitVec 16)
  /-- LDL (R279) -/
  | ldl (base : Reg) (rt : Reg) (offset : BitVec 16)
  /-- LDR (R280) -/
  | ldr (base : Reg) (rt : Reg) (offset : BitVec 16)
  /-- SDL (R281) -/
  | sdl (base : Reg) (rt : Reg) (offset : BitVec 16)
  /-- SDR (R282) -/
  | sdr (base : Reg) (rt : Reg) (offset : BitVec 16)
  /-- LL (R283) -/
  | ll (base : Reg) (rt : Reg) (offset : BitVec 16)
  /-- LLD (R284) -/
  | lld (base : Reg) (rt : Reg) (offset : BitVec 16)
  /-- SC (R285) -/
  | sc (base : Reg) (rt : Reg) (offset : BitVec 16)
  /-- SCD (R286) -/
  | scd (base : Reg) (rt : Reg) (offset : BitVec 16)
  /-- LWC1 (R287) -/
  | lwc1 (base : Reg) (ft : Reg) (offset : BitVec 16)
  /-- LDC1 (R288) -/
  | ldc1 (base : Reg) (ft : Reg) (offset : BitVec 16)
  /-- SWC1 (R289) -/
  | swc1 (base : Reg) (ft : Reg) (offset : BitVec 16)
  /-- SDC1 (R290) -/
  | sdc1 (base : Reg) (ft : Reg) (offset : BitVec 16)
  /-- LWXC1 (R291) -/
  | lwxc1 (base : Reg) (index : Reg) (fd : Reg)
  /-- LDXC1 (R292) -/
  | ldxc1 (base : Reg) (index : Reg) (fd : Reg)
  /-- SWXC1 (R293) -/
  | swxc1 (base : Reg) (index : Reg) (fs : Reg)
  /-- SDXC1 (R294) -/
  | sdxc1 (base : Reg) (index : Reg) (fs : Reg)
  /-- PREF (R295) -/
  | pref (base : Reg) (hint : BitVec 5) (offset : BitVec 16)
  /-- PREFX (R296) -/
  | prefx (base : Reg) (index : Reg) (hint : BitVec 5)
  -- Integer arithmetic, logic, compare, conditional move (41_alu)
  /-- ADD (R301) -/
  | add (rs : Reg) (rt : Reg) (rd : Reg)
  /-- ADDU (R302) -/
  | addu (rs : Reg) (rt : Reg) (rd : Reg)
  /-- SUB (R303) -/
  | sub (rs : Reg) (rt : Reg) (rd : Reg)
  /-- SUBU (R304) -/
  | subu (rs : Reg) (rt : Reg) (rd : Reg)
  /-- DADD (R307) -/
  | dadd (rs : Reg) (rt : Reg) (rd : Reg)
  /-- DADDU (R308) -/
  | daddu (rs : Reg) (rt : Reg) (rd : Reg)
  /-- DSUB (R309) -/
  | dsub (rs : Reg) (rt : Reg) (rd : Reg)
  /-- DSUBU (R310) -/
  | dsubu (rs : Reg) (rt : Reg) (rd : Reg)
  /-- AND (R313) -/
  | and (rs : Reg) (rt : Reg) (rd : Reg)
  /-- OR (R314) -/
  | or (rs : Reg) (rt : Reg) (rd : Reg)
  /-- XOR (R315) -/
  | xor (rs : Reg) (rt : Reg) (rd : Reg)
  /-- NOR (R316) -/
  | nor (rs : Reg) (rt : Reg) (rd : Reg)
  /-- SLT (R321) -/
  | slt (rs : Reg) (rt : Reg) (rd : Reg)
  /-- SLTU (R322) -/
  | sltu (rs : Reg) (rt : Reg) (rd : Reg)
  /-- MOVN (R325) -/
  | movn (rs : Reg) (rt : Reg) (rd : Reg)
  /-- MOVZ (R326) -/
  | movz (rs : Reg) (rt : Reg) (rd : Reg)
  /-- ADDI (R305) -/
  | addi (rs : Reg) (rt : Reg) (imm : BitVec 16)
  /-- ADDIU (R306) -/
  | addiu (rs : Reg) (rt : Reg) (imm : BitVec 16)
  /-- DADDI (R311) -/
  | daddi (rs : Reg) (rt : Reg) (imm : BitVec 16)
  /-- DADDIU (R312) -/
  | daddiu (rs : Reg) (rt : Reg) (imm : BitVec 16)
  /-- ANDI (R317) -/
  | andi (rs : Reg) (rt : Reg) (imm : BitVec 16)
  /-- ORI (R318) -/
  | ori (rs : Reg) (rt : Reg) (imm : BitVec 16)
  /-- XORI (R319) -/
  | xori (rs : Reg) (rt : Reg) (imm : BitVec 16)
  /-- SLTI (R323) -/
  | slti (rs : Reg) (rt : Reg) (imm : BitVec 16)
  /-- SLTIU (R324) -/
  | sltiu (rs : Reg) (rt : Reg) (imm : BitVec 16)
  /-- LUI (R320) -/
  | lui (rt : Reg) (imm : BitVec 16)
  /-- MOVF (R327) -/
  | movf (rs : Reg) (cc : BitVec 3) (rd : Reg)
  /-- MOVT (R328) -/
  | movt (rs : Reg) (cc : BitVec 3) (rd : Reg)
  -- Shifts (42_shift)
  /-- SLL (R341) -/
  | sll (rt : Reg) (rd : Reg) (sa : BitVec 5)
  /-- SRL (R342) -/
  | srl (rt : Reg) (rd : Reg) (sa : BitVec 5)
  /-- SRA (R343) -/
  | sra (rt : Reg) (rd : Reg) (sa : BitVec 5)
  /-- DSLL (R347) -/
  | dsll (rt : Reg) (rd : Reg) (sa : BitVec 5)
  /-- DSRL (R348) -/
  | dsrl (rt : Reg) (rd : Reg) (sa : BitVec 5)
  /-- DSRA (R349) -/
  | dsra (rt : Reg) (rd : Reg) (sa : BitVec 5)
  /-- DSLL32 (R353) -/
  | dsll32 (rt : Reg) (rd : Reg) (sa : BitVec 5)
  /-- DSRL32 (R354) -/
  | dsrl32 (rt : Reg) (rd : Reg) (sa : BitVec 5)
  /-- DSRA32 (R355) -/
  | dsra32 (rt : Reg) (rd : Reg) (sa : BitVec 5)
  /-- SLLV (R344) -/
  | sllv (rs : Reg) (rt : Reg) (rd : Reg)
  /-- SRLV (R345) -/
  | srlv (rs : Reg) (rt : Reg) (rd : Reg)
  /-- SRAV (R346) -/
  | srav (rs : Reg) (rt : Reg) (rd : Reg)
  /-- DSLLV (R350) -/
  | dsllv (rs : Reg) (rt : Reg) (rd : Reg)
  /-- DSRLV (R351) -/
  | dsrlv (rs : Reg) (rt : Reg) (rd : Reg)
  /-- DSRAV (R352) -/
  | dsrav (rs : Reg) (rt : Reg) (rd : Reg)
  -- Multiply, divide, HI and LO (43_muldiv)
  /-- MULT (R363) -/
  | mult (rs : Reg) (rt : Reg)
  /-- MULTU (R364) -/
  | multu (rs : Reg) (rt : Reg)
  /-- DIV (R365) -/
  | div (rs : Reg) (rt : Reg)
  /-- DIVU (R366) -/
  | divu (rs : Reg) (rt : Reg)
  /-- DMULT (R367) -/
  | dmult (rs : Reg) (rt : Reg)
  /-- DMULTU (R368) -/
  | dmultu (rs : Reg) (rt : Reg)
  /-- DDIV (R369) -/
  | ddiv (rs : Reg) (rt : Reg)
  /-- DDIVU (R370) -/
  | ddivu (rs : Reg) (rt : Reg)
  /-- MFHI (R371) -/
  | mfhi (rd : Reg)
  /-- MFLO (R372) -/
  | mflo (rd : Reg)
  /-- MTHI (R373) -/
  | mthi (rs : Reg)
  /-- MTLO (R374) -/
  | mtlo (rs : Reg)
  -- Jumps and branches (44_jump_branch)
  /-- J (R385) -/
  | j (target : BitVec 26)
  /-- JAL (R386) -/
  | jal (target : BitVec 26)
  /-- JR (R387) -/
  | jr (rs : Reg)
  /-- JALR (R388) -/
  | jalr (rs : Reg) (rd : Reg)
  /-- BEQ (R389) -/
  | beq (rs : Reg) (rt : Reg) (offset : BitVec 16)
  /-- BNE (R390) -/
  | bne (rs : Reg) (rt : Reg) (offset : BitVec 16)
  /-- BEQL (R397) -/
  | beql (rs : Reg) (rt : Reg) (offset : BitVec 16)
  /-- BNEL (R398) -/
  | bnel (rs : Reg) (rt : Reg) (offset : BitVec 16)
  /-- BLEZ (R391) -/
  | blez (rs : Reg) (offset : BitVec 16)
  /-- BGTZ (R392) -/
  | bgtz (rs : Reg) (offset : BitVec 16)
  /-- BLEZL (R399) -/
  | blezl (rs : Reg) (offset : BitVec 16)
  /-- BGTZL (R400) -/
  | bgtzl (rs : Reg) (offset : BitVec 16)
  /-- BLTZ (R393) -/
  | bltz (rs : Reg) (offset : BitVec 16)
  /-- BGEZ (R394) -/
  | bgez (rs : Reg) (offset : BitVec 16)
  /-- BLTZAL (R395) -/
  | bltzal (rs : Reg) (offset : BitVec 16)
  /-- BGEZAL (R396) -/
  | bgezal (rs : Reg) (offset : BitVec 16)
  /-- BLTZL (R401) -/
  | bltzl (rs : Reg) (offset : BitVec 16)
  /-- BGEZL (R402) -/
  | bgezl (rs : Reg) (offset : BitVec 16)
  /-- BLTZALL (R403) -/
  | bltzall (rs : Reg) (offset : BitVec 16)
  /-- BGEZALL (R404) -/
  | bgezall (rs : Reg) (offset : BitVec 16)
  /-- BC1F (R406) -/
  | bc1f (cc : BitVec 3) (offset : BitVec 16)
  /-- BC1T (R407) -/
  | bc1t (cc : BitVec 3) (offset : BitVec 16)
  /-- BC1FL (R408) -/
  | bc1fl (cc : BitVec 3) (offset : BitVec 16)
  /-- BC1TL (R409) -/
  | bc1tl (cc : BitVec 3) (offset : BitVec 16)
  -- System call, breakpoint, SYNC, traps (45_trap_system)
  /-- SYSCALL (R421) -/
  | syscall (code : BitVec 20)
  /-- BREAK (R422) -/
  | brk (code : BitVec 20)
  /-- SYNC (R424) -/
  | sync (stype : BitVec 5)
  /-- TGE (R425) -/
  | tge (rs : Reg) (rt : Reg) (code : BitVec 10)
  /-- TGEU (R426) -/
  | tgeu (rs : Reg) (rt : Reg) (code : BitVec 10)
  /-- TLT (R427) -/
  | tlt (rs : Reg) (rt : Reg) (code : BitVec 10)
  /-- TLTU (R428) -/
  | tltu (rs : Reg) (rt : Reg) (code : BitVec 10)
  /-- TEQ (R429) -/
  | teq (rs : Reg) (rt : Reg) (code : BitVec 10)
  /-- TNE (R430) -/
  | tne (rs : Reg) (rt : Reg) (code : BitVec 10)
  /-- TGEI (R431) -/
  | tgei (rs : Reg) (imm : BitVec 16)
  /-- TGEIU (R432) -/
  | tgeiu (rs : Reg) (imm : BitVec 16)
  /-- TLTI (R433) -/
  | tlti (rs : Reg) (imm : BitVec 16)
  /-- TLTIU (R434) -/
  | tltiu (rs : Reg) (imm : BitVec 16)
  /-- TEQI (R435) -/
  | teqi (rs : Reg) (imm : BitVec 16)
  /-- TNEI (R436) -/
  | tnei (rs : Reg) (imm : BitVec 16)
  -- CP0 and CACHE (46_cp0)
  /-- MFC0 (R441) -/
  | mfc0 (rt : Reg) (rd : Reg)
  /-- DMFC0 (R442) -/
  | dmfc0 (rt : Reg) (rd : Reg)
  /-- MTC0 (R443) -/
  | mtc0 (rt : Reg) (rd : Reg)
  /-- DMTC0 (R444) -/
  | dmtc0 (rt : Reg) (rd : Reg)
  /-- TLBR (R447) -/
  | tlbr
  /-- TLBWI (R445) -/
  | tlbwi
  /-- TLBWR (R446) -/
  | tlbwr
  /-- TLBP (R449) -/
  | tlbp
  /-- ERET (R448) -/
  | eret
  /-- CACHE (R450) -/
  | cache (base : Reg) (op5 : BitVec 5) (offset : BitVec 16)
  -- FPU moves (47_fpu_move)
  /-- MFC1 (R471) -/
  | mfc1 (rt : Reg) (fs : Reg)
  /-- DMFC1 (R472) -/
  | dmfc1 (rt : Reg) (fs : Reg)
  /-- CFC1 (R475) -/
  | cfc1 (rt : Reg) (fs : Reg)
  /-- MTC1 (R473) -/
  | mtc1 (rt : Reg) (fs : Reg)
  /-- DMTC1 (R474) -/
  | dmtc1 (rt : Reg) (fs : Reg)
  /-- CTC1 (R483) -/
  | ctc1 (rt : Reg) (fs : Reg)
  /-- MOV.S (R476) -/
  | movS (fs : Reg) (fd : Reg)
  /-- MOVF.S (R477) -/
  | movfS (cc : BitVec 3) (fs : Reg) (fd : Reg)
  /-- MOVT.S (R478) -/
  | movtS (cc : BitVec 3) (fs : Reg) (fd : Reg)
  /-- MOVN.S (R479) -/
  | movnS (rt : Reg) (fs : Reg) (fd : Reg)
  /-- MOVZ.S (R480) -/
  | movzS (rt : Reg) (fs : Reg) (fd : Reg)
  /-- MOV.D (R476) -/
  | movD (fs : Reg) (fd : Reg)
  /-- MOVF.D (R477) -/
  | movfD (cc : BitVec 3) (fs : Reg) (fd : Reg)
  /-- MOVT.D (R478) -/
  | movtD (cc : BitVec 3) (fs : Reg) (fd : Reg)
  /-- MOVN.D (R479) -/
  | movnD (rt : Reg) (fs : Reg) (fd : Reg)
  /-- MOVZ.D (R480) -/
  | movzD (rt : Reg) (fs : Reg) (fd : Reg)
  -- FPU arithmetic and compare (48_fpu_arith)
  /-- ADD.S (R520) -/
  | addS (ft : Reg) (fs : Reg) (fd : Reg)
  /-- SUB.S (R521) -/
  | subS (ft : Reg) (fs : Reg) (fd : Reg)
  /-- MUL.S (R522) -/
  | mulS (ft : Reg) (fs : Reg) (fd : Reg)
  /-- DIV.S (R523) -/
  | divS (ft : Reg) (fs : Reg) (fd : Reg)
  /-- SQRT.S (R524) -/
  | sqrtS (fs : Reg) (fd : Reg)
  /-- ABS.S (R525) -/
  | absS (fs : Reg) (fd : Reg)
  /-- NEG.S (R526) -/
  | negS (fs : Reg) (fd : Reg)
  /-- RECIP.S (R527) -/
  | recipS (fs : Reg) (fd : Reg)
  /-- RSQRT.S (R528) -/
  | rsqrtS (fs : Reg) (fd : Reg)
  /-- ADD.D (R520) -/
  | addD (ft : Reg) (fs : Reg) (fd : Reg)
  /-- SUB.D (R521) -/
  | subD (ft : Reg) (fs : Reg) (fd : Reg)
  /-- MUL.D (R522) -/
  | mulD (ft : Reg) (fs : Reg) (fd : Reg)
  /-- DIV.D (R523) -/
  | divD (ft : Reg) (fs : Reg) (fd : Reg)
  /-- SQRT.D (R524) -/
  | sqrtD (fs : Reg) (fd : Reg)
  /-- ABS.D (R525) -/
  | absD (fs : Reg) (fd : Reg)
  /-- NEG.D (R526) -/
  | negD (fs : Reg) (fd : Reg)
  /-- RECIP.D (R527) -/
  | recipD (fs : Reg) (fd : Reg)
  /-- RSQRT.D (R528) -/
  | rsqrtD (fs : Reg) (fd : Reg)
  /-- MADD.S (R530) -/
  | maddS (fr : Reg) (ft : Reg) (fs : Reg) (fd : Reg)
  /-- MADD.D (R530) -/
  | maddD (fr : Reg) (ft : Reg) (fs : Reg) (fd : Reg)
  /-- MSUB.S (R531) -/
  | msubS (fr : Reg) (ft : Reg) (fs : Reg) (fd : Reg)
  /-- MSUB.D (R531) -/
  | msubD (fr : Reg) (ft : Reg) (fs : Reg) (fd : Reg)
  /-- NMADD.S (R532) -/
  | nmaddS (fr : Reg) (ft : Reg) (fs : Reg) (fd : Reg)
  /-- NMADD.D (R532) -/
  | nmaddD (fr : Reg) (ft : Reg) (fs : Reg) (fd : Reg)
  /-- NMSUB.S (R533) -/
  | nmsubS (fr : Reg) (ft : Reg) (fs : Reg) (fd : Reg)
  /-- NMSUB.D (R533) -/
  | nmsubD (fr : Reg) (ft : Reg) (fs : Reg) (fd : Reg)
  /-- C.F.S (R540) -/
  | cFS (ft : Reg) (fs : Reg) (cc : BitVec 3)
  /-- C.UN.S (R540) -/
  | cUnS (ft : Reg) (fs : Reg) (cc : BitVec 3)
  /-- C.EQ.S (R540) -/
  | cEqS (ft : Reg) (fs : Reg) (cc : BitVec 3)
  /-- C.UEQ.S (R540) -/
  | cUeqS (ft : Reg) (fs : Reg) (cc : BitVec 3)
  /-- C.OLT.S (R540) -/
  | cOltS (ft : Reg) (fs : Reg) (cc : BitVec 3)
  /-- C.ULT.S (R540) -/
  | cUltS (ft : Reg) (fs : Reg) (cc : BitVec 3)
  /-- C.OLE.S (R540) -/
  | cOleS (ft : Reg) (fs : Reg) (cc : BitVec 3)
  /-- C.ULE.S (R540) -/
  | cUleS (ft : Reg) (fs : Reg) (cc : BitVec 3)
  /-- C.SF.S (R540) -/
  | cSfS (ft : Reg) (fs : Reg) (cc : BitVec 3)
  /-- C.NGLE.S (R540) -/
  | cNgleS (ft : Reg) (fs : Reg) (cc : BitVec 3)
  /-- C.SEQ.S (R540) -/
  | cSeqS (ft : Reg) (fs : Reg) (cc : BitVec 3)
  /-- C.NGL.S (R540) -/
  | cNglS (ft : Reg) (fs : Reg) (cc : BitVec 3)
  /-- C.LT.S (R540) -/
  | cLtS (ft : Reg) (fs : Reg) (cc : BitVec 3)
  /-- C.NGE.S (R540) -/
  | cNgeS (ft : Reg) (fs : Reg) (cc : BitVec 3)
  /-- C.LE.S (R540) -/
  | cLeS (ft : Reg) (fs : Reg) (cc : BitVec 3)
  /-- C.NGT.S (R540) -/
  | cNgtS (ft : Reg) (fs : Reg) (cc : BitVec 3)
  /-- C.F.D (R540) -/
  | cFD (ft : Reg) (fs : Reg) (cc : BitVec 3)
  /-- C.UN.D (R540) -/
  | cUnD (ft : Reg) (fs : Reg) (cc : BitVec 3)
  /-- C.EQ.D (R540) -/
  | cEqD (ft : Reg) (fs : Reg) (cc : BitVec 3)
  /-- C.UEQ.D (R540) -/
  | cUeqD (ft : Reg) (fs : Reg) (cc : BitVec 3)
  /-- C.OLT.D (R540) -/
  | cOltD (ft : Reg) (fs : Reg) (cc : BitVec 3)
  /-- C.ULT.D (R540) -/
  | cUltD (ft : Reg) (fs : Reg) (cc : BitVec 3)
  /-- C.OLE.D (R540) -/
  | cOleD (ft : Reg) (fs : Reg) (cc : BitVec 3)
  /-- C.ULE.D (R540) -/
  | cUleD (ft : Reg) (fs : Reg) (cc : BitVec 3)
  /-- C.SF.D (R540) -/
  | cSfD (ft : Reg) (fs : Reg) (cc : BitVec 3)
  /-- C.NGLE.D (R540) -/
  | cNgleD (ft : Reg) (fs : Reg) (cc : BitVec 3)
  /-- C.SEQ.D (R540) -/
  | cSeqD (ft : Reg) (fs : Reg) (cc : BitVec 3)
  /-- C.NGL.D (R540) -/
  | cNglD (ft : Reg) (fs : Reg) (cc : BitVec 3)
  /-- C.LT.D (R540) -/
  | cLtD (ft : Reg) (fs : Reg) (cc : BitVec 3)
  /-- C.NGE.D (R540) -/
  | cNgeD (ft : Reg) (fs : Reg) (cc : BitVec 3)
  /-- C.LE.D (R540) -/
  | cLeD (ft : Reg) (fs : Reg) (cc : BitVec 3)
  /-- C.NGT.D (R540) -/
  | cNgtD (ft : Reg) (fs : Reg) (cc : BitVec 3)
  -- FPU conversions (49_fpu_convert)
  /-- CVT.W.S (R552) -/
  | cvtWS (fs : Reg) (fd : Reg)
  /-- CVT.L.S (R553) -/
  | cvtLS (fs : Reg) (fd : Reg)
  /-- ROUND.W.S (R554) -/
  | roundWS (fs : Reg) (fd : Reg)
  /-- TRUNC.W.S (R555) -/
  | truncWS (fs : Reg) (fd : Reg)
  /-- CEIL.W.S (R556) -/
  | ceilWS (fs : Reg) (fd : Reg)
  /-- FLOOR.W.S (R557) -/
  | floorWS (fs : Reg) (fd : Reg)
  /-- ROUND.L.S (R558) -/
  | roundLS (fs : Reg) (fd : Reg)
  /-- TRUNC.L.S (R559) -/
  | truncLS (fs : Reg) (fd : Reg)
  /-- CEIL.L.S (R560) -/
  | ceilLS (fs : Reg) (fd : Reg)
  /-- FLOOR.L.S (R561) -/
  | floorLS (fs : Reg) (fd : Reg)
  /-- CVT.W.D (R552) -/
  | cvtWD (fs : Reg) (fd : Reg)
  /-- CVT.L.D (R553) -/
  | cvtLD (fs : Reg) (fd : Reg)
  /-- ROUND.W.D (R554) -/
  | roundWD (fs : Reg) (fd : Reg)
  /-- TRUNC.W.D (R555) -/
  | truncWD (fs : Reg) (fd : Reg)
  /-- CEIL.W.D (R556) -/
  | ceilWD (fs : Reg) (fd : Reg)
  /-- FLOOR.W.D (R557) -/
  | floorWD (fs : Reg) (fd : Reg)
  /-- ROUND.L.D (R558) -/
  | roundLD (fs : Reg) (fd : Reg)
  /-- TRUNC.L.D (R559) -/
  | truncLD (fs : Reg) (fd : Reg)
  /-- CEIL.L.D (R560) -/
  | ceilLD (fs : Reg) (fd : Reg)
  /-- FLOOR.L.D (R561) -/
  | floorLD (fs : Reg) (fd : Reg)
  /-- CVT.S.D (R562) -/
  | cvtSD (fs : Reg) (fd : Reg)
  /-- CVT.S.W (R563) -/
  | cvtSW (fs : Reg) (fd : Reg)
  /-- CVT.S.L (R564) -/
  | cvtSL (fs : Reg) (fd : Reg)
  /-- CVT.D.S (R565) -/
  | cvtDS (fs : Reg) (fd : Reg)
  /-- CVT.D.W (R566) -/
  | cvtDW (fs : Reg) (fd : Reg)
  /-- CVT.D.L (R567) -/
  | cvtDL (fs : Reg) (fd : Reg)
deriving DecidableEq, Repr

end Sys2Proof
end

