-- ==== Sys2Proof/Decode.lean ====
section
/-! DEFINITION. The decoder, total on any bytes and rejecting by name, and after it the encoder (30_encoding R220
to R239). The field numbers are the spec's; every one is from general knowledge there (log 1). -/

namespace Sys2Proof

/-- Why a word is no instruction. A coprocessor word carries its unit, which is checked before anything else
of the word (30_encoding R240). -/
inductive Reject where
  /-- a reserved encoding: Reserved Instruction (30_encoding R231, 46_cp0 R456) -/
  | reserved (unit : Option (BitVec 2))
  /-- a reserved FPU encoding: Unimplemented Operation (30_encoding R232) -/
  | reservedFp
  /-- the same of a MIPS IV form, whose gate is checked before its format (48_fpu_arith R527, R528, R540) -/
  | reservedFp4
  /-- a coprocessor 2 word (46_cp0 R454) -/
  | coprocessor2
  /-- a field that must be zero is not: the model refuses (30_encoding R233) -/
  | mustBeZero (unit : Option (BitVec 2))
deriving DecidableEq, Repr

/-- The six fields of the R format (30_encoding R221); the other formats join neighbours of these. -/
structure Fields where
  op : BitVec 6
  rs : BitVec 5
  rt : BitVec 5
  rd : BitVec 5
  sa : BitVec 5
  fn : BitVec 6
deriving DecidableEq, Repr

/-- The fields of an instruction word. -/
def fieldsOf (w : BitVec 32) : Fields :=
  { op := w.extractLsb' 26 6, rs := w.extractLsb' 21 5, rt := w.extractLsb' 16 5, rd := w.extractLsb' 11 5,
    sa := w.extractLsb' 6 5, fn := w.extractLsb' 0 6 }

/-- The word of the fields. -/
def Fields.pack (f : Fields) : BitVec 32 := f.op ++ f.rs ++ f.rt ++ f.rd ++ f.sa ++ f.fn

/-- imm, offset: bits 15:0. -/
def Fields.imm (f : Fields) : BitVec 16 := f.rd ++ f.sa ++ f.fn

/-- target: bits 25:0. -/
def Fields.target (f : Fields) : BitVec 26 := f.rs ++ f.rt ++ f.rd ++ f.sa ++ f.fn

/-- code20: bits 25:6. -/
def Fields.code20 (f : Fields) : BitVec 20 := f.rs ++ f.rt ++ f.rd ++ f.sa

/-- code10: bits 15:6. -/
def Fields.code10 (f : Fields) : BitVec 10 := f.rd ++ f.sa

/-- SPECIAL, op 0 (30_encoding R225). -/
def decodeSpecial (f : Fields) : Except Reject Instr :=
  match f.fn.toNat with
  | 0 => if f.rs = 0#5 then .ok (.sll f.rt f.rd f.sa) else .error (.mustBeZero none)
  | 1 => match (f.rt.extractLsb' 0 2).toNat with
      | 0 => if f.sa = 0#5 then .ok (.movf f.rs (f.rt.extractLsb' 2 3) f.rd) else .error (.mustBeZero (some 1#2))
      | 1 => if f.sa = 0#5 then .ok (.movt f.rs (f.rt.extractLsb' 2 3) f.rd) else .error (.mustBeZero (some 1#2))
      | _ => .error (.mustBeZero (some 1#2))
  | 2 => if f.rs = 0#5 then .ok (.srl f.rt f.rd f.sa) else .error (.mustBeZero none)
  | 3 => if f.rs = 0#5 then .ok (.sra f.rt f.rd f.sa) else .error (.mustBeZero none)
  | 4 => if f.sa = 0#5 then .ok (.sllv f.rs f.rt f.rd) else .error (.mustBeZero none)
  | 6 => if f.sa = 0#5 then .ok (.srlv f.rs f.rt f.rd) else .error (.mustBeZero none)
  | 7 => if f.sa = 0#5 then .ok (.srav f.rs f.rt f.rd) else .error (.mustBeZero none)
  | 8 => if f.rt = 0#5 ∧ f.rd = 0#5 ∧ f.sa = 0#5 then .ok (.jr f.rs) else .error (.mustBeZero none)
  | 9 => if f.rt = 0#5 ∧ f.sa = 0#5 then .ok (.jalr f.rs f.rd) else .error (.mustBeZero none)
  | 10 => if f.sa = 0#5 then .ok (.movz f.rs f.rt f.rd) else .error (.mustBeZero none)
  | 11 => if f.sa = 0#5 then .ok (.movn f.rs f.rt f.rd) else .error (.mustBeZero none)
  | 12 => .ok (.syscall f.code20)
  | 13 => .ok (.brk f.code20)
  | 15 => if f.rs = 0#5 ∧ f.rt = 0#5 ∧ f.rd = 0#5 then .ok (.sync f.sa) else .error (.mustBeZero none)
  | 16 => if f.rs = 0#5 ∧ f.rt = 0#5 ∧ f.sa = 0#5 then .ok (.mfhi f.rd) else .error (.mustBeZero none)
  | 17 => if f.rt = 0#5 ∧ f.rd = 0#5 ∧ f.sa = 0#5 then .ok (.mthi f.rs) else .error (.mustBeZero none)
  | 18 => if f.rs = 0#5 ∧ f.rt = 0#5 ∧ f.sa = 0#5 then .ok (.mflo f.rd) else .error (.mustBeZero none)
  | 19 => if f.rt = 0#5 ∧ f.rd = 0#5 ∧ f.sa = 0#5 then .ok (.mtlo f.rs) else .error (.mustBeZero none)
  | 20 => if f.sa = 0#5 then .ok (.dsllv f.rs f.rt f.rd) else .error (.mustBeZero none)
  | 22 => if f.sa = 0#5 then .ok (.dsrlv f.rs f.rt f.rd) else .error (.mustBeZero none)
  | 23 => if f.sa = 0#5 then .ok (.dsrav f.rs f.rt f.rd) else .error (.mustBeZero none)
  | 24 => if f.rd = 0#5 ∧ f.sa = 0#5 then .ok (.mult f.rs f.rt) else .error (.mustBeZero none)
  | 25 => if f.rd = 0#5 ∧ f.sa = 0#5 then .ok (.multu f.rs f.rt) else .error (.mustBeZero none)
  | 26 => if f.rd = 0#5 ∧ f.sa = 0#5 then .ok (.div f.rs f.rt) else .error (.mustBeZero none)
  | 27 => if f.rd = 0#5 ∧ f.sa = 0#5 then .ok (.divu f.rs f.rt) else .error (.mustBeZero none)
  | 28 => if f.rd = 0#5 ∧ f.sa = 0#5 then .ok (.dmult f.rs f.rt) else .error (.mustBeZero none)
  | 29 => if f.rd = 0#5 ∧ f.sa = 0#5 then .ok (.dmultu f.rs f.rt) else .error (.mustBeZero none)
  | 30 => if f.rd = 0#5 ∧ f.sa = 0#5 then .ok (.ddiv f.rs f.rt) else .error (.mustBeZero none)
  | 31 => if f.rd = 0#5 ∧ f.sa = 0#5 then .ok (.ddivu f.rs f.rt) else .error (.mustBeZero none)
  | 32 => if f.sa = 0#5 then .ok (.add f.rs f.rt f.rd) else .error (.mustBeZero none)
  | 33 => if f.sa = 0#5 then .ok (.addu f.rs f.rt f.rd) else .error (.mustBeZero none)
  | 34 => if f.sa = 0#5 then .ok (.sub f.rs f.rt f.rd) else .error (.mustBeZero none)
  | 35 => if f.sa = 0#5 then .ok (.subu f.rs f.rt f.rd) else .error (.mustBeZero none)
  | 36 => if f.sa = 0#5 then .ok (.and f.rs f.rt f.rd) else .error (.mustBeZero none)
  | 37 => if f.sa = 0#5 then .ok (.or f.rs f.rt f.rd) else .error (.mustBeZero none)
  | 38 => if f.sa = 0#5 then .ok (.xor f.rs f.rt f.rd) else .error (.mustBeZero none)
  | 39 => if f.sa = 0#5 then .ok (.nor f.rs f.rt f.rd) else .error (.mustBeZero none)
  | 42 => if f.sa = 0#5 then .ok (.slt f.rs f.rt f.rd) else .error (.mustBeZero none)
  | 43 => if f.sa = 0#5 then .ok (.sltu f.rs f.rt f.rd) else .error (.mustBeZero none)
  | 44 => if f.sa = 0#5 then .ok (.dadd f.rs f.rt f.rd) else .error (.mustBeZero none)
  | 45 => if f.sa = 0#5 then .ok (.daddu f.rs f.rt f.rd) else .error (.mustBeZero none)
  | 46 => if f.sa = 0#5 then .ok (.dsub f.rs f.rt f.rd) else .error (.mustBeZero none)
  | 47 => if f.sa = 0#5 then .ok (.dsubu f.rs f.rt f.rd) else .error (.mustBeZero none)
  | 48 => .ok (.tge f.rs f.rt f.code10)
  | 49 => .ok (.tgeu f.rs f.rt f.code10)
  | 50 => .ok (.tlt f.rs f.rt f.code10)
  | 51 => .ok (.tltu f.rs f.rt f.code10)
  | 52 => .ok (.teq f.rs f.rt f.code10)
  | 54 => .ok (.tne f.rs f.rt f.code10)
  | 56 => if f.rs = 0#5 then .ok (.dsll f.rt f.rd f.sa) else .error (.mustBeZero none)
  | 58 => if f.rs = 0#5 then .ok (.dsrl f.rt f.rd f.sa) else .error (.mustBeZero none)
  | 59 => if f.rs = 0#5 then .ok (.dsra f.rt f.rd f.sa) else .error (.mustBeZero none)
  | 60 => if f.rs = 0#5 then .ok (.dsll32 f.rt f.rd f.sa) else .error (.mustBeZero none)
  | 62 => if f.rs = 0#5 then .ok (.dsrl32 f.rt f.rd f.sa) else .error (.mustBeZero none)
  | 63 => if f.rs = 0#5 then .ok (.dsra32 f.rt f.rd f.sa) else .error (.mustBeZero none)
  | _ => .error (.reserved none)

/-- REGIMM, op 1 (30_encoding R226). -/
def decodeRegimm (f : Fields) : Except Reject Instr :=
  match f.rt.toNat with
  | 0 => .ok (.bltz f.rs f.imm)
  | 1 => .ok (.bgez f.rs f.imm)
  | 2 => .ok (.bltzl f.rs f.imm)
  | 3 => .ok (.bgezl f.rs f.imm)
  | 8 => .ok (.tgei f.rs f.imm)
  | 9 => .ok (.tgeiu f.rs f.imm)
  | 10 => .ok (.tlti f.rs f.imm)
  | 11 => .ok (.tltiu f.rs f.imm)
  | 12 => .ok (.teqi f.rs f.imm)
  | 14 => .ok (.tnei f.rs f.imm)
  | 16 => .ok (.bltzal f.rs f.imm)
  | 17 => .ok (.bgezal f.rs f.imm)
  | 18 => .ok (.bltzall f.rs f.imm)
  | 19 => .ok (.bgezall f.rs f.imm)
  | _ => .error (.reserved none)

/-- COP0, op 16 (30_encoding R227; 46_cp0 R456). -/
def decodeCop0 (f : Fields) : Except Reject Instr :=
  if f.rs.getLsbD 4 then
    match f.fn.toNat with
    | 1 => if f.rs = 16#5 ∧ f.rt = 0#5 ∧ f.rd = 0#5 ∧ f.sa = 0#5 then .ok .tlbr else .error (.mustBeZero (some 0#2))
    | 2 => if f.rs = 16#5 ∧ f.rt = 0#5 ∧ f.rd = 0#5 ∧ f.sa = 0#5 then .ok .tlbwi else .error (.mustBeZero (some 0#2))
    | 6 => if f.rs = 16#5 ∧ f.rt = 0#5 ∧ f.rd = 0#5 ∧ f.sa = 0#5 then .ok .tlbwr else .error (.mustBeZero (some 0#2))
    | 8 => if f.rs = 16#5 ∧ f.rt = 0#5 ∧ f.rd = 0#5 ∧ f.sa = 0#5 then .ok .tlbp else .error (.mustBeZero (some 0#2))
    | 24 => if f.rs = 16#5 ∧ f.rt = 0#5 ∧ f.rd = 0#5 ∧ f.sa = 0#5 then .ok .eret else .error (.mustBeZero (some 0#2))
    | _ => .error (.reserved (some 0#2))
  else
    match f.rs.toNat with
    | 0 => if f.sa = 0#5 ∧ f.fn = 0#6 then .ok (.mfc0 f.rt f.rd) else .error (.mustBeZero (some 0#2))
    | 1 => if f.sa = 0#5 ∧ f.fn = 0#6 then .ok (.dmfc0 f.rt f.rd) else .error (.mustBeZero (some 0#2))
    | 4 => if f.sa = 0#5 ∧ f.fn = 0#6 then .ok (.mtc0 f.rt f.rd) else .error (.mustBeZero (some 0#2))
    | 5 => if f.sa = 0#5 ∧ f.fn = 0#6 then .ok (.dmtc0 f.rt f.rd) else .error (.mustBeZero (some 0#2))
    | _ => .error (.reserved (some 0#2))

/-- COP1 with fmt S (30_encoding R229): a function not valid for the format is a reserved FPU encoding (R232). -/
def decodeFmtS (f : Fields) : Except Reject Instr :=
  match f.fn.toNat with
  | 0 => .ok (.addS f.rt f.rd f.sa)
  | 1 => .ok (.subS f.rt f.rd f.sa)
  | 2 => .ok (.mulS f.rt f.rd f.sa)
  | 3 => .ok (.divS f.rt f.rd f.sa)
  | 4 => if f.rt = 0#5 then .ok (.sqrtS f.rd f.sa) else .error (.mustBeZero (some 1#2))
  | 5 => if f.rt = 0#5 then .ok (.absS f.rd f.sa) else .error (.mustBeZero (some 1#2))
  | 6 => if f.rt = 0#5 then .ok (.movS f.rd f.sa) else .error (.mustBeZero (some 1#2))
  | 7 => if f.rt = 0#5 then .ok (.negS f.rd f.sa) else .error (.mustBeZero (some 1#2))
  | 8 => if f.rt = 0#5 then .ok (.roundLS f.rd f.sa) else .error (.mustBeZero (some 1#2))
  | 9 => if f.rt = 0#5 then .ok (.truncLS f.rd f.sa) else .error (.mustBeZero (some 1#2))
  | 10 => if f.rt = 0#5 then .ok (.ceilLS f.rd f.sa) else .error (.mustBeZero (some 1#2))
  | 11 => if f.rt = 0#5 then .ok (.floorLS f.rd f.sa) else .error (.mustBeZero (some 1#2))
  | 12 => if f.rt = 0#5 then .ok (.roundWS f.rd f.sa) else .error (.mustBeZero (some 1#2))
  | 13 => if f.rt = 0#5 then .ok (.truncWS f.rd f.sa) else .error (.mustBeZero (some 1#2))
  | 14 => if f.rt = 0#5 then .ok (.ceilWS f.rd f.sa) else .error (.mustBeZero (some 1#2))
  | 15 => if f.rt = 0#5 then .ok (.floorWS f.rd f.sa) else .error (.mustBeZero (some 1#2))
  | 17 => match (f.rt.extractLsb' 0 2).toNat with
      | 0 => .ok (.movfS (f.rt.extractLsb' 2 3) f.rd f.sa)
      | 1 => .ok (.movtS (f.rt.extractLsb' 2 3) f.rd f.sa)
      | _ => .error (.mustBeZero (some 1#2))
  | 18 => .ok (.movzS f.rt f.rd f.sa)
  | 19 => .ok (.movnS f.rt f.rd f.sa)
  | 21 => if f.rt = 0#5 then .ok (.recipS f.rd f.sa) else .error (.mustBeZero (some 1#2))
  | 22 => if f.rt = 0#5 then .ok (.rsqrtS f.rd f.sa) else .error (.mustBeZero (some 1#2))
  | 33 => if f.rt = 0#5 then .ok (.cvtDS f.rd f.sa) else .error (.mustBeZero (some 1#2))
  | 36 => if f.rt = 0#5 then .ok (.cvtWS f.rd f.sa) else .error (.mustBeZero (some 1#2))
  | 37 => if f.rt = 0#5 then .ok (.cvtLS f.rd f.sa) else .error (.mustBeZero (some 1#2))
  | 48 => if f.sa.extractLsb' 0 2 = 0#2 then .ok (.cFS f.rt f.rd (f.sa.extractLsb' 2 3)) else .error (.mustBeZero (some 1#2))
  | 49 => if f.sa.extractLsb' 0 2 = 0#2 then .ok (.cUnS f.rt f.rd (f.sa.extractLsb' 2 3)) else .error (.mustBeZero (some 1#2))
  | 50 => if f.sa.extractLsb' 0 2 = 0#2 then .ok (.cEqS f.rt f.rd (f.sa.extractLsb' 2 3)) else .error (.mustBeZero (some 1#2))
  | 51 => if f.sa.extractLsb' 0 2 = 0#2 then .ok (.cUeqS f.rt f.rd (f.sa.extractLsb' 2 3)) else .error (.mustBeZero (some 1#2))
  | 52 => if f.sa.extractLsb' 0 2 = 0#2 then .ok (.cOltS f.rt f.rd (f.sa.extractLsb' 2 3)) else .error (.mustBeZero (some 1#2))
  | 53 => if f.sa.extractLsb' 0 2 = 0#2 then .ok (.cUltS f.rt f.rd (f.sa.extractLsb' 2 3)) else .error (.mustBeZero (some 1#2))
  | 54 => if f.sa.extractLsb' 0 2 = 0#2 then .ok (.cOleS f.rt f.rd (f.sa.extractLsb' 2 3)) else .error (.mustBeZero (some 1#2))
  | 55 => if f.sa.extractLsb' 0 2 = 0#2 then .ok (.cUleS f.rt f.rd (f.sa.extractLsb' 2 3)) else .error (.mustBeZero (some 1#2))
  | 56 => if f.sa.extractLsb' 0 2 = 0#2 then .ok (.cSfS f.rt f.rd (f.sa.extractLsb' 2 3)) else .error (.mustBeZero (some 1#2))
  | 57 => if f.sa.extractLsb' 0 2 = 0#2 then .ok (.cNgleS f.rt f.rd (f.sa.extractLsb' 2 3)) else .error (.mustBeZero (some 1#2))
  | 58 => if f.sa.extractLsb' 0 2 = 0#2 then .ok (.cSeqS f.rt f.rd (f.sa.extractLsb' 2 3)) else .error (.mustBeZero (some 1#2))
  | 59 => if f.sa.extractLsb' 0 2 = 0#2 then .ok (.cNglS f.rt f.rd (f.sa.extractLsb' 2 3)) else .error (.mustBeZero (some 1#2))
  | 60 => if f.sa.extractLsb' 0 2 = 0#2 then .ok (.cLtS f.rt f.rd (f.sa.extractLsb' 2 3)) else .error (.mustBeZero (some 1#2))
  | 61 => if f.sa.extractLsb' 0 2 = 0#2 then .ok (.cNgeS f.rt f.rd (f.sa.extractLsb' 2 3)) else .error (.mustBeZero (some 1#2))
  | 62 => if f.sa.extractLsb' 0 2 = 0#2 then .ok (.cLeS f.rt f.rd (f.sa.extractLsb' 2 3)) else .error (.mustBeZero (some 1#2))
  | 63 => if f.sa.extractLsb' 0 2 = 0#2 then .ok (.cNgtS f.rt f.rd (f.sa.extractLsb' 2 3)) else .error (.mustBeZero (some 1#2))
  | _ => .error .reservedFp

/-- COP1 with fmt D (30_encoding R229): a function not valid for the format is a reserved FPU encoding (R232). -/
def decodeFmtD (f : Fields) : Except Reject Instr :=
  match f.fn.toNat with
  | 0 => .ok (.addD f.rt f.rd f.sa)
  | 1 => .ok (.subD f.rt f.rd f.sa)
  | 2 => .ok (.mulD f.rt f.rd f.sa)
  | 3 => .ok (.divD f.rt f.rd f.sa)
  | 4 => if f.rt = 0#5 then .ok (.sqrtD f.rd f.sa) else .error (.mustBeZero (some 1#2))
  | 5 => if f.rt = 0#5 then .ok (.absD f.rd f.sa) else .error (.mustBeZero (some 1#2))
  | 6 => if f.rt = 0#5 then .ok (.movD f.rd f.sa) else .error (.mustBeZero (some 1#2))
  | 7 => if f.rt = 0#5 then .ok (.negD f.rd f.sa) else .error (.mustBeZero (some 1#2))
  | 8 => if f.rt = 0#5 then .ok (.roundLD f.rd f.sa) else .error (.mustBeZero (some 1#2))
  | 9 => if f.rt = 0#5 then .ok (.truncLD f.rd f.sa) else .error (.mustBeZero (some 1#2))
  | 10 => if f.rt = 0#5 then .ok (.ceilLD f.rd f.sa) else .error (.mustBeZero (some 1#2))
  | 11 => if f.rt = 0#5 then .ok (.floorLD f.rd f.sa) else .error (.mustBeZero (some 1#2))
  | 12 => if f.rt = 0#5 then .ok (.roundWD f.rd f.sa) else .error (.mustBeZero (some 1#2))
  | 13 => if f.rt = 0#5 then .ok (.truncWD f.rd f.sa) else .error (.mustBeZero (some 1#2))
  | 14 => if f.rt = 0#5 then .ok (.ceilWD f.rd f.sa) else .error (.mustBeZero (some 1#2))
  | 15 => if f.rt = 0#5 then .ok (.floorWD f.rd f.sa) else .error (.mustBeZero (some 1#2))
  | 17 => match (f.rt.extractLsb' 0 2).toNat with
      | 0 => .ok (.movfD (f.rt.extractLsb' 2 3) f.rd f.sa)
      | 1 => .ok (.movtD (f.rt.extractLsb' 2 3) f.rd f.sa)
      | _ => .error (.mustBeZero (some 1#2))
  | 18 => .ok (.movzD f.rt f.rd f.sa)
  | 19 => .ok (.movnD f.rt f.rd f.sa)
  | 21 => if f.rt = 0#5 then .ok (.recipD f.rd f.sa) else .error (.mustBeZero (some 1#2))
  | 22 => if f.rt = 0#5 then .ok (.rsqrtD f.rd f.sa) else .error (.mustBeZero (some 1#2))
  | 32 => if f.rt = 0#5 then .ok (.cvtSD f.rd f.sa) else .error (.mustBeZero (some 1#2))
  | 36 => if f.rt = 0#5 then .ok (.cvtWD f.rd f.sa) else .error (.mustBeZero (some 1#2))
  | 37 => if f.rt = 0#5 then .ok (.cvtLD f.rd f.sa) else .error (.mustBeZero (some 1#2))
  | 48 => if f.sa.extractLsb' 0 2 = 0#2 then .ok (.cFD f.rt f.rd (f.sa.extractLsb' 2 3)) else .error (.mustBeZero (some 1#2))
  | 49 => if f.sa.extractLsb' 0 2 = 0#2 then .ok (.cUnD f.rt f.rd (f.sa.extractLsb' 2 3)) else .error (.mustBeZero (some 1#2))
  | 50 => if f.sa.extractLsb' 0 2 = 0#2 then .ok (.cEqD f.rt f.rd (f.sa.extractLsb' 2 3)) else .error (.mustBeZero (some 1#2))
  | 51 => if f.sa.extractLsb' 0 2 = 0#2 then .ok (.cUeqD f.rt f.rd (f.sa.extractLsb' 2 3)) else .error (.mustBeZero (some 1#2))
  | 52 => if f.sa.extractLsb' 0 2 = 0#2 then .ok (.cOltD f.rt f.rd (f.sa.extractLsb' 2 3)) else .error (.mustBeZero (some 1#2))
  | 53 => if f.sa.extractLsb' 0 2 = 0#2 then .ok (.cUltD f.rt f.rd (f.sa.extractLsb' 2 3)) else .error (.mustBeZero (some 1#2))
  | 54 => if f.sa.extractLsb' 0 2 = 0#2 then .ok (.cOleD f.rt f.rd (f.sa.extractLsb' 2 3)) else .error (.mustBeZero (some 1#2))
  | 55 => if f.sa.extractLsb' 0 2 = 0#2 then .ok (.cUleD f.rt f.rd (f.sa.extractLsb' 2 3)) else .error (.mustBeZero (some 1#2))
  | 56 => if f.sa.extractLsb' 0 2 = 0#2 then .ok (.cSfD f.rt f.rd (f.sa.extractLsb' 2 3)) else .error (.mustBeZero (some 1#2))
  | 57 => if f.sa.extractLsb' 0 2 = 0#2 then .ok (.cNgleD f.rt f.rd (f.sa.extractLsb' 2 3)) else .error (.mustBeZero (some 1#2))
  | 58 => if f.sa.extractLsb' 0 2 = 0#2 then .ok (.cSeqD f.rt f.rd (f.sa.extractLsb' 2 3)) else .error (.mustBeZero (some 1#2))
  | 59 => if f.sa.extractLsb' 0 2 = 0#2 then .ok (.cNglD f.rt f.rd (f.sa.extractLsb' 2 3)) else .error (.mustBeZero (some 1#2))
  | 60 => if f.sa.extractLsb' 0 2 = 0#2 then .ok (.cLtD f.rt f.rd (f.sa.extractLsb' 2 3)) else .error (.mustBeZero (some 1#2))
  | 61 => if f.sa.extractLsb' 0 2 = 0#2 then .ok (.cNgeD f.rt f.rd (f.sa.extractLsb' 2 3)) else .error (.mustBeZero (some 1#2))
  | 62 => if f.sa.extractLsb' 0 2 = 0#2 then .ok (.cLeD f.rt f.rd (f.sa.extractLsb' 2 3)) else .error (.mustBeZero (some 1#2))
  | 63 => if f.sa.extractLsb' 0 2 = 0#2 then .ok (.cNgtD f.rt f.rd (f.sa.extractLsb' 2 3)) else .error (.mustBeZero (some 1#2))
  | _ => .error .reservedFp

/-- A function under a format it is not valid for, or under a reserved format (30_encoding R232). RECIP.fmt, RSQRT.fmt
and C.cond.fmt with a non-zero condition code check the MIPS IV gate before the format (48_fpu_arith R527, R528, R540). -/
def reservedFmt (f : Fields) : Reject :=
  if (f.fn = 21#6 ∨ f.fn = 22#6) ∧ f.rt = 0#5 then .reservedFp4
  else if 48 ≤ f.fn.toNat ∧ f.sa.extractLsb' 0 2 = 0#2 ∧ f.sa.extractLsb' 2 3 ≠ 0#3 then .reservedFp4
  else .reservedFp

/-- COP1 with fmt W (30_encoding R229): a function not valid for the format is a reserved FPU encoding (R232). -/
def decodeFmtW (f : Fields) : Except Reject Instr :=
  match f.fn.toNat with
  | 32 => if f.rt = 0#5 then .ok (.cvtSW f.rd f.sa) else .error (.mustBeZero (some 1#2))
  | 33 => if f.rt = 0#5 then .ok (.cvtDW f.rd f.sa) else .error (.mustBeZero (some 1#2))
  | _ => .error (reservedFmt f)

/-- COP1 with fmt L (30_encoding R229): a function not valid for the format is a reserved FPU encoding (R232). -/
def decodeFmtL (f : Fields) : Except Reject Instr :=
  match f.fn.toNat with
  | 32 => if f.rt = 0#5 then .ok (.cvtSL f.rd f.sa) else .error (.mustBeZero (some 1#2))
  | 33 => if f.rt = 0#5 then .ok (.cvtDL f.rd f.sa) else .error (.mustBeZero (some 1#2))
  | _ => .error (reservedFmt f)

/-- COP1, op 17 (30_encoding R228): reserved bits 25:21 below 16 are Reserved Instruction, from 16 on reserved
FPU encodings (R232). -/
def decodeCop1 (f : Fields) : Except Reject Instr :=
  match f.rs.toNat with
  | 0 => if f.sa = 0#5 ∧ f.fn = 0#6 then .ok (.mfc1 f.rt f.rd) else .error (.mustBeZero (some 1#2))
  | 1 => if f.sa = 0#5 ∧ f.fn = 0#6 then .ok (.dmfc1 f.rt f.rd) else .error (.mustBeZero (some 1#2))
  | 2 => if f.sa = 0#5 ∧ f.fn = 0#6 then .ok (.cfc1 f.rt f.rd) else .error (.mustBeZero (some 1#2))
  | 4 => if f.sa = 0#5 ∧ f.fn = 0#6 then .ok (.mtc1 f.rt f.rd) else .error (.mustBeZero (some 1#2))
  | 5 => if f.sa = 0#5 ∧ f.fn = 0#6 then .ok (.dmtc1 f.rt f.rd) else .error (.mustBeZero (some 1#2))
  | 6 => if f.sa = 0#5 ∧ f.fn = 0#6 then .ok (.ctc1 f.rt f.rd) else .error (.mustBeZero (some 1#2))
  | 8 => match (f.rt.extractLsb' 0 2).toNat with
      | 0 => .ok (.bc1f (f.rt.extractLsb' 2 3) f.imm)
      | 1 => .ok (.bc1t (f.rt.extractLsb' 2 3) f.imm)
      | 2 => .ok (.bc1fl (f.rt.extractLsb' 2 3) f.imm)
      | _ => .ok (.bc1tl (f.rt.extractLsb' 2 3) f.imm)
  | 16 => decodeFmtS f
  | 17 => decodeFmtD f
  | 20 => decodeFmtW f
  | 21 => decodeFmtL f
  | n => if n < 16 then .error (.reserved (some 1#2)) else .error (reservedFmt f)

/-- COP1X, op 19 (30_encoding R230). -/
def decodeCop1x (f : Fields) : Except Reject Instr :=
  match f.fn.toNat with
  | 0 => if f.rd = 0#5 then .ok (.lwxc1 f.rs f.rt f.sa) else .error (.mustBeZero (some 1#2))
  | 1 => if f.rd = 0#5 then .ok (.ldxc1 f.rs f.rt f.sa) else .error (.mustBeZero (some 1#2))
  | 8 => if f.sa = 0#5 then .ok (.swxc1 f.rs f.rt f.rd) else .error (.mustBeZero (some 1#2))
  | 9 => if f.sa = 0#5 then .ok (.sdxc1 f.rs f.rt f.rd) else .error (.mustBeZero (some 1#2))
  | 15 => if f.sa = 0#5 then .ok (.prefx f.rs f.rt f.rd) else .error (.mustBeZero (some 1#2))
  | 32 => .ok (.maddS f.rs f.rt f.rd f.sa)
  | 33 => .ok (.maddD f.rs f.rt f.rd f.sa)
  | 40 => .ok (.msubS f.rs f.rt f.rd f.sa)
  | 41 => .ok (.msubD f.rs f.rt f.rd f.sa)
  | 48 => .ok (.nmaddS f.rs f.rt f.rd f.sa)
  | 49 => .ok (.nmaddD f.rs f.rt f.rd f.sa)
  | 56 => .ok (.nmsubS f.rs f.rt f.rd f.sa)
  | 57 => .ok (.nmsubD f.rs f.rt f.rd f.sa)
  | _ => .error (.reserved (some 1#2))

/-- The major opcode map (30_encoding R224). -/
def decodeFields (f : Fields) : Except Reject Instr :=
  match f.op.toNat with
  | 0 => decodeSpecial f
  | 1 => decodeRegimm f
  | 16 => decodeCop0 f
  | 17 => decodeCop1 f
  | 18 => .error .coprocessor2
  | 19 => decodeCop1x f
  | 50 => .error .coprocessor2
  | 54 => .error .coprocessor2
  | 58 => .error .coprocessor2
  | 62 => .error .coprocessor2
  | 2 => .ok (.j f.target)
  | 3 => .ok (.jal f.target)
  | 4 => .ok (.beq f.rs f.rt f.imm)
  | 5 => .ok (.bne f.rs f.rt f.imm)
  | 6 => if f.rt = 0#5 then .ok (.blez f.rs f.imm) else .error (.mustBeZero none)
  | 7 => if f.rt = 0#5 then .ok (.bgtz f.rs f.imm) else .error (.mustBeZero none)
  | 8 => .ok (.addi f.rs f.rt f.imm)
  | 9 => .ok (.addiu f.rs f.rt f.imm)
  | 10 => .ok (.slti f.rs f.rt f.imm)
  | 11 => .ok (.sltiu f.rs f.rt f.imm)
  | 12 => .ok (.andi f.rs f.rt f.imm)
  | 13 => .ok (.ori f.rs f.rt f.imm)
  | 14 => .ok (.xori f.rs f.rt f.imm)
  | 15 => if f.rs = 0#5 then .ok (.lui f.rt f.imm) else .error (.mustBeZero none)
  | 20 => .ok (.beql f.rs f.rt f.imm)
  | 21 => .ok (.bnel f.rs f.rt f.imm)
  | 22 => if f.rt = 0#5 then .ok (.blezl f.rs f.imm) else .error (.mustBeZero none)
  | 23 => if f.rt = 0#5 then .ok (.bgtzl f.rs f.imm) else .error (.mustBeZero none)
  | 24 => .ok (.daddi f.rs f.rt f.imm)
  | 25 => .ok (.daddiu f.rs f.rt f.imm)
  | 26 => .ok (.ldl f.rs f.rt f.imm)
  | 27 => .ok (.ldr f.rs f.rt f.imm)
  | 32 => .ok (.lb f.rs f.rt f.imm)
  | 33 => .ok (.lh f.rs f.rt f.imm)
  | 34 => .ok (.lwl f.rs f.rt f.imm)
  | 35 => .ok (.lw f.rs f.rt f.imm)
  | 36 => .ok (.lbu f.rs f.rt f.imm)
  | 37 => .ok (.lhu f.rs f.rt f.imm)
  | 38 => .ok (.lwr f.rs f.rt f.imm)
  | 39 => .ok (.lwu f.rs f.rt f.imm)
  | 40 => .ok (.sb f.rs f.rt f.imm)
  | 41 => .ok (.sh f.rs f.rt f.imm)
  | 42 => .ok (.swl f.rs f.rt f.imm)
  | 43 => .ok (.sw f.rs f.rt f.imm)
  | 44 => .ok (.sdl f.rs f.rt f.imm)
  | 45 => .ok (.sdr f.rs f.rt f.imm)
  | 46 => .ok (.swr f.rs f.rt f.imm)
  | 47 => .ok (.cache f.rs f.rt f.imm)
  | 48 => .ok (.ll f.rs f.rt f.imm)
  | 49 => .ok (.lwc1 f.rs f.rt f.imm)
  | 51 => .ok (.pref f.rs f.rt f.imm)
  | 52 => .ok (.lld f.rs f.rt f.imm)
  | 53 => .ok (.ldc1 f.rs f.rt f.imm)
  | 55 => .ok (.ld f.rs f.rt f.imm)
  | 56 => .ok (.sc f.rs f.rt f.imm)
  | 57 => .ok (.swc1 f.rs f.rt f.imm)
  | 60 => .ok (.scd f.rs f.rt f.imm)
  | 61 => .ok (.sdc1 f.rs f.rt f.imm)
  | 63 => .ok (.sd f.rs f.rt f.imm)
  | _ => .error (.reserved none)

/-- The instruction of a word, or why it is none. -/
def decode (w : BitVec 32) : Except Reject Instr := decodeFields (fieldsOf w)

/-- The word of four bytes as memory holds them, first the lowest address (20_memory R144, R147). -/
def wordOfBytes (bigEndian : Bool) (b0 b1 b2 b3 : Byte) : BitVec 32 :=
  if bigEndian then b0 ++ b1 ++ b2 ++ b3 else b3 ++ b2 ++ b1 ++ b0

/-- The four bytes of a word in the same order. -/
def bytesOfWord (bigEndian : Bool) (w : BitVec 32) : List Byte :=
  let bs := [w.extractLsb' 24 8, w.extractLsb' 16 8, w.extractLsb' 8 8, w.extractLsb' 0 8]
  if bigEndian then bs else bs.reverse

/-- The decoder on any bytes: the instruction at their start and the bytes after it (30_encoding R220). -/
def decodeBytes (bigEndian : Bool) : List Byte → Option (Except Reject Instr × List Byte)
  | b0 :: b1 :: b2 :: b3 :: rest => some (decode (wordOfBytes bigEndian b0 b1 b2 b3), rest)
  | _ => none

/-- The instruction the decoder reads from the bits w of a row, laid out in memory as the hardware stores the
word (big-endian: bits 31:24 at the lowest address). -/
def decodeTableWord (nbits w : Nat) : Option Instr :=
  match decodeBytes true (bytesOfWord true (BitVec.ofNat 32 (w % 2 ^ nbits))) with
  | some (.ok i, _) => some i
  | _ => none

/-- The fields of an instruction, written from the same tables. -/
def encodeFields : Instr → Fields
  | .lb base rt offset => ⟨32#6, base, rt, (offset.extractLsb' 11 5), (offset.extractLsb' 6 5), (offset.extractLsb' 0 6)⟩
  | .lbu base rt offset => ⟨36#6, base, rt, (offset.extractLsb' 11 5), (offset.extractLsb' 6 5), (offset.extractLsb' 0 6)⟩
  | .lh base rt offset => ⟨33#6, base, rt, (offset.extractLsb' 11 5), (offset.extractLsb' 6 5), (offset.extractLsb' 0 6)⟩
  | .lhu base rt offset => ⟨37#6, base, rt, (offset.extractLsb' 11 5), (offset.extractLsb' 6 5), (offset.extractLsb' 0 6)⟩
  | .lw base rt offset => ⟨35#6, base, rt, (offset.extractLsb' 11 5), (offset.extractLsb' 6 5), (offset.extractLsb' 0 6)⟩
  | .lwu base rt offset => ⟨39#6, base, rt, (offset.extractLsb' 11 5), (offset.extractLsb' 6 5), (offset.extractLsb' 0 6)⟩
  | .ld base rt offset => ⟨55#6, base, rt, (offset.extractLsb' 11 5), (offset.extractLsb' 6 5), (offset.extractLsb' 0 6)⟩
  | .sb base rt offset => ⟨40#6, base, rt, (offset.extractLsb' 11 5), (offset.extractLsb' 6 5), (offset.extractLsb' 0 6)⟩
  | .sh base rt offset => ⟨41#6, base, rt, (offset.extractLsb' 11 5), (offset.extractLsb' 6 5), (offset.extractLsb' 0 6)⟩
  | .sw base rt offset => ⟨43#6, base, rt, (offset.extractLsb' 11 5), (offset.extractLsb' 6 5), (offset.extractLsb' 0 6)⟩
  | .sd base rt offset => ⟨63#6, base, rt, (offset.extractLsb' 11 5), (offset.extractLsb' 6 5), (offset.extractLsb' 0 6)⟩
  | .lwl base rt offset => ⟨34#6, base, rt, (offset.extractLsb' 11 5), (offset.extractLsb' 6 5), (offset.extractLsb' 0 6)⟩
  | .lwr base rt offset => ⟨38#6, base, rt, (offset.extractLsb' 11 5), (offset.extractLsb' 6 5), (offset.extractLsb' 0 6)⟩
  | .swl base rt offset => ⟨42#6, base, rt, (offset.extractLsb' 11 5), (offset.extractLsb' 6 5), (offset.extractLsb' 0 6)⟩
  | .swr base rt offset => ⟨46#6, base, rt, (offset.extractLsb' 11 5), (offset.extractLsb' 6 5), (offset.extractLsb' 0 6)⟩
  | .ldl base rt offset => ⟨26#6, base, rt, (offset.extractLsb' 11 5), (offset.extractLsb' 6 5), (offset.extractLsb' 0 6)⟩
  | .ldr base rt offset => ⟨27#6, base, rt, (offset.extractLsb' 11 5), (offset.extractLsb' 6 5), (offset.extractLsb' 0 6)⟩
  | .sdl base rt offset => ⟨44#6, base, rt, (offset.extractLsb' 11 5), (offset.extractLsb' 6 5), (offset.extractLsb' 0 6)⟩
  | .sdr base rt offset => ⟨45#6, base, rt, (offset.extractLsb' 11 5), (offset.extractLsb' 6 5), (offset.extractLsb' 0 6)⟩
  | .ll base rt offset => ⟨48#6, base, rt, (offset.extractLsb' 11 5), (offset.extractLsb' 6 5), (offset.extractLsb' 0 6)⟩
  | .lld base rt offset => ⟨52#6, base, rt, (offset.extractLsb' 11 5), (offset.extractLsb' 6 5), (offset.extractLsb' 0 6)⟩
  | .sc base rt offset => ⟨56#6, base, rt, (offset.extractLsb' 11 5), (offset.extractLsb' 6 5), (offset.extractLsb' 0 6)⟩
  | .scd base rt offset => ⟨60#6, base, rt, (offset.extractLsb' 11 5), (offset.extractLsb' 6 5), (offset.extractLsb' 0 6)⟩
  | .lwc1 base ft offset => ⟨49#6, base, ft, (offset.extractLsb' 11 5), (offset.extractLsb' 6 5), (offset.extractLsb' 0 6)⟩
  | .ldc1 base ft offset => ⟨53#6, base, ft, (offset.extractLsb' 11 5), (offset.extractLsb' 6 5), (offset.extractLsb' 0 6)⟩
  | .swc1 base ft offset => ⟨57#6, base, ft, (offset.extractLsb' 11 5), (offset.extractLsb' 6 5), (offset.extractLsb' 0 6)⟩
  | .sdc1 base ft offset => ⟨61#6, base, ft, (offset.extractLsb' 11 5), (offset.extractLsb' 6 5), (offset.extractLsb' 0 6)⟩
  | .lwxc1 base index fd => ⟨19#6, base, index, 0#5, fd, 0#6⟩
  | .ldxc1 base index fd => ⟨19#6, base, index, 0#5, fd, 1#6⟩
  | .swxc1 base index fs => ⟨19#6, base, index, fs, 0#5, 8#6⟩
  | .sdxc1 base index fs => ⟨19#6, base, index, fs, 0#5, 9#6⟩
  | .pref base hint offset => ⟨51#6, base, hint, (offset.extractLsb' 11 5), (offset.extractLsb' 6 5), (offset.extractLsb' 0 6)⟩
  | .prefx base index hint => ⟨19#6, base, index, hint, 0#5, 15#6⟩
  | .add rs rt rd => ⟨0#6, rs, rt, rd, 0#5, 32#6⟩
  | .addu rs rt rd => ⟨0#6, rs, rt, rd, 0#5, 33#6⟩
  | .sub rs rt rd => ⟨0#6, rs, rt, rd, 0#5, 34#6⟩
  | .subu rs rt rd => ⟨0#6, rs, rt, rd, 0#5, 35#6⟩
  | .dadd rs rt rd => ⟨0#6, rs, rt, rd, 0#5, 44#6⟩
  | .daddu rs rt rd => ⟨0#6, rs, rt, rd, 0#5, 45#6⟩
  | .dsub rs rt rd => ⟨0#6, rs, rt, rd, 0#5, 46#6⟩
  | .dsubu rs rt rd => ⟨0#6, rs, rt, rd, 0#5, 47#6⟩
  | .and rs rt rd => ⟨0#6, rs, rt, rd, 0#5, 36#6⟩
  | .or rs rt rd => ⟨0#6, rs, rt, rd, 0#5, 37#6⟩
  | .xor rs rt rd => ⟨0#6, rs, rt, rd, 0#5, 38#6⟩
  | .nor rs rt rd => ⟨0#6, rs, rt, rd, 0#5, 39#6⟩
  | .slt rs rt rd => ⟨0#6, rs, rt, rd, 0#5, 42#6⟩
  | .sltu rs rt rd => ⟨0#6, rs, rt, rd, 0#5, 43#6⟩
  | .movn rs rt rd => ⟨0#6, rs, rt, rd, 0#5, 11#6⟩
  | .movz rs rt rd => ⟨0#6, rs, rt, rd, 0#5, 10#6⟩
  | .addi rs rt imm => ⟨8#6, rs, rt, (imm.extractLsb' 11 5), (imm.extractLsb' 6 5), (imm.extractLsb' 0 6)⟩
  | .addiu rs rt imm => ⟨9#6, rs, rt, (imm.extractLsb' 11 5), (imm.extractLsb' 6 5), (imm.extractLsb' 0 6)⟩
  | .daddi rs rt imm => ⟨24#6, rs, rt, (imm.extractLsb' 11 5), (imm.extractLsb' 6 5), (imm.extractLsb' 0 6)⟩
  | .daddiu rs rt imm => ⟨25#6, rs, rt, (imm.extractLsb' 11 5), (imm.extractLsb' 6 5), (imm.extractLsb' 0 6)⟩
  | .andi rs rt imm => ⟨12#6, rs, rt, (imm.extractLsb' 11 5), (imm.extractLsb' 6 5), (imm.extractLsb' 0 6)⟩
  | .ori rs rt imm => ⟨13#6, rs, rt, (imm.extractLsb' 11 5), (imm.extractLsb' 6 5), (imm.extractLsb' 0 6)⟩
  | .xori rs rt imm => ⟨14#6, rs, rt, (imm.extractLsb' 11 5), (imm.extractLsb' 6 5), (imm.extractLsb' 0 6)⟩
  | .slti rs rt imm => ⟨10#6, rs, rt, (imm.extractLsb' 11 5), (imm.extractLsb' 6 5), (imm.extractLsb' 0 6)⟩
  | .sltiu rs rt imm => ⟨11#6, rs, rt, (imm.extractLsb' 11 5), (imm.extractLsb' 6 5), (imm.extractLsb' 0 6)⟩
  | .lui rt imm => ⟨15#6, 0#5, rt, (imm.extractLsb' 11 5), (imm.extractLsb' 6 5), (imm.extractLsb' 0 6)⟩
  | .movf rs cc rd => ⟨0#6, rs, (cc ++ 0#2), rd, 0#5, 1#6⟩
  | .movt rs cc rd => ⟨0#6, rs, (cc ++ 1#2), rd, 0#5, 1#6⟩
  | .sll rt rd sa => ⟨0#6, 0#5, rt, rd, sa, 0#6⟩
  | .srl rt rd sa => ⟨0#6, 0#5, rt, rd, sa, 2#6⟩
  | .sra rt rd sa => ⟨0#6, 0#5, rt, rd, sa, 3#6⟩
  | .dsll rt rd sa => ⟨0#6, 0#5, rt, rd, sa, 56#6⟩
  | .dsrl rt rd sa => ⟨0#6, 0#5, rt, rd, sa, 58#6⟩
  | .dsra rt rd sa => ⟨0#6, 0#5, rt, rd, sa, 59#6⟩
  | .dsll32 rt rd sa => ⟨0#6, 0#5, rt, rd, sa, 60#6⟩
  | .dsrl32 rt rd sa => ⟨0#6, 0#5, rt, rd, sa, 62#6⟩
  | .dsra32 rt rd sa => ⟨0#6, 0#5, rt, rd, sa, 63#6⟩
  | .sllv rs rt rd => ⟨0#6, rs, rt, rd, 0#5, 4#6⟩
  | .srlv rs rt rd => ⟨0#6, rs, rt, rd, 0#5, 6#6⟩
  | .srav rs rt rd => ⟨0#6, rs, rt, rd, 0#5, 7#6⟩
  | .dsllv rs rt rd => ⟨0#6, rs, rt, rd, 0#5, 20#6⟩
  | .dsrlv rs rt rd => ⟨0#6, rs, rt, rd, 0#5, 22#6⟩
  | .dsrav rs rt rd => ⟨0#6, rs, rt, rd, 0#5, 23#6⟩
  | .mult rs rt => ⟨0#6, rs, rt, 0#5, 0#5, 24#6⟩
  | .multu rs rt => ⟨0#6, rs, rt, 0#5, 0#5, 25#6⟩
  | .div rs rt => ⟨0#6, rs, rt, 0#5, 0#5, 26#6⟩
  | .divu rs rt => ⟨0#6, rs, rt, 0#5, 0#5, 27#6⟩
  | .dmult rs rt => ⟨0#6, rs, rt, 0#5, 0#5, 28#6⟩
  | .dmultu rs rt => ⟨0#6, rs, rt, 0#5, 0#5, 29#6⟩
  | .ddiv rs rt => ⟨0#6, rs, rt, 0#5, 0#5, 30#6⟩
  | .ddivu rs rt => ⟨0#6, rs, rt, 0#5, 0#5, 31#6⟩
  | .mfhi rd => ⟨0#6, 0#5, 0#5, rd, 0#5, 16#6⟩
  | .mflo rd => ⟨0#6, 0#5, 0#5, rd, 0#5, 18#6⟩
  | .mthi rs => ⟨0#6, rs, 0#5, 0#5, 0#5, 17#6⟩
  | .mtlo rs => ⟨0#6, rs, 0#5, 0#5, 0#5, 19#6⟩
  | .j target => ⟨2#6, (target.extractLsb' 21 5), (target.extractLsb' 16 5), (target.extractLsb' 11 5), (target.extractLsb' 6 5), (target.extractLsb' 0 6)⟩
  | .jal target => ⟨3#6, (target.extractLsb' 21 5), (target.extractLsb' 16 5), (target.extractLsb' 11 5), (target.extractLsb' 6 5), (target.extractLsb' 0 6)⟩
  | .jr rs => ⟨0#6, rs, 0#5, 0#5, 0#5, 8#6⟩
  | .jalr rs rd => ⟨0#6, rs, 0#5, rd, 0#5, 9#6⟩
  | .beq rs rt offset => ⟨4#6, rs, rt, (offset.extractLsb' 11 5), (offset.extractLsb' 6 5), (offset.extractLsb' 0 6)⟩
  | .bne rs rt offset => ⟨5#6, rs, rt, (offset.extractLsb' 11 5), (offset.extractLsb' 6 5), (offset.extractLsb' 0 6)⟩
  | .beql rs rt offset => ⟨20#6, rs, rt, (offset.extractLsb' 11 5), (offset.extractLsb' 6 5), (offset.extractLsb' 0 6)⟩
  | .bnel rs rt offset => ⟨21#6, rs, rt, (offset.extractLsb' 11 5), (offset.extractLsb' 6 5), (offset.extractLsb' 0 6)⟩
  | .blez rs offset => ⟨6#6, rs, 0#5, (offset.extractLsb' 11 5), (offset.extractLsb' 6 5), (offset.extractLsb' 0 6)⟩
  | .bgtz rs offset => ⟨7#6, rs, 0#5, (offset.extractLsb' 11 5), (offset.extractLsb' 6 5), (offset.extractLsb' 0 6)⟩
  | .blezl rs offset => ⟨22#6, rs, 0#5, (offset.extractLsb' 11 5), (offset.extractLsb' 6 5), (offset.extractLsb' 0 6)⟩
  | .bgtzl rs offset => ⟨23#6, rs, 0#5, (offset.extractLsb' 11 5), (offset.extractLsb' 6 5), (offset.extractLsb' 0 6)⟩
  | .bltz rs offset => ⟨1#6, rs, 0#5, (offset.extractLsb' 11 5), (offset.extractLsb' 6 5), (offset.extractLsb' 0 6)⟩
  | .bgez rs offset => ⟨1#6, rs, 1#5, (offset.extractLsb' 11 5), (offset.extractLsb' 6 5), (offset.extractLsb' 0 6)⟩
  | .bltzal rs offset => ⟨1#6, rs, 16#5, (offset.extractLsb' 11 5), (offset.extractLsb' 6 5), (offset.extractLsb' 0 6)⟩
  | .bgezal rs offset => ⟨1#6, rs, 17#5, (offset.extractLsb' 11 5), (offset.extractLsb' 6 5), (offset.extractLsb' 0 6)⟩
  | .bltzl rs offset => ⟨1#6, rs, 2#5, (offset.extractLsb' 11 5), (offset.extractLsb' 6 5), (offset.extractLsb' 0 6)⟩
  | .bgezl rs offset => ⟨1#6, rs, 3#5, (offset.extractLsb' 11 5), (offset.extractLsb' 6 5), (offset.extractLsb' 0 6)⟩
  | .bltzall rs offset => ⟨1#6, rs, 18#5, (offset.extractLsb' 11 5), (offset.extractLsb' 6 5), (offset.extractLsb' 0 6)⟩
  | .bgezall rs offset => ⟨1#6, rs, 19#5, (offset.extractLsb' 11 5), (offset.extractLsb' 6 5), (offset.extractLsb' 0 6)⟩
  | .bc1f cc offset => ⟨17#6, 8#5, (cc ++ 0#2), (offset.extractLsb' 11 5), (offset.extractLsb' 6 5), (offset.extractLsb' 0 6)⟩
  | .bc1t cc offset => ⟨17#6, 8#5, (cc ++ 1#2), (offset.extractLsb' 11 5), (offset.extractLsb' 6 5), (offset.extractLsb' 0 6)⟩
  | .bc1fl cc offset => ⟨17#6, 8#5, (cc ++ 2#2), (offset.extractLsb' 11 5), (offset.extractLsb' 6 5), (offset.extractLsb' 0 6)⟩
  | .bc1tl cc offset => ⟨17#6, 8#5, (cc ++ 3#2), (offset.extractLsb' 11 5), (offset.extractLsb' 6 5), (offset.extractLsb' 0 6)⟩
  | .syscall code => ⟨0#6, (code.extractLsb' 15 5), (code.extractLsb' 10 5), (code.extractLsb' 5 5), (code.extractLsb' 0 5), 12#6⟩
  | .brk code => ⟨0#6, (code.extractLsb' 15 5), (code.extractLsb' 10 5), (code.extractLsb' 5 5), (code.extractLsb' 0 5), 13#6⟩
  | .sync stype => ⟨0#6, 0#5, 0#5, 0#5, stype, 15#6⟩
  | .tge rs rt code => ⟨0#6, rs, rt, (code.extractLsb' 5 5), (code.extractLsb' 0 5), 48#6⟩
  | .tgeu rs rt code => ⟨0#6, rs, rt, (code.extractLsb' 5 5), (code.extractLsb' 0 5), 49#6⟩
  | .tlt rs rt code => ⟨0#6, rs, rt, (code.extractLsb' 5 5), (code.extractLsb' 0 5), 50#6⟩
  | .tltu rs rt code => ⟨0#6, rs, rt, (code.extractLsb' 5 5), (code.extractLsb' 0 5), 51#6⟩
  | .teq rs rt code => ⟨0#6, rs, rt, (code.extractLsb' 5 5), (code.extractLsb' 0 5), 52#6⟩
  | .tne rs rt code => ⟨0#6, rs, rt, (code.extractLsb' 5 5), (code.extractLsb' 0 5), 54#6⟩
  | .tgei rs imm => ⟨1#6, rs, 8#5, (imm.extractLsb' 11 5), (imm.extractLsb' 6 5), (imm.extractLsb' 0 6)⟩
  | .tgeiu rs imm => ⟨1#6, rs, 9#5, (imm.extractLsb' 11 5), (imm.extractLsb' 6 5), (imm.extractLsb' 0 6)⟩
  | .tlti rs imm => ⟨1#6, rs, 10#5, (imm.extractLsb' 11 5), (imm.extractLsb' 6 5), (imm.extractLsb' 0 6)⟩
  | .tltiu rs imm => ⟨1#6, rs, 11#5, (imm.extractLsb' 11 5), (imm.extractLsb' 6 5), (imm.extractLsb' 0 6)⟩
  | .teqi rs imm => ⟨1#6, rs, 12#5, (imm.extractLsb' 11 5), (imm.extractLsb' 6 5), (imm.extractLsb' 0 6)⟩
  | .tnei rs imm => ⟨1#6, rs, 14#5, (imm.extractLsb' 11 5), (imm.extractLsb' 6 5), (imm.extractLsb' 0 6)⟩
  | .mfc0 rt rd => ⟨16#6, 0#5, rt, rd, 0#5, 0#6⟩
  | .dmfc0 rt rd => ⟨16#6, 1#5, rt, rd, 0#5, 0#6⟩
  | .mtc0 rt rd => ⟨16#6, 4#5, rt, rd, 0#5, 0#6⟩
  | .dmtc0 rt rd => ⟨16#6, 5#5, rt, rd, 0#5, 0#6⟩
  | .tlbr => ⟨16#6, 16#5, 0#5, 0#5, 0#5, 1#6⟩
  | .tlbwi => ⟨16#6, 16#5, 0#5, 0#5, 0#5, 2#6⟩
  | .tlbwr => ⟨16#6, 16#5, 0#5, 0#5, 0#5, 6#6⟩
  | .tlbp => ⟨16#6, 16#5, 0#5, 0#5, 0#5, 8#6⟩
  | .eret => ⟨16#6, 16#5, 0#5, 0#5, 0#5, 24#6⟩
  | .cache base op5 offset => ⟨47#6, base, op5, (offset.extractLsb' 11 5), (offset.extractLsb' 6 5), (offset.extractLsb' 0 6)⟩
  | .mfc1 rt fs => ⟨17#6, 0#5, rt, fs, 0#5, 0#6⟩
  | .dmfc1 rt fs => ⟨17#6, 1#5, rt, fs, 0#5, 0#6⟩
  | .cfc1 rt fs => ⟨17#6, 2#5, rt, fs, 0#5, 0#6⟩
  | .mtc1 rt fs => ⟨17#6, 4#5, rt, fs, 0#5, 0#6⟩
  | .dmtc1 rt fs => ⟨17#6, 5#5, rt, fs, 0#5, 0#6⟩
  | .ctc1 rt fs => ⟨17#6, 6#5, rt, fs, 0#5, 0#6⟩
  | .movS fs fd => ⟨17#6, 16#5, 0#5, fs, fd, 6#6⟩
  | .movfS cc fs fd => ⟨17#6, 16#5, (cc ++ 0#2), fs, fd, 17#6⟩
  | .movtS cc fs fd => ⟨17#6, 16#5, (cc ++ 1#2), fs, fd, 17#6⟩
  | .movnS rt fs fd => ⟨17#6, 16#5, rt, fs, fd, 19#6⟩
  | .movzS rt fs fd => ⟨17#6, 16#5, rt, fs, fd, 18#6⟩
  | .movD fs fd => ⟨17#6, 17#5, 0#5, fs, fd, 6#6⟩
  | .movfD cc fs fd => ⟨17#6, 17#5, (cc ++ 0#2), fs, fd, 17#6⟩
  | .movtD cc fs fd => ⟨17#6, 17#5, (cc ++ 1#2), fs, fd, 17#6⟩
  | .movnD rt fs fd => ⟨17#6, 17#5, rt, fs, fd, 19#6⟩
  | .movzD rt fs fd => ⟨17#6, 17#5, rt, fs, fd, 18#6⟩
  | .addS ft fs fd => ⟨17#6, 16#5, ft, fs, fd, 0#6⟩
  | .subS ft fs fd => ⟨17#6, 16#5, ft, fs, fd, 1#6⟩
  | .mulS ft fs fd => ⟨17#6, 16#5, ft, fs, fd, 2#6⟩
  | .divS ft fs fd => ⟨17#6, 16#5, ft, fs, fd, 3#6⟩
  | .sqrtS fs fd => ⟨17#6, 16#5, 0#5, fs, fd, 4#6⟩
  | .absS fs fd => ⟨17#6, 16#5, 0#5, fs, fd, 5#6⟩
  | .negS fs fd => ⟨17#6, 16#5, 0#5, fs, fd, 7#6⟩
  | .recipS fs fd => ⟨17#6, 16#5, 0#5, fs, fd, 21#6⟩
  | .rsqrtS fs fd => ⟨17#6, 16#5, 0#5, fs, fd, 22#6⟩
  | .addD ft fs fd => ⟨17#6, 17#5, ft, fs, fd, 0#6⟩
  | .subD ft fs fd => ⟨17#6, 17#5, ft, fs, fd, 1#6⟩
  | .mulD ft fs fd => ⟨17#6, 17#5, ft, fs, fd, 2#6⟩
  | .divD ft fs fd => ⟨17#6, 17#5, ft, fs, fd, 3#6⟩
  | .sqrtD fs fd => ⟨17#6, 17#5, 0#5, fs, fd, 4#6⟩
  | .absD fs fd => ⟨17#6, 17#5, 0#5, fs, fd, 5#6⟩
  | .negD fs fd => ⟨17#6, 17#5, 0#5, fs, fd, 7#6⟩
  | .recipD fs fd => ⟨17#6, 17#5, 0#5, fs, fd, 21#6⟩
  | .rsqrtD fs fd => ⟨17#6, 17#5, 0#5, fs, fd, 22#6⟩
  | .maddS fr ft fs fd => ⟨19#6, fr, ft, fs, fd, 32#6⟩
  | .maddD fr ft fs fd => ⟨19#6, fr, ft, fs, fd, 33#6⟩
  | .msubS fr ft fs fd => ⟨19#6, fr, ft, fs, fd, 40#6⟩
  | .msubD fr ft fs fd => ⟨19#6, fr, ft, fs, fd, 41#6⟩
  | .nmaddS fr ft fs fd => ⟨19#6, fr, ft, fs, fd, 48#6⟩
  | .nmaddD fr ft fs fd => ⟨19#6, fr, ft, fs, fd, 49#6⟩
  | .nmsubS fr ft fs fd => ⟨19#6, fr, ft, fs, fd, 56#6⟩
  | .nmsubD fr ft fs fd => ⟨19#6, fr, ft, fs, fd, 57#6⟩
  | .cFS ft fs cc => ⟨17#6, 16#5, ft, fs, (cc ++ 0#2), 48#6⟩
  | .cUnS ft fs cc => ⟨17#6, 16#5, ft, fs, (cc ++ 0#2), 49#6⟩
  | .cEqS ft fs cc => ⟨17#6, 16#5, ft, fs, (cc ++ 0#2), 50#6⟩
  | .cUeqS ft fs cc => ⟨17#6, 16#5, ft, fs, (cc ++ 0#2), 51#6⟩
  | .cOltS ft fs cc => ⟨17#6, 16#5, ft, fs, (cc ++ 0#2), 52#6⟩
  | .cUltS ft fs cc => ⟨17#6, 16#5, ft, fs, (cc ++ 0#2), 53#6⟩
  | .cOleS ft fs cc => ⟨17#6, 16#5, ft, fs, (cc ++ 0#2), 54#6⟩
  | .cUleS ft fs cc => ⟨17#6, 16#5, ft, fs, (cc ++ 0#2), 55#6⟩
  | .cSfS ft fs cc => ⟨17#6, 16#5, ft, fs, (cc ++ 0#2), 56#6⟩
  | .cNgleS ft fs cc => ⟨17#6, 16#5, ft, fs, (cc ++ 0#2), 57#6⟩
  | .cSeqS ft fs cc => ⟨17#6, 16#5, ft, fs, (cc ++ 0#2), 58#6⟩
  | .cNglS ft fs cc => ⟨17#6, 16#5, ft, fs, (cc ++ 0#2), 59#6⟩
  | .cLtS ft fs cc => ⟨17#6, 16#5, ft, fs, (cc ++ 0#2), 60#6⟩
  | .cNgeS ft fs cc => ⟨17#6, 16#5, ft, fs, (cc ++ 0#2), 61#6⟩
  | .cLeS ft fs cc => ⟨17#6, 16#5, ft, fs, (cc ++ 0#2), 62#6⟩
  | .cNgtS ft fs cc => ⟨17#6, 16#5, ft, fs, (cc ++ 0#2), 63#6⟩
  | .cFD ft fs cc => ⟨17#6, 17#5, ft, fs, (cc ++ 0#2), 48#6⟩
  | .cUnD ft fs cc => ⟨17#6, 17#5, ft, fs, (cc ++ 0#2), 49#6⟩
  | .cEqD ft fs cc => ⟨17#6, 17#5, ft, fs, (cc ++ 0#2), 50#6⟩
  | .cUeqD ft fs cc => ⟨17#6, 17#5, ft, fs, (cc ++ 0#2), 51#6⟩
  | .cOltD ft fs cc => ⟨17#6, 17#5, ft, fs, (cc ++ 0#2), 52#6⟩
  | .cUltD ft fs cc => ⟨17#6, 17#5, ft, fs, (cc ++ 0#2), 53#6⟩
  | .cOleD ft fs cc => ⟨17#6, 17#5, ft, fs, (cc ++ 0#2), 54#6⟩
  | .cUleD ft fs cc => ⟨17#6, 17#5, ft, fs, (cc ++ 0#2), 55#6⟩
  | .cSfD ft fs cc => ⟨17#6, 17#5, ft, fs, (cc ++ 0#2), 56#6⟩
  | .cNgleD ft fs cc => ⟨17#6, 17#5, ft, fs, (cc ++ 0#2), 57#6⟩
  | .cSeqD ft fs cc => ⟨17#6, 17#5, ft, fs, (cc ++ 0#2), 58#6⟩
  | .cNglD ft fs cc => ⟨17#6, 17#5, ft, fs, (cc ++ 0#2), 59#6⟩
  | .cLtD ft fs cc => ⟨17#6, 17#5, ft, fs, (cc ++ 0#2), 60#6⟩
  | .cNgeD ft fs cc => ⟨17#6, 17#5, ft, fs, (cc ++ 0#2), 61#6⟩
  | .cLeD ft fs cc => ⟨17#6, 17#5, ft, fs, (cc ++ 0#2), 62#6⟩
  | .cNgtD ft fs cc => ⟨17#6, 17#5, ft, fs, (cc ++ 0#2), 63#6⟩
  | .cvtWS fs fd => ⟨17#6, 16#5, 0#5, fs, fd, 36#6⟩
  | .cvtLS fs fd => ⟨17#6, 16#5, 0#5, fs, fd, 37#6⟩
  | .roundWS fs fd => ⟨17#6, 16#5, 0#5, fs, fd, 12#6⟩
  | .truncWS fs fd => ⟨17#6, 16#5, 0#5, fs, fd, 13#6⟩
  | .ceilWS fs fd => ⟨17#6, 16#5, 0#5, fs, fd, 14#6⟩
  | .floorWS fs fd => ⟨17#6, 16#5, 0#5, fs, fd, 15#6⟩
  | .roundLS fs fd => ⟨17#6, 16#5, 0#5, fs, fd, 8#6⟩
  | .truncLS fs fd => ⟨17#6, 16#5, 0#5, fs, fd, 9#6⟩
  | .ceilLS fs fd => ⟨17#6, 16#5, 0#5, fs, fd, 10#6⟩
  | .floorLS fs fd => ⟨17#6, 16#5, 0#5, fs, fd, 11#6⟩
  | .cvtWD fs fd => ⟨17#6, 17#5, 0#5, fs, fd, 36#6⟩
  | .cvtLD fs fd => ⟨17#6, 17#5, 0#5, fs, fd, 37#6⟩
  | .roundWD fs fd => ⟨17#6, 17#5, 0#5, fs, fd, 12#6⟩
  | .truncWD fs fd => ⟨17#6, 17#5, 0#5, fs, fd, 13#6⟩
  | .ceilWD fs fd => ⟨17#6, 17#5, 0#5, fs, fd, 14#6⟩
  | .floorWD fs fd => ⟨17#6, 17#5, 0#5, fs, fd, 15#6⟩
  | .roundLD fs fd => ⟨17#6, 17#5, 0#5, fs, fd, 8#6⟩
  | .truncLD fs fd => ⟨17#6, 17#5, 0#5, fs, fd, 9#6⟩
  | .ceilLD fs fd => ⟨17#6, 17#5, 0#5, fs, fd, 10#6⟩
  | .floorLD fs fd => ⟨17#6, 17#5, 0#5, fs, fd, 11#6⟩
  | .cvtSD fs fd => ⟨17#6, 17#5, 0#5, fs, fd, 32#6⟩
  | .cvtSW fs fd => ⟨17#6, 20#5, 0#5, fs, fd, 32#6⟩
  | .cvtSL fs fd => ⟨17#6, 21#5, 0#5, fs, fd, 32#6⟩
  | .cvtDS fs fd => ⟨17#6, 16#5, 0#5, fs, fd, 33#6⟩
  | .cvtDW fs fd => ⟨17#6, 20#5, 0#5, fs, fd, 33#6⟩
  | .cvtDL fs fd => ⟨17#6, 21#5, 0#5, fs, fd, 33#6⟩

/-- The word of a well-formed instruction. -/
def encode (i : Instr) : BitVec 32 := (encodeFields i).pack

end Sys2Proof
end

