-- ==== Sys2Proof/Config.lean ====
section
/-! DEFINITION. What the spec leaves open: the FREE VALUES (constants with no body, so that nothing can be
proved of them) and the parameters of 00_scope R8 that are one value for the model. -/

namespace Sys2Proof

/-- The places of the spec at which a value is left open. Each names one free value of one step. -/
inductive Draw where
  /-- result of a 32-bit operation on an operand that is not a sign-extended word (10_state R39) -/
  | result
  /-- whether such an ADD, SUB or ADDI reports overflow -/
  | overflow
  /-- HI and LO where the spec gives no value (43_muldiv R361, R365 to R374) -/
  | hi | lo
  /-- bits 63:32 after LWR (40_load_store R276), of a CP0 move (10_state R96), of an FGR (10_state R53) -/
  | upper
  /-- whether a store conditional succeeds (40_load_store R285) -/
  | storeConditional
  /-- old or new condition code in the slot after a compare (70_reset_and_hazards R714) -/
  | conditionAge
  /-- which of the contents of byte k of the word a fetch from stored code sees (20_memory R194) -/
  | fetchAge (k : Nat)
  /-- which value of CP0 register n, of TLB entry n - 64, of the timer latch (n = 32) the fetch or the execution of an
  instruction sees after a recent CP0 or TLB write (70_reset_and_hazards R712) -/
  | seen (fetch : Bool) (n : Nat)
  /-- what a device answers to a fetch or a load (20_memory R155) -/
  | device (fetch : Bool)
  /-- the frame of a 4-Kbyte page when PFN bits lie inside the page offset (20_memory R182) -/
  | frame (page : Nat)
  /-- Cause.CE, Cause.BD (60_exceptions R620) -/
  | causeCE | causeBD
  /-- register fields an address or TLB exception leaves undefined (20_memory R185) -/
  | entryLo0 | entryLo1 | contextVpn | xcontextVpn | entryHiVpn
  /-- the pc k bytes on past 0xFFFF FFFF FFFF FFFC (10_state R37) -/
  | wrapPc (k : Nat)
  /-- the amount Count advances (10_state R78), the next Random (10_state R72), the timer latch (60_exceptions R664) -/
  | countStep | random | timerLatch
  /-- results of CP0 reads, TLBP, TLBR and CACHE that the spec calls unpredictable (46_cp0 R447 to R453) -/
  | cp0Value | probeIndex | tlbVpn | cacheHit | tagLo | ecc
  /-- a control register FCR1 to FCR30 (47_fpu_move R475) -/
  | fcrValue
  /-- general register n, FPU register n, TLB entry n (word k), a CP0 register n, after an event that leaves it undefined -/
  | gpr (n : Nat) | fgr (n : Nat) | tlbWord (n k : Nat) | cp0 (n : Nat) | hidden (n : Nat)
  /-- byte k of a physical line whose cached contents may have been discarded (46_cp0 R452) -/
  | lineByte (line k : Nat)
deriving DecidableEq, Repr

/-- The free value of a place at the n-th step: no body, so a claim holds whatever it is (log 2). -/
opaque Config.freeValue : Nat → Draw → Word

/-- The format of a floating-point operand (48_fpu_arith R510). -/
inductive FpFmt where
  | s | d
deriving DecidableEq, Repr

/-- The four rounding modes (10_state R59). -/
inductive Rounding where
  | rn | rz | rp | rm
deriving DecidableEq, Repr

/-- RECIP.fmt of a normal operand that has no tiny reciprocal: implementation dependent, so free (the parameter
`Recip`, 48_fpu_arith R527; log 28). -/
opaque Config.recip : FpFmt → Rounding → Word → Word
/-- Whether that RECIP.fmt result is inexact. -/
opaque Config.recipInexact : FpFmt → Rounding → Word → Bool
/-- The same for RSQRT.fmt of a positive normal operand (the parameter `Rsqrt`, 48_fpu_arith R528; log 28). -/
opaque Config.rsqrt : FpFmt → Rounding → Word → Word
/-- Whether that RSQRT.fmt result is inexact. -/
opaque Config.rsqrtInexact : FpFmt → Rounding → Word → Bool

/-- How often in a row a tight LL to SC loop begun at step n may fail although LLbit is set: finite, and nothing else
is known of it (40_load_store R285, 92 D30; log 21). -/
opaque Config.scRetries : Nat → Nat

end Sys2Proof
end

