-- ==== Sys2Proof/Machine/State.lean ====
section
/-! DEFINITION. The machine's state as plain data, the reasons a step can stop, and the state after reset
(spec 10_state R30 to R120). -/

namespace Sys2Proof.Machine

/-- Where HI or LO was last written from (43_muldiv R361). -/
inductive HiLoTag where
  | arith | moved
deriving DecidableEq, Repr

/-- One TLB entry (10_state R100). -/
structure TlbEntry where
  mask : BitVec 12
  r : BitVec 2
  vpn2 : BitVec 27
  asid : BitVec 8
  g : Bool
  pfn0 : BitVec 24
  c0 : BitVec 3
  d0 : Bool
  v0 : Bool
  pfn1 : BitVec 24
  c1 : BitVec 3
  d1 : Bool
  v1 : Bool
  /-- the model's own mark: software has written the entry since the last cold reset (70_reset_and_hazards R704) -/
  written : Bool
deriving DecidableEq, Repr

/-- The CP0 registers (10_state R70 to R93), each as the word software moves. Random holds its six bits;
Cause holds BD, CE, IP(1:0) and ExcCode only, since IP(7:2) follow the interrupt inputs (10_state R113). -/
structure Cp0 where
  index : BitVec 32
  random : BitVec 6
  entryLo0 : Word
  entryLo1 : Word
  context : Word
  pageMask : BitVec 32
  wired : BitVec 32
  badVAddr : Word
  count : BitVec 32
  entryHi : Word
  compare : BitVec 32
  status : BitVec 32
  cause : BitVec 32
  epc : Word
  prid : BitVec 32
  config : BitVec 32
  llAddr : BitVec 32
  xcontext : Word
  ecc : BitVec 32
  cacheErr : BitVec 32
  tagLo : BitVec 32
  tagHi : BitVec 32
  errorEpc : Word
deriving DecidableEq, Repr

/-- What answers at a physical address (00_scope R8 PhysMap). -/
inductive RegionKind where
  | ram | rom | device | none
deriving DecidableEq, Repr

/-- A region of the platform's physical map. -/
structure Region where
  base : Nat
  size : Nat
  kind : RegionKind
deriving DecidableEq, Repr

/-- What the environment reports of a parity or ECC error, whichever reference meets it: the fields ED, ET, ES and EE
of CacheErr (10_state R91). -/
structure ParityError where
  ed : Bool
  et : Bool
  es : Bool
  ee : Bool
deriving DecidableEq, Repr

/-- A Cache Error as CacheErr records it (10_state R91). There is no EC: the cache level 1 is reserved and never
produced (93_implementation_defined U12). -/
structure CacheError where
  er : Bool
  ed : Bool
  et : Bool
  es : Bool
  ee : Bool
  eb : Bool
deriving DecidableEq, Repr

/-- The inputs of the processor at the next step (00_scope R8; 60_exceptions R611, R631, R650). -/
structure Pins where
  /-- level of the external requests Int[5:0] -/
  int : BitVec 6
  /-- pending NMI, Soft Reset and cold Reset events -/
  nmi : Bool
  reset : Bool
  coldReset : Bool
  /-- a cache error that accompanies the next fetch, with whether a data error occurred in addition (EB of 10_state
  R91), and one that accompanies the next data access -/
  fetchCacheError : Option (ParityError × Bool)
  dataCacheError : Option ParityError
  /-- a bus error that accompanies the next fetch, the next load -/
  fetchBusError : Bool
  dataBusError : Bool
deriving DecidableEq, Repr

/-- A byte that has been stored to since the last write-back and invalidate sequence covered it (20_memory R194):
the older contents that the instruction cache may still hold, and those it may be filled with again, because no Hit
Write Back of the line has come since. -/
structure StaleByte where
  addr : Nat
  olds : List Byte
  held : List Byte
deriving DecidableEq, Repr

/-- What may stand in the write buffer of one store, or of one line written back (20_memory R191): the bytes it writes,
the contents that memory may still have of them until then, and how many stores have certainly entered the buffer
since. -/
structure Buffered where
  bytes : List Nat
  olds : List Host.Cell
  after : Nat
deriving DecidableEq, Repr

/-- The system state as it was before a recent CP0 or TLB write, and for how many executed instructions, the writing
one included, a dependent one may still see it (70_reset_and_hazards R712). -/
structure OldSystem where
  left : Nat
  cp0 : Cp0
  tlb : Vector TlbEntry 48
  timerLatch : Bool
deriving DecidableEq, Repr

/-- The retries of a loop of LL and SC that the fairness of SC is about (40_load_store R285): the physical address of
its LL, whether the machine is between that LL and its SC with no load, store, exception or ERET since, the step at
which the loop began, and how often its SC has failed. -/
structure LinkLoop where
  addr : Option PAddr
  armed : Bool
  start : Nat
  fails : Nat
deriving DecidableEq, Repr

/-- Which cache lines software has initialised since the last cold or soft reset (70_reset_and_hazards R703): the
1024 lines of each primary cache, and the lines of the secondary cache invalidated since it was enabled. -/
structure CacheInit where
  icache : BitVec 1024
  dcache : BitVec 1024
  secondary : BitVec 65536
deriving DecidableEq, Repr

/-- The whole machine: every piece of state the spec names (INVENTORY.md lists each with its rule). -/
structure State where
  /-- program counter (10_state R35) -/
  pc : Word
  /-- delay-slot record: where the pc goes after the delay slot now at pc (10_state R36, R112) -/
  next : Option Word
  /-- general registers; register 0 reads as zero through `gpr` (10_state R30, R32) -/
  regs : Vector Word 32
  /-- HI, LO and their tags (10_state R34; 43_muldiv R361) -/
  hi : Word
  lo : Word
  hiTag : HiLoTag
  loTag : HiLoTag
  /-- hi_guard, lo_guard (43_muldiv R362) -/
  hiGuard : Nat
  loGuard : Nat
  /-- LLbit (10_state R38), and the loop that the fairness of SC is about (40_load_store R285) -/
  llbit : Bool
  link : LinkLoop
  /-- floating-point general registers (10_state R50) -/
  fgr : Vector Word 32
  /-- FCR0, FCR31 (10_state R55, R56) -/
  fcr0 : BitVec 32
  fcr31 : BitVec 32
  /-- the condition codes before the last instruction (70_reset_and_hazards R714) -/
  fccPrev : BitVec 8
  cp0 : Cp0
  /-- the timer latch behind IP(7) (60_exceptions R664) -/
  timerLatch : Bool
  /-- Wired was written by this instruction, so Random stays 47 (10_state R72) -/
  randomHold : Bool
  /-- the 48 TLB entries (10_state R100) -/
  tlb : Vector TlbEntry 48
  /-- the system state before each recent CP0 or TLB write, the newest first (70_reset_and_hazards R712) -/
  recent : List OldSystem
  /-- physical memory, canonical (Machine/Memory.lean) -/
  mem : List Host.Cell
  /-- stored bytes not yet made visible to instruction fetch (20_memory R194) -/
  stale : List StaleByte
  /-- the ghost set MaybeDirty of 32-byte physical lines (46_cp0 R452) -/
  maybeDirty : List Nat
  /-- the contents that memory may still have of bytes stored to, because the store may not have left the data cache
  (20_memory R194) -/
  unwritten : List Host.Cell
  /-- the stores that may still be in the write buffer, the newest first (20_memory R191, 70_reset_and_hazards R701) -/
  writeBuffer : List Buffered
  /-- the bytes of the stores to devices among them that the device may not have seen (60_exceptions R654) -/
  deviceStores : List (List Nat)
  /-- which cache lines have been initialised (70_reset_and_hazards R703) -/
  caches : CacheInit
  /-- parameters (00_scope R8): PhysMap, TimerIntOnIP7, HILO_HAZARD, CP0_HAZARD, DefaultQNaN_S, DefaultQNaN_D -/
  physMap : List Region
  timerIntOnIP7 : Bool
  hiloHazard : Bool
  cp0Hazard : Nat
  qnanS : BitVec 32
  qnanD : Word
  /-- the inputs -/
  pins : Pins
  /-- the model's own field: how many steps have drawn free values (log 2) -/
  draws : Nat
deriving DecidableEq, Repr

/-- Why the machine has no next state (93_implementation_defined, treatment `stuck`). -/
inductive Fault where
  /-- two TLB entries match one address (20_memory R184); raised by translation and TLBP; safe -/
  | multipleTlbMatch
  /-- a mapped access or TLBP while an entry's Mask is not in Table 4.9 (20_memory R183); safe -/
  | illegalPageMask
  /-- Status.KSU = 3 with EXL = ERL = 0 where the mode matters (60_exceptions R670); safe -/
  | undefinedMode
  /-- TLBR or TLBWI with Index above 47 (10_state R71); safe -/
  | indexAboveTlb
  /-- TLBWR with Wired above 47 (10_state R76); safe -/
  | wiredAboveTlb
  /-- an access through a cache attribute 4 to 7 (20_memory R178); safe -/
  | reservedCacheAttribute
deriving DecidableEq, Repr

/-- Why the model gives an instruction no meaning (93_implementation_defined, treatment `refuse`). -/
inductive Refusal where
  /-- the instruction's meaning is not written yet; raised by exec; safe -/
  | notModelled (mnemonic : String)
  /-- a jump or branch in a delay slot (44_jump_branch R383); safe -/
  | branchInDelaySlot
  /-- ERET in a delay slot (46_cp0 R448); safe -/
  | eretInDelaySlot
  /-- JALR with rd = rs, or a linking branch that tests register 31 (44_jump_branch R388, R395); safe -/
  | linkRegisterSource
  /-- a must-be-zero field of an instruction word is not zero (30_encoding R233); safe -/
  | mustBeZeroField
  /-- a MIPS IV instruction with CU3 = 0 in Kernel or Supervisor mode (30_encoding R239); safe -/
  | mips4NotEnabled
  /-- a coprocessor 2 word with CU2 = 1 (46_cp0 R454); safe -/
  | coprocessor2
  /-- an odd FPR number with Status.FR = 0 (10_state R52, R53); safe -/
  | oddFpr
  /-- CTC1 to FCR0 to FCR30 (47_fpu_move R483); safe -/
  | reservedFcrWrite
  /-- an instruction fetch in User mode with Status.RE = 1 (20_memory R147); safe -/
  | reverseEndianFetch
  /-- a CACHE operation the spec leaves undefined (46_cp0 R450 to R452); safe -/
  | cacheOpUndefined
  /-- a cacheable access to a device, which is outside the model (20_memory R155); safe -/
  | deviceAccess
  /-- HI or LO written within two instructions after MFHI, MFLO, with HILO_HAZARD (43_muldiv R362); safe -/
  | hiLoHazard
  /-- a fetch, load or store through a cached attribute before the caches are initialised
  (70_reset_and_hazards R703); safe -/
  | cacheNotInitialised
  /-- a mapped access before software has written every TLB entry (70_reset_and_hazards R704); safe -/
  | tlbNotInitialised
deriving DecidableEq, Repr

/-- The TLB entry i of the after-boot state: invalid, with a VPN2 of its own in kseg0 (70_reset_and_hazards
R704, R706; log 3), and not written by software. -/
def TlbEntry.atReset (i : Nat) : TlbEntry :=
  { mask := 0#12, r := 3#2, vpn2 := BitVec.ofNat 27 (0x7FC0000 + i), asid := 0#8, g := false,
    pfn0 := 0#24, c0 := 0#3, d0 := false, v0 := false, pfn1 := 0#24, c1 := 0#3, d1 := false, v1 := false,
    written := false }

/-- No input asserted. -/
def Pins.quiet : Pins :=
  { int := 0#6, nmi := false, reset := false, coldReset := false, fetchCacheError := Option.none,
    dataCacheError := Option.none, fetchBusError := false, dataBusError := false }

/-- No cache line initialised (70_reset_and_hazards R703). -/
def CacheInit.none : CacheInit := { icache := 0#1024, dcache := 0#1024, secondary := 0#65536 }

/-- Every cache line initialised. -/
def CacheInit.all : CacheInit :=
  { icache := BitVec.allOnes 1024, dcache := BitVec.allOnes 1024, secondary := BitVec.allOnes 65536 }

/-- The CP0 registers after reset: Status BEV = ERL = 1, SR = 0, Random = 47, Wired = 0, Config and PRId by
their constant fields (10_state R120); the rest, Config.SC = 0 among it, as log 3 and log 7 name them. -/
def Cp0.reset : Cp0 :=
  { index := 0#32, random := 47#6, entryLo0 := 0#64, entryLo1 := 0#64, context := 0#64, pageMask := 0#32,
    wired := 0#32, badVAddr := 0#64, count := 0#32, entryHi := 0#64, compare := 0#32,
    status := 0xB4400004#32, cause := 0#32, epc := 0#64, prid := 0x00002310#32, config := 0x0000E6F3#32,
    llAddr := 0#32, xcontext := 0#64, ecc := 0#32, cacheErr := 0#32, tagLo := 0#32, tagHi := 0#32,
    errorEpc := 0#64 }

/-- The machine right after reset (10_state R120; 70_reset_and_hazards R700). What the spec leaves undefined there, the
timer latch (false) among it, is the model's choice (log 3). -/
def State.reset : State :=
  { pc := 0xFFFFFFFFBFC00000#64, next := Option.none,
    regs := Vector.replicate 32 0#64, hi := 0#64, lo := 0#64, hiTag := .moved, loTag := .moved,
    hiGuard := 0, loGuard := 0, llbit := false, link := { addr := Option.none, armed := false, start := 0, fails := 0 },
    fgr := Vector.replicate 32 0#64, fcr0 := 0x00002310#32, fcr31 := 0#32, fccPrev := 0#8,
    cp0 := Cp0.reset, timerLatch := false, randomHold := false,
    tlb := Vector.ofFn fun i => TlbEntry.atReset i.val, recent := [],
    mem := [], stale := [], maybeDirty := [], unwritten := [], writeBuffer := [], deviceStores := [],
    caches := CacheInit.none,
    physMap := [{ base := 0, size := 0x1000000000, kind := .ram }],
    timerIntOnIP7 := true, hiloHazard := true, cp0Hazard := 0,
    qnanS := 0x7FBFFFFF#32, qnanD := 0x7FF7FFFFFFFFFFFF#64, pins := Pins.quiet, draws := 0 }

end Sys2Proof.Machine
end

