-- ==== Sys2Proof/Machine/Memory.lean ====
section
/-! DEFINITION. Physical memory as a canonical list of (address, byte) pairs, and the bytes an instruction fetch
may still see as they were (spec 20_memory R145, R194). -/

namespace Sys2Proof.Machine

/-- What an address that memory does not list reads as: 0. DESIGN CHOICE, unsafe: the spec leaves memory after
reset undefined (70_reset_and_hazards R700; log 4). -/
def unlistedByte : Byte := 0#8

/-- The byte at an address. -/
def memRead : List Host.Cell → Nat → Byte
  | [], _ => unlistedByte
  | c :: m, a => if c.1 = a then c.2 else memRead m a

/-- A cell put in its place by address. -/
def memInsert (c : Host.Cell) : List Host.Cell → List Host.Cell
  | [] => [c]
  | d :: m => if c.1 < d.1 then c :: d :: m else d :: memInsert c m

/-- One byte written; writing what an unlisted address reads as removes the entry. -/
def memWrite (m : List Host.Cell) (a : Nat) (v : Byte) : List Host.Cell :=
  let rest := m.filter fun c => decide (c.1 ≠ a)
  if v = unlistedByte then rest else memInsert (a, v) rest

/-- Whether every address of the list is above a. -/
def memAbove (a : Nat) (m : List Host.Cell) : Bool := m.all fun c => decide (a < c.1)

/-- The canonical form: addresses strictly rising, no entry equal to what an unlisted address reads as. -/
def Memory.wf : List Host.Cell → Bool
  | [] => true
  | c :: m => memAbove c.1 m && decide (c.2 ≠ unlistedByte) && Memory.wf m

/-- The bytes v0, v1, … at the addresses a, a + 1, … under an address permutation (20_memory R145's B). -/
def memWriteAll (lane : Nat → Nat) : List Host.Cell → Nat → List Byte → List Host.Cell
  | m, _, [] => m
  | m, a, v :: vs => memWriteAll lane (memWrite m (lane a) v) (a + 1) vs

/-- A store to one byte: a fetch may see its old contents until write-back and invalidate (20_memory R194). -/
def staleMark (st : List StaleByte) (a : Nat) (old : Byte) : List StaleByte :=
  if st.any (fun e => e.addr == a) then
    st.map fun e => if e.addr = a then { e with olds := e.olds.insert old, held := e.held.insert old } else e
  else { addr := a, olds := [old], held := [old] } :: st

/-- The same for the n bytes from a, with their contents in the memory before the store. -/
def staleMarkAll (lane : Nat → Nat) (m : List Host.Cell) : List StaleByte → Nat → Nat → List StaleByte
  | st, _, 0 => st
  | st, a, n + 1 => staleMarkAll lane m (staleMark st (lane a) (memRead m (lane a))) (a + 1) n

/-- The 32-byte line of a physical address (46_cp0 R452). -/
def lineOf (a : Nat) : Nat := a / 32

/-- The older contents of a byte that the instruction cache may hold. -/
def staleOlds (st : List StaleByte) (a : Nat) : List Byte :=
  match st.find? (fun e => e.addr == a) with
  | none => []
  | some e => e.olds

/-- The contents of the bytes at some addresses, each with its address. -/
def contents (m : List Host.Cell) (as : List Nat) : List Host.Cell := as.map fun a => (a, memRead m a)

/-- The addresses of a 32-byte line. -/
def lineBytes (line : Nat) : List Nat := (List.range 32).map fun k => 32 * line + k

/-- The write-back step of 20_memory R194 over one line: the instruction cache can only be filled with the stored
bytes. -/
def staleWriteBack (st : List StaleByte) (line : Nat) : List StaleByte :=
  st.map fun e => if lineOf e.addr = line then { e with held := [] } else e

/-- The invalidate step of 20_memory R194 over one line: the instruction cache can hold no older contents of a byte
than it may be filled with. -/
def staleInvalidate (st : List StaleByte) (line : Nat) : List StaleByte :=
  (st.map fun e => if lineOf e.addr = line then { e with olds := e.held } else e).filter fun e => !e.olds.isEmpty

/-- The region that answers at a physical address; none where no region does (00_scope R8). An access of several
bytes is answered by the region of its lowest byte (DESIGN CHOICE, log 5). -/
def regionAt (map : List Region) (a : Nat) : RegionKind :=
  match map.find? (fun r => decide (r.base ≤ a) && decide (a < r.base + r.size)) with
  | some r => r.kind
  | none => .none

end Sys2Proof.Machine
end

