-- ==== Sys2Proof/Machine/Flags.lean ====
section
/-! DEFINITION. The fields of Status, Cause, Config and FCR31, and the condition codes (spec 10_state R56 to R60,
R81 to R86). -/

namespace Sys2Proof.Machine

/-- A word with the field at bit `lo` replaced. -/
def putField {n m : Nat} (w : BitVec n) (lo : Nat) (v : BitVec m) : BitVec n :=
  (w &&& ~~~((BitVec.allOnes m).setWidth n <<< lo)) ||| (v.setWidth n <<< lo)

/-- A free value of this step (log 2). -/
def State.free (s : State) (d : Draw) : Word := Config.freeValue s.draws d

/-- A free bit of this step. -/
def State.freeBit (s : State) (d : Draw) : Bool := (s.free d).getLsbD 0

/-- One of several values, a free choice of this step: the present one or an older one. -/
def State.pick {α : Type} (s : State) (d : Draw) (present : α) (olds : List α) : α :=
  match olds with
  | [] => present
  | _ :: _ => (present :: olds).getD ((s.free d).toNat % (olds.length + 1)) present

/-- A value of the system state as a dependent instruction sees it: the present one, or one from before a recent CP0
or TLB write (70_reset_and_hazards R712; log 8). -/
def State.pickOld {α : Type} (s : State) (d : Draw) (present : α) (old : OldSystem → α) : α :=
  s.pick d present (s.recent.map old)

/-- Status as a coprocessor instruction and the byte order see it (70_reset_and_hazards R712). -/
def State.statusSeen (s : State) : BitVec 32 := s.pickOld (.seen false 12) s.cp0.status fun o => o.cp0.status

/-- Status.CUz (10_state R81). -/
def State.cu (s : State) (z : Nat) : Bool := s.statusSeen.getLsbD (28 + z)
/-- Status.FR. -/
def State.fr (s : State) : Bool := s.statusSeen.getLsbD 26
/-- Status.BEV. -/
def State.bev (s : State) : Bool := s.cp0.status.getLsbD 22
/-- Status.DE. -/
def State.de (s : State) : Bool := s.cp0.status.getLsbD 16
/-- Status.IM. -/
def State.im (s : State) : BitVec 8 := s.cp0.status.extractLsb' 8 8
/-- Status.KX. -/
def State.kx (s : State) : Bool := s.cp0.status.getLsbD 7
/-- Status.SX. -/
def State.sx (s : State) : Bool := s.cp0.status.getLsbD 6
/-- Status.UX. -/
def State.ux (s : State) : Bool := s.cp0.status.getLsbD 5
/-- Status.KSU. -/
def State.ksu (s : State) : BitVec 2 := s.cp0.status.extractLsb' 3 2
/-- Status.ERL. -/
def State.erl (s : State) : Bool := s.cp0.status.getLsbD 2
/-- Status.EXL. -/
def State.exl (s : State) : Bool := s.cp0.status.getLsbD 1
/-- Status.IE. -/
def State.ie (s : State) : Bool := s.cp0.status.getLsbD 0

/-- Part of CP0 register n as seen by a fetch or by an instruction that depends on a recent write of it
(70_reset_and_hazards R712). -/
def State.reg {α : Type} (s : State) (fetch : Bool) (n : Nat) (f : Cp0 → α) : α :=
  s.pickOld (.seen fetch n) (f s.cp0) fun o => f o.cp0

/-- Every CP0 register so seen. -/
def State.cp0Seen (s : State) (fetch : Bool) : Cp0 :=
  { index := s.reg fetch 0 Cp0.index, random := s.reg fetch 1 Cp0.random,
    entryLo0 := s.reg fetch 2 Cp0.entryLo0, entryLo1 := s.reg fetch 3 Cp0.entryLo1,
    context := s.reg fetch 4 Cp0.context, pageMask := s.reg fetch 5 Cp0.pageMask,
    wired := s.reg fetch 6 Cp0.wired, badVAddr := s.reg fetch 8 Cp0.badVAddr,
    count := s.reg fetch 9 Cp0.count, entryHi := s.reg fetch 10 Cp0.entryHi,
    compare := s.reg fetch 11 Cp0.compare, status := s.reg fetch 12 Cp0.status,
    cause := s.reg fetch 13 Cp0.cause, epc := s.reg fetch 14 Cp0.epc, prid := s.reg fetch 15 Cp0.prid,
    config := s.reg fetch 16 Cp0.config, llAddr := s.reg fetch 17 Cp0.llAddr,
    xcontext := s.reg fetch 20 Cp0.xcontext, ecc := s.reg fetch 26 Cp0.ecc,
    cacheErr := s.reg fetch 27 Cp0.cacheErr, tagLo := s.reg fetch 28 Cp0.tagLo,
    tagHi := s.reg fetch 29 Cp0.tagHi, errorEpc := s.reg fetch 30 Cp0.errorEpc }

/-- The machine with its system state as seen through the CP0 hazard: as it is, when there is no recent write
(70_reset_and_hazards R712; log 8). -/
def State.view (s : State) (fetch : Bool) : State :=
  match s.recent with
  | [] => s
  | _ :: _ =>
    { s with
      cp0 := s.cp0Seen fetch
      tlb := Vector.ofFn fun i => s.pickOld (.seen fetch (64 + i.val)) s.tlb[i] fun o => o.tlb[i]
      timerLatch := s.pickOld (.seen fetch 32) s.timerLatch OldSystem.timerLatch
      recent := [] }

/-- The view of an instruction that reads or uses system state. -/
def State.seen (s : State) : State := s.view false

/-- The Status bits software can write: all but TS (21) and the reserved 27, 24:23, 19 (10_state R81, R82). -/
def statusMask : BitVec 32 := 0xF657FFFF#32

/-- Cause.IP: IP(1:0) stored, IP(6:2) the levels Int[4:0], IP(7) the timer latch or Int[5]
(10_state R113; 60_exceptions R650, R664). -/
def State.ip (s : State) : BitVec 8 :=
  BitVec.ofBool (if s.timerIntOnIP7 then s.timerLatch else s.pins.int.getLsbD 5)
    ++ s.pins.int.extractLsb' 0 5 ++ s.cp0.cause.extractLsb' 8 2

/-- Cause as software reads it: BD, CE, IP, ExcCode, the reserved bits 0 (10_state R83). -/
def State.causeWord (s : State) : BitVec 32 :=
  (s.cp0.cause &&& 0xB000007C#32) ||| (s.ip.setWidth 32 <<< 8)

/-- Config.BE (10_state R86). -/
def State.bigEndianMem (s : State) : Bool := s.cp0.config.getLsbD 15
/-- Config.K0. -/
def State.k0 (s : State) : BitVec 3 := s.cp0.config.extractLsb' 0 3
/-- Config.SE. -/
def State.se (s : State) : Bool := s.cp0.config.getLsbD 12
/-- Config.SS. -/
def State.ss (s : State) : BitVec 2 := s.cp0.config.extractLsb' 20 2

/-- FCR31.FS (10_state R60). -/
def State.fs (s : State) : Bool := s.fcr31.getLsbD 24
/-- FCR31 Cause: E V Z O U I from bit 5 down (10_state R58). -/
def State.fcrCause (s : State) : BitVec 6 := s.fcr31.extractLsb' 12 6
/-- FCR31 Enables: V Z O U I from bit 4 down. -/
def State.fcrEnables (s : State) : BitVec 5 := s.fcr31.extractLsb' 7 5
/-- FCR31 Flags: V Z O U I from bit 4 down. -/
def State.fcrFlags (s : State) : BitVec 5 := s.fcr31.extractLsb' 2 5
/-- FCR31.RM (10_state R59). -/
def State.rounding (s : State) : Rounding :=
  match (s.fcr31.extractLsb' 0 2).toNat with
  | 0 => .rn
  | 1 => .rz
  | 2 => .rp
  | _ => .rm

/-- The bit of FCR31 that holds condition code n (10_state R57). -/
def fccBit (n : BitVec 3) : Nat := if n = 0#3 then 23 else 24 + n.toNat
/-- FCC[n]. -/
def State.fcc (s : State) (n : BitVec 3) : Bool := s.fcr31.getLsbD (fccBit n)
/-- The eight condition codes, FCC[n] at bit n. -/
def State.fccAll (s : State) : BitVec 8 := s.fcr31.extractLsb' 25 7 ++ s.fcr31.extractLsb' 23 1
/-- FCC[n] written. -/
def setFcc (n : BitVec 3) (v : Bool) (s : State) : State :=
  { s with fcr31 := putField s.fcr31 (fccBit n) (BitVec.ofBool v) }

/-- FCC[n] as a branch or an integer conditional move sees it: in the slot after the compare that writes it, the
old or the new value (70_reset_and_hazards R714; log 35). -/
def State.fccSeen (s : State) (n : BitVec 3) : Bool :=
  if s.fccPrev.getLsbD n.toNat = s.fcc n then s.fcc n
  else if s.freeBit .conditionAge then s.fcc n else s.fccPrev.getLsbD n.toNat

/-- FCR31 with its six Cause bits written (48_fpu_arith R512). -/
def setFcrCause (c : BitVec 6) (s : State) : State := { s with fcr31 := putField s.fcr31 12 c }

/-- FCR31 with the Flags of the letters V Z O U I of a Cause set raised (48_fpu_arith R512). -/
def raiseFlags (c : BitVec 6) (s : State) : State :=
  { s with fcr31 := s.fcr31 ||| ((c.extractLsb' 0 5).setWidth 32 <<< 2) }

/-- Whether a Cause set traps: E always, another letter when it is enabled (48_fpu_arith R512). -/
def fcrTraps (c : BitVec 6) (s : State) : Bool :=
  c.getLsbD 5 || decide (c.extractLsb' 0 5 &&& s.fcrEnables ≠ 0#5)

end Sys2Proof.Machine
end

