-- ==== Sys2Proof/Machine/Operands.lean ====
section
/-! DEFINITION. Operands: general registers, FPU registers, immediates and addresses (spec 10_state R30 to R53,
30_encoding R223). -/

namespace Sys2Proof.Machine

/-- GPR[r]; register 0 reads as zero (10_state R32). -/
def State.gpr (s : State) (r : Reg) : Word := if r = 0#5 then 0#64 else s.regs[r.toNat]'r.isLt

/-- GPR[r] written; a write to register 0 is discarded (10_state R32). -/
def setGpr (r : Reg) (v : Word) (s : State) : State :=
  if r = 0#5 then s else { s with regs := s.regs.set r.toNat v r.isLt }

/-- The low word of a register. -/
def low (v : Word) : BitVec 32 := v.setWidth 32

/-- A word sign-extended to a register. -/
def sext (v : BitVec 32) : Word := v.signExtend 64

/-- Word(x): a sign-extended 32-bit value (41_alu R300). -/
def isWord (v : Word) : Bool := sext (low v) == v

/-- The signed 16-bit immediate (30_encoding R223). -/
def simm (i : BitVec 16) : Word := i.signExtend 64

/-- The zero-extended 16-bit immediate (30_encoding R223). -/
def zimm (i : BitVec 16) : Word := i.setWidth 64

/-- 1 or 0 in a register. -/
def boolWord (b : Bool) : Word := if b then 1#64 else 0#64

/-- EA = GPR[base] + sext_64(offset) (40_load_store R260). -/
def State.ea (s : State) (base : Reg) (offset : BitVec 16) : Word := s.gpr base + simm offset

/-- EA = GPR[base] + GPR[index] (40_load_store R260). -/
def State.eaIndexed (s : State) (base index : Reg) : Word := s.gpr base + s.gpr index

/-- The result of a 32-bit operation: sign-extended, or a free value when an operand is not a sign-extended
word (10_state R39; log 10). -/
def State.result32 (s : State) (operandsOk : Bool) (r : BitVec 32) : Word :=
  if operandsOk then sext r else s.free .result

/-- BranchTarget (44_jump_branch R381). -/
def branchTarget (pc : Word) (offset : BitVec 16) : Word := (pc + 4#64) + (offset ++ 0#2).signExtend 64

/-- JumpTarget (44_jump_branch R381). -/
def jumpTarget (pc : Word) (target : BitVec 26) : Word := (pc + 4#64).extractLsb' 28 36 ++ target ++ 0#2

/-- FGR[i] (10_state R50). -/
def State.fgrRead (s : State) (i : Reg) : Word := s.fgr[i.toNat]'i.isLt

/-- FGR[i] written whole. -/
def setFgr (i : Reg) (v : Word) (s : State) : State := { s with fgr := s.fgr.set i.toNat v i.isLt }

/-- FGR[i][31:0] written; with FR = 1 bits 63:32 become undefined, a free value (10_state R53, 47_fpu_move R473);
with FR = 0 they are not accessible and stay. -/
def setFgrLow (i : Reg) (v : BitVec 32) (s : State) : State :=
  let upper : BitVec 32 := if s.fr then (s.free .upper).setWidth 32 else (s.fgrRead i).extractLsb' 32 32
  setFgr i (upper ++ v) s

/-- Whether i names an FPR: every number with FR = 1, even numbers with FR = 0 (10_state R51). -/
def State.fprOk (s : State) (i : Reg) : Bool := s.fr || !i.getLsbD 0

/-- The odd register of the pair that register i is in (10_state R51). -/
def oddOf (i : Reg) : Reg := i ||| 1#5

/-- FPR(i, S) and FPR(i, W) (10_state R52). -/
def State.fpr32 (s : State) (i : Reg) : BitVec 32 := low (s.fgrRead i)

/-- FPR(i, D) and FPR(i, L) (10_state R52). -/
def State.fpr64 (s : State) (i : Reg) : Word :=
  if s.fr then s.fgrRead i else low (s.fgrRead (oddOf i)) ++ low (s.fgrRead i)

/-- FPR(i, D) or FPR(i, L) written (10_state R53). -/
def setFpr64 (i : Reg) (v : Word) (s : State) : State :=
  if s.fr then setFgr i v s
  else setFgrLow (oddOf i) (v.extractLsb' 32 32) (setFgrLow i (low v) s)

/-- An FPR read in a floating-point format, in the low bits of a doubleword (10_state R52). -/
def State.fpr (s : State) : FpFmt → Reg → Word
  | .s, i => (s.fpr32 i).setWidth 64
  | .d, i => s.fpr64 i

/-- An FPR written in a floating-point format (10_state R53). -/
def setFpr : FpFmt → Reg → Word → State → State
  | .s, i, v, s => setFgrLow i (low v) s
  | .d, i, v, s => setFpr64 i v s

end Sys2Proof.Machine
end

