-- ==== Sys2Proof/Machine/Ops.lean ====
section
/-! DEFINITION. The shared operations of the machine: how an instruction ends, exceptions and the return from one,
modes and gates, address translation, memory accesses, CP0 registers, and what a step does besides its
instruction (spec 20_memory, 46_cp0, 60_exceptions). -/

namespace Sys2Proof.Machine

/-! ### How an instruction ends -/

/-- The exceptions, with what each records (60_exceptions R600). -/
inductive Exc where
  | interrupt
  | tlbModified (va : Word)
  | tlbRefill (store : Bool) (va : Word)
  | tlbInvalid (store : Bool) (va : Word)
  | addressError (store : Bool) (va : Word)
  | busErrorFetch
  | busErrorData
  | syscall
  | breakpoint
  | reservedInstruction
  | coprocessorUnusable (unit : BitVec 2)
  | overflow
  | trap
  | floatingPoint
  | cacheError (err : CacheError)
deriving DecidableEq, Repr

/-- Why an instruction does not complete: an exception to take, or a stop of the model. -/
inductive Stop where
  | exc (e : Exc)
  | fault (f : Fault)
  | refuse (r : Refusal)
deriving DecidableEq, Repr

/-- The outcome of a step of this machine. -/
abbrev Out := Host.Outcome State Fault Refusal

/-- In a branch delay slot (10_state R36). -/
def State.inDelaySlot (s : State) : Bool := s.next.isSome

/-- The address k bytes on in sequence; past 0xFFFF FFFF FFFF FFFC it is a free value (10_state R37; log 20). -/
def State.seqPc (s : State) (k : Nat) : Word :=
  if s.pc.toNat + k < 2 ^ 64 then s.pc + BitVec.ofNat 64 k else s.free (.wrapPc k)

/-- What every completed instruction does besides its own effect: the HI/LO guards count down (43_muldiv R362). -/
def retire (s : State) : State := { s with hiGuard := s.hiGuard - 1, loGuard := s.loGuard - 1 }

/-- The instruction completes and the pc advances (10_state R36). -/
def advance (s : State) : State :=
  match s.next with
  | some t => { retire s with pc := t, next := none }
  | none => { retire s with pc := s.seqPc 4 }

/-- A jump or branch completes: the delay slot is next and `target` after it (10_state R36). An ordinary branch
that is not taken records pc + 8 as its target (log 19). -/
def branchTo (target : Word) (s : State) : State :=
  { retire s with pc := s.seqPc 4, next := some target }

/-- A branch-likely that is not taken: the delay slot is nullified (44_jump_branch R382). -/
def skipSlot (s : State) : State := { retire s with pc := s.seqPc 8, next := none }

/-! ### Taking an exception (60_exceptions R620 to R625) -/

/-- ExcCode (60_exceptions R600). -/
def excCode : Exc → BitVec 5
  | .interrupt => 0#5
  | .tlbModified _ => 1#5
  | .tlbRefill st _ => if st then 3#5 else 2#5
  | .tlbInvalid st _ => if st then 3#5 else 2#5
  | .addressError st _ => if st then 5#5 else 4#5
  | .busErrorFetch => 6#5
  | .busErrorData => 7#5
  | .syscall => 8#5
  | .breakpoint => 9#5
  | .reservedInstruction => 10#5
  | .coprocessorUnusable _ => 11#5
  | .overflow => 12#5
  | .trap => 13#5
  | .floatingPoint => 15#5
  | .cacheError _ => 0#5

/-- EntryLo's fields: bits 29:0 (10_state R73). -/
def entryLoMask : Word := 0x3FFFFFFF#64

/-- The address registers a TLB exception writes (20_memory R185): the EntryLo registers become undefined. -/
def recordTlb (va : Word) (s : State) (c : Cp0) : Cp0 :=
  { c with
    badVAddr := va
    context := putField c.context 4 (va.extractLsb' 13 19)
    xcontext := putField (putField c.xcontext 4 (va.extractLsb' 13 27)) 31 (va.extractLsb' 62 2)
    entryHi := putField (putField c.entryHi 13 (va.extractLsb' 13 27)) 62 (va.extractLsb' 62 2)
    entryLo0 := s.free .entryLo0 &&& entryLoMask
    entryLo1 := s.free .entryLo1 &&& entryLoMask }

/-- The address registers an Address Error writes: BadVAddr; the VPN and R fields and EntryLo become undefined
(60_exceptions R606, 20_memory R185). -/
def recordAddressError (va : Word) (s : State) (c : Cp0) : Cp0 :=
  { c with
    badVAddr := va
    context := putField c.context 4 ((s.free .contextVpn).setWidth 19)
    xcontext := putField c.xcontext 4 ((s.free .xcontextVpn).setWidth 29)
    entryHi := putField (putField c.entryHi 13 ((s.free .entryHiVpn).setWidth 27)) 62
      ((s.free .entryHiVpn).extractLsb' 62 2)
    entryLo0 := s.free .entryLo0 &&& entryLoMask
    entryLo1 := s.free .entryLo1 &&& entryLoMask }

/-- The address registers as exception e leaves them. -/
def recordAddress (e : Exc) (s : State) (c : Cp0) : Cp0 :=
  match e with
  | .tlbModified va => recordTlb va s c
  | .tlbRefill _ va => recordTlb va s c
  | .tlbInvalid _ va => recordTlb va s c
  | .addressError _ va => recordAddressError va s c
  | _ => c

/-- Cause.CE: the unit of a Coprocessor Unusable exception, otherwise a free value (60_exceptions R620; log 37). -/
def causeCE (e : Exc) (s : State) : BitVec 2 :=
  match e with
  | .coprocessorUnusable u => u
  | _ => (s.free .causeCE).setWidth 2

/-- Cause.BD: in a delay slot; with EXL = 1 a free bit (60_exceptions R620; log 37). -/
def causeBD (s : State) : Bool := if s.exl then s.freeBit .causeBD else s.inDelaySlot

/-- The restart address: the instruction, or the branch before it (60_exceptions R622). -/
def State.restartPc (s : State) : Word := if s.inDelaySlot then s.pc - 4#64 else s.pc

/-- Whether the region of a mapped address is a 64-bit space: UX, SX or KX by the address (20_memory R177). -/
def State.xtlb (s : State) (va : Word) : Bool :=
  if va.extractLsb' 62 2 = 0#2 then s.ux
  else if va.extractLsb' 62 2 = 1#2 then s.sx
  else if va.extractLsb' 29 35 = 0x7FFFFFFFE#35 then s.sx
  else s.kx

/-- The vector offset (60_exceptions R621). -/
def vectorOffset (e : Exc) (s : State) : Word :=
  match e with
  | .tlbRefill _ va => if s.exl then 0x180#64 else if s.seen.xtlb va then 0x080#64 else 0x000#64
  | _ => 0x180#64

/-- VectorBase (60_exceptions R621). -/
def State.vectorBase (s : State) : Word :=
  if s.bev then 0xFFFFFFFFBFC00200#64 else 0xFFFFFFFF80000000#64

/-- A write of CP0 that no instruction can see the old state of: an exception entry, ERET, LL, the passing of time
(70_reset_and_hazards R712; log 8). -/
def onCp0 (f : Cp0 → Cp0) (s : State) : State :=
  { s with cp0 := f s.cp0, recent := s.recent.map fun o => { o with cp0 := f o.cp0 } }

/-- No loop of LL and SC that the fairness of SC is about. -/
def endLink (s : State) : State := { s with link := { addr := none, armed := false, start := s.draws, fails := 0 } }

/-- A load, store, exception or ERET between an LL and its SC ends the loop that the fairness of SC is about; outside
them it does not (40_load_store R285). -/
def breakLink (s : State) : State :=
  { s with link := if s.link.armed then { addr := none, armed := false, start := s.draws, fails := 0 } else s.link }

/-- CP0 after a general exception entry in state s (60_exceptions R620). -/
def enterGeneral (e : Exc) (s : State) (c : Cp0) : Cp0 :=
  let c' := recordAddress e s c
  { c' with
    cause := BitVec.ofBool (causeBD s) ++ 0#1 ++ causeCE e s ++ 0#12 ++ 0#6 ++ c.cause.extractLsb' 8 2 ++ 0#1
      ++ excCode e ++ 0#2
    epc := if s.exl then c.epc else s.restartPc
    status := c.status ||| 0x2#32 }

/-- General exception entry (60_exceptions R620). -/
def takeGeneral (e : Exc) (s : State) : State :=
  let pc := s.vectorBase + vectorOffset e s
  { breakLink (onCp0 (enterGeneral e s) s) with pc := pc, next := none }

/-- CacheErr as a Cache Error loads it: ER, EC, ED, ET, ES, EE, EB and 25 zeros, EC (the cache level) always 0, since 1
is reserved (10_state R91, 60_exceptions R625). -/
def cacheErrWord (err : CacheError) : BitVec 32 :=
  BitVec.ofBool err.er ++ 0#1 ++ BitVec.ofBool err.ed ++ BitVec.ofBool err.et ++ BitVec.ofBool err.es
    ++ BitVec.ofBool err.ee ++ BitVec.ofBool err.eb ++ 0#25

/-- The bits of CacheErr that can be 1: all fields but EC and the reserved 24:0 (10_state R91). -/
def cacheErrMask : BitVec 32 := 0xBE000000#32

/-- The Cache Error of an instruction reference, ER = 0; alsoData is EB (10_state R91). -/
def ParityError.onFetch (p : ParityError) (alsoData : Bool) : CacheError :=
  { er := false, ed := p.ed, et := p.et, es := p.es, ee := p.ee, eb := alsoData }

/-- The Cache Error of a data reference, ER = 1; there is no instruction error that EB could add to (10_state R91;
log 41). -/
def ParityError.onData (p : ParityError) : CacheError :=
  { er := true, ed := p.ed, et := p.et, es := p.es, ee := p.ee, eb := false }

/-- CP0 after a Cache Error entry in state s (60_exceptions R625). -/
def enterCacheError (err : CacheError) (s : State) (c : Cp0) : Cp0 :=
  { c with errorEpc := s.restartPc, cacheErr := cacheErrWord err, status := c.status ||| 0x4#32 }

/-- Cache Error entry (60_exceptions R625). -/
def takeCacheError (err : CacheError) (s : State) : State :=
  let pc : Word := (if s.bev then 0xFFFFFFFFBFC00200#64 else 0xFFFFFFFFA0000000#64) + 0x100#64
  { breakLink (onCp0 (enterCacheError err s) s) with pc := pc, next := none }

/-- TAKING AN EXCEPTION, the one operation: s is the machine at the instruction that raises it (60_exceptions
R620, R625). -/
def takeException (e : Exc) (s : State) : State :=
  match e with
  | .cacheError err => takeCacheError err s
  | _ => takeGeneral e s

/-- RETURNING FROM AN EXCEPTION (46_cp0 R448, 60_exceptions R640). Which level it returns from and where to may be
those before a recent write (70_reset_and_hazards R712); the level bit is cleared for good. -/
def returnFromException (s : State) : State :=
  let erl := s.seen.erl
  let pc := if erl then s.seen.cp0.errorEpc else s.seen.cp0.epc
  let level : BitVec 32 := if erl then 0x4#32 else 0x2#32
  { breakLink (onCp0 (fun c => { c with status := c.status &&& ~~~level }) (retire s)) with
    pc := pc, next := none, llbit := false }

/-- The outcome of an instruction that stops before completing in state s. -/
def stopOut (st : Stop) (s : State) : Out :=
  match st with
  | .exc e => .next (takeException e s)
  | .fault f => .fault f
  | .refuse r => .refused r

/-- The outcome of an instruction begun in state s: it completes, takes its exception in s (exceptions are
precise, 60_exceptions R601), or the model stops. -/
def finish (s : State) (r : Except Stop State) : Out :=
  match r with
  | .ok s' => .next s'
  | .error st => stopOut st s

/-! ### Modes and gates -/

/-- The three operating modes (60_exceptions R670). -/
inductive Mode where
  | user | supervisor | kernel
deriving DecidableEq, Repr

/-- Mode; KSU = 3 with EXL = ERL = 0 is undefined (60_exceptions R670). -/
def State.mode (s : State) : Except Stop Mode :=
  if s.exl || s.erl then .ok .kernel
  else match s.ksu.toNat with
    | 0 => .ok .kernel
    | 1 => .ok .supervisor
    | 2 => .ok .user
    | _ => .error (.fault .undefinedMode)

/-- Usable(z), checked first of all, in the mode the instruction sees (30_encoding R240, R241; 60_exceptions R670). -/
def requireUnit (z : BitVec 2) (s : State) : Except Stop Unit :=
  if s.cu z.toNat then .ok ()
  else if z = 0#2 then do
    let m ← s.seen.mode
    if m = .kernel then .ok () else .error (.exc (.coprocessorUnusable z))
  else .error (.exc (.coprocessorUnusable z))

/-- Enabled64, in the mode the instruction sees (30_encoding R238; 60_exceptions R670). -/
def require64 (s : State) : Except Stop Unit := do
  let m ← s.seen.mode
  match m with
  | .kernel => .ok ()
  | .supervisor => if s.seen.sx then .ok () else .error (.exc .reservedInstruction)
  | .user => if s.seen.ux then .ok () else .error (.exc .reservedInstruction)

/-- Mips4Enabled, in the mode the instruction sees (30_encoding R239; 60_exceptions R670). -/
def requireMips4 (s : State) : Except Stop Unit :=
  if s.cu 3 then .ok ()
  else do
    let m ← s.seen.mode
    if m = .user then .error (.exc .reservedInstruction) else .error (.refuse .mips4NotEnabled)

/-- The gate of BC1x and C.cond: a non-zero condition code is MIPS IV (44_jump_branch R405, 48_fpu_arith R540). -/
def requireCc (cc : BitVec 3) (s : State) : Except Stop Unit :=
  if cc = 0#3 then .ok () else requireMips4 s

/-- A jump or branch may not stand in a delay slot (44_jump_branch R383). -/
def requireNoSlot (s : State) : Except Stop Unit :=
  if s.inDelaySlot then .error (.refuse .branchInDelaySlot) else .ok ()

/-- An FPR operand (10_state R52, R53). -/
def requireFpr (i : Reg) (s : State) : Except Stop Unit :=
  if s.fprOk i then .ok () else .error (.refuse .oddFpr)

/-! ### Segments and translation (20_memory R170 to R184) -/

/-- What an access is for. -/
inductive Access where
  | fetch | load | store
deriving DecidableEq, Repr

/-- A virtual address by mode and segment (20_memory R170). -/
inductive Segment where
  | addressError
  | unmapped (pa : PAddr) (attr : BitVec 3)
  | mapped
deriving DecidableEq, Repr

/-- User mode (20_memory R170). -/
def segmentUser (ux : Bool) (va : Word) : Segment :=
  if ux then if va.toNat < 2 ^ 40 then .mapped else .addressError
  else if va.toNat < 2 ^ 31 then .mapped else .addressError

/-- Supervisor mode (20_memory R170). -/
def segmentSupervisor (sx : Bool) (va : Word) : Segment :=
  let a := va.toNat
  if 0xFFFFFFFFC0000000 ≤ a ∧ a ≤ 0xFFFFFFFFDFFFFFFF then .mapped
  else if sx then
    if a < 2 ^ 40 ∨ (2 ^ 62 ≤ a ∧ a < 2 ^ 62 + 2 ^ 40) then .mapped else .addressError
  else if a < 2 ^ 31 then .mapped else .addressError

/-- xkphys (20_memory R175). -/
def segmentXkphys (va : Word) : Segment :=
  if va.extractLsb' 36 23 ≠ 0#23 then .addressError
  else .unmapped (va.extractLsb' 0 36) (va.extractLsb' 59 3)

/-- Kernel mode (20_memory R170, R171, R175, R176). -/
def segmentKernel (kx erl : Bool) (k0 : BitVec 3) (va : Word) : Segment :=
  let a := va.toNat
  if a < 2 ^ 31 then if erl then .unmapped (va.extractLsb' 0 36) 2#3 else .mapped
  else if 0xFFFFFFFF80000000 ≤ a then
    if a ≤ 0xFFFFFFFF9FFFFFFF then .unmapped ((va.extractLsb' 0 29).setWidth 36) k0
    else if a ≤ 0xFFFFFFFFBFFFFFFF then .unmapped ((va.extractLsb' 0 29).setWidth 36) 2#3
    else .mapped
  else if kx then
    if a < 2 ^ 40 ∨ (2 ^ 62 ≤ a ∧ a < 2 ^ 62 + 2 ^ 40) then .mapped
    else if va.extractLsb' 62 2 = 2#2 then segmentXkphys va
    else if 0xC000000000000000 ≤ a ∧ a ≤ 0xC00000FF7FFFFFFF then .mapped
    else .addressError
  else .addressError

/-- The segment of an address in the present mode. -/
def State.segment (s : State) (va : Word) : Except Stop Segment := do
  let m ← s.mode
  match m with
  | .user => .ok (segmentUser s.ux va)
  | .supervisor => .ok (segmentSupervisor s.sx va)
  | .kernel => .ok (segmentKernel s.kx s.erl s.k0 va)

/-- The k of a legal Mask: the page is 4 Kbytes * 4^k (10_state R75, 20_memory R182). -/
def pageLog (mask : BitVec 12) : Option Nat :=
  match mask.toNat with
  | 0x000 => some 0
  | 0x003 => some 1
  | 0x00F => some 2
  | 0x03F => some 3
  | 0x0FF => some 4
  | 0x3FF => some 5
  | 0xFFF => some 6
  | _ => none

/-- Match(e, va) for the page pair r, vpn2 and an ASID (20_memory R181, 46_cp0 R449). -/
def tlbMatches (e : TlbEntry) (r : BitVec 2) (vpn2 : BitVec 27) (asid : BitVec 8) : Bool :=
  e.r == r && (e.vpn2 &&& ~~~(e.mask.setWidth 27)) == (vpn2 &&& ~~~(e.mask.setWidth 27))
    && (e.g || e.asid == asid)

/-- Whether every entry's Mask is one of Table 4.9 (20_memory R183). -/
def State.masksLegal (s : State) : Bool := s.tlb.toList.all fun e => (pageLog e.mask).isSome

/-- The entries that match, by index. -/
def State.tlbHits (s : State) (r : BitVec 2) (vpn2 : BitVec 27) (asid : BitVec 8) : List (Fin 48) :=
  (List.finRange 48).filter fun i => tlbMatches s.tlb[i] r vpn2 asid

/-- The physical address (20_memory R182): PFN bits inside the page offset that are not 0 make the page frame a
free value, the offset below 4 Kbytes not passing through the TLB (log 25). -/
def physAddr (s : State) (k : Nat) (pfn : BitVec 24) (va : Word) : PAddr :=
  if pfn.toNat % 4 ^ k = 0 then BitVec.ofNat 36 (pfn.toNat * 4096 + va.toNat % (4096 * 4 ^ k))
  else (s.free (.frame (va.toNat / 4096))).extractLsb' 0 24 ++ va.extractLsb' 0 12

/-- Whether software has written every TLB entry since the last cold reset (70_reset_and_hazards R704). -/
def State.tlbReady (s : State) : Bool := s.tlb.toList.all fun e => e.written

/-- A mapped address through the TLB (20_memory R180); before every entry has been written the access is undefined
(70_reset_and_hazards R704; log 24). -/
def translateMapped (s : State) (acc : Access) (va : Word) : Except Stop (PAddr × BitVec 3) :=
  if !s.tlbReady then .error (.refuse .tlbNotInitialised)
  else if !s.masksLegal then .error (.fault .illegalPageMask)
  else match s.tlbHits (va.extractLsb' 62 2) (va.extractLsb' 13 27) (s.cp0.entryHi.extractLsb' 0 8) with
    | [] => .error (.exc (.tlbRefill (acc == .store) va))
    | [i] =>
      let e := s.tlb[i]
      let k := (pageLog e.mask).getD 0
      let odd := va.getLsbD (12 + 2 * k)
      if !(if odd then e.v1 else e.v0) then .error (.exc (.tlbInvalid (acc == .store) va))
      else if acc == .store && !(if odd then e.d1 else e.d0) then .error (.exc (.tlbModified va))
      else .ok (physAddr s k (if odd then e.pfn1 else e.pfn0) va, if odd then e.c1 else e.c0)
    | _ => .error (.fault .multipleTlbMatch)

/-- Cache attributes 4 to 7 are reserved (20_memory R178). -/
def checkAttr (p : PAddr × BitVec 3) : Except Stop (PAddr × BitVec 3) :=
  if p.2.toNat < 4 then .ok p else .error (.fault .reservedCacheAttribute)

/-- Translate(va, kind) (20_memory R180). -/
def translate (s : State) (acc : Access) (va : Word) : Except Stop (PAddr × BitVec 3) := do
  let seg ← s.segment va
  match seg with
  | .addressError => .error (.exc (.addressError (acc == .store) va))
  | .unmapped pa attr => checkAttr (pa, attr)
  | .mapped => do
    let p ← translateMapped s acc va
    checkAttr p

/-! ### Memory accesses (20_memory R145, R150 to R155) -/

/-- ReverseEndian: Status.RE in User mode (20_memory R143). -/
def State.reverseEndian (s : State) : Bool :=
  let st := s.statusSeen
  st.getLsbD 25 && st.extractLsb' 3 2 == 2#2 && !st.getLsbD 2 && !st.getLsbD 1

/-- BigEndianCPU (20_memory R143). -/
def State.bigEndianCpu (s : State) : Bool := s.bigEndianMem != s.reverseEndian

/-- Where memory holds the byte the CPU calls x: B(x) (20_memory R145). -/
def State.lane (s : State) (x : Nat) : Nat := if s.reverseEndian then x ^^^ 7 else x

/-- The n bytes from an address up. -/
def loadBytes (s : State) : Nat → Nat → List Byte
  | _, 0 => []
  | a, n + 1 => memRead s.mem (s.lane a) :: loadBytes s (a + 1) n

/-- A value from its bytes, the first the most significant. -/
def joinBytes (bs : List Byte) : Word := bs.foldl (fun acc b => (acc <<< 8) ||| b.setWidth 64) 0#64

/-- The low n bytes of a value, the first the most significant. -/
def splitBytes (v : Word) : Nat → List Byte
  | 0 => []
  | n + 1 => v.extractLsb' (8 * n) 8 :: splitBytes v n

/-- The value of an n-byte field at a physical address (20_memory R145). -/
def State.fieldAt (s : State) (pa n : Nat) : Word :=
  let bs := loadBytes s pa n
  joinBytes (if s.bigEndianCpu then bs else bs.reverse)

/-- The bytes of an n-byte field. -/
def State.fieldBytes (s : State) (pa n : Nat) : List Nat := (List.range n).map fun k => s.lane (pa + k)

/-- The older contents that memory itself may still have, because the store over them may be in the data cache or the
write buffer (20_memory R191, R194). -/
def State.inFlight (s : State) : List Host.Cell := s.unwritten ++ s.writeBuffer.flatMap Buffered.olds

/-- The write buffer when one more store has certainly entered it: it holds four, so what four have followed has left it
(20_memory R191; log 48). -/
def agedBuffer (wb : List Buffered) : List Buffered :=
  (wb.map fun b => { b with after := b.after + 1 }).filter fun b => decide (b.after < 4)

/-- A store enters the write buffer, and with it leave the older contents of its bytes. A store to a device that is in
the buffer no more has been seen by the device (20_memory R191, 60_exceptions R654; log 48). -/
def pushStore (bytes : List Nat) (olds : List Host.Cell) (s : State) : State :=
  let wb := { bytes := bytes, olds := olds, after := 0 } :: agedBuffer s.writeBuffer
  { s with writeBuffer := wb, deviceStores := s.deviceStores.filter fun d => wb.any fun b => b.bytes == d }

/-- The write buffer drained (60_exceptions R654). -/
def drain (s : State) : State := { s with writeBuffer := [], deviceStores := [] }

/-- What a store to some bytes, made in memory m, leaves of them as they were: through a write-back attribute the line
may be dirty in the data cache, through another the store goes through the write buffer (20_memory R191, R194;
46_cp0 R452). -/
def recordStore (attr : BitVec 3) (line : Nat) (bytes : List Nat) (m : List Host.Cell) (s : State) : State :=
  if attr = 3#3 then
    { s with maybeDirty := s.maybeDirty.insert line, unwritten := contents m bytes ∪ s.unwritten }
  else
    pushStore bytes (contents m bytes ++ s.unwritten.filter fun c => bytes.contains c.1)
      { s with unwritten := s.unwritten.filter fun c => !bytes.contains c.1 }

/-- An n-byte field written: memory, the bytes a fetch may still see as they were, and where the store may still be
(20_memory R145, R191, R194; 46_cp0 R452). -/
def State.setField (s : State) (attr : BitVec 3) (pa n : Nat) (v : Word) : State :=
  let bs := splitBytes v n
  recordStore attr (lineOf pa) (s.fieldBytes pa n) s.mem
    { s with
      mem := memWriteAll s.lane s.mem pa (if s.bigEndianCpu then bs else bs.reverse)
      stale := staleMarkAll s.lane s.mem s.stale pa n }

/-- An uncached store to a device: it goes through the write buffer, and what it does is the device's
(20_memory R155, R191; log 6). -/
def deviceStore (pa n : Nat) (s : State) : State :=
  let t := pushStore (s.fieldBytes pa n) [] s
  { t with deviceStores := s.fieldBytes pa n :: t.deviceStores }

/-- After a load from a physical address: one from a device forces the stores before it out (60_exceptions R654). -/
def loaded (pa : PAddr) (s : State) : State := if regionAt s.physMap pa.toNat = .device then drain s else s

/-- Whether the secondary cache is enabled and present (20_memory R197, 10_state R86). -/
def State.secondaryOn (s : State) : Bool := s.se && s.ss != 3#2

/-- How many lines the secondary cache has: 512 Kbytes, 1 or 2 Mbytes (10_state R86, 20_memory R195). -/
def State.secondaryLines (s : State) : Nat := 2 ^ (14 + s.ss.toNat)

/-- Whether every line of the secondary cache has been invalidated since it was enabled (20_memory R197). -/
def State.secondaryReady (s : State) : Bool :=
  s.caches.secondary.toNat % 2 ^ s.secondaryLines == 2 ^ s.secondaryLines - 1

/-- Whether an access through an attribute may be made: uncached, or once the caches it goes through are initialised
(70_reset_and_hazards R703). -/
def State.cacheReady (s : State) (attr : BitVec 3) : Bool :=
  attr == 2#3 || (s.caches.icache == BitVec.allOnes 1024 && s.caches.dcache == BitVec.allOnes 1024
    && (!s.secondaryOn || s.secondaryReady))

/-- A cached access before the caches are initialised is undefined (70_reset_and_hazards R703). -/
def requireCaches (attr : BitVec 3) (s : State) : Except Stop Unit :=
  if s.cacheReady attr then .ok () else .error (.refuse .cacheNotInitialised)

/-- A cache error that accompanies a data access is taken unless Status.DE masks it (60_exceptions R611). -/
def dataCacheError (s : State) : Except Stop Unit :=
  match s.pins.dataCacheError with
  | some p => if s.de then .ok () else .error (.exc (.cacheError p.onData))
  | none => .ok ()

/-- PhysRead for data: Cache Error, then Bus Error, then the value; what a device answers to an uncached load is a
free value (20_memory R150, R155; 60_exceptions R610; log 6). -/
def physRead (s : State) (attr : BitVec 3) (pa : PAddr) (n : Nat) : Except Stop Word := do
  requireCaches attr s
  dataCacheError s
  if s.pins.dataBusError then .error (.exc .busErrorData)
  else match regionAt s.physMap pa.toNat with
    | .none => .error (.exc .busErrorData)
    | .device =>
      if attr = 2#3 then .ok (BitVec.ofNat 64 ((s.free (.device false)).toNat % 256 ^ n))
      else .error (.refuse .deviceAccess)
    | _ => .ok (s.fieldAt pa.toNat n)

/-- PhysWrite: a store goes through the write buffer, so it raises no Bus Error; where nothing answers, and in
ROM, it is dropped; an uncached one to a device is the device's (20_memory R151, R155, R198; 60_exceptions R610;
log 6). -/
def physWrite (s : State) (attr : BitVec 3) (pa : PAddr) (n : Nat) (v : Word) : Except Stop State := do
  requireCaches attr s
  dataCacheError s
  match regionAt s.physMap pa.toNat with
  | .none => .ok s
  | .rom => .ok s
  | .device => if attr = 2#3 then .ok (deviceStore pa.toNat n s) else .error (.refuse .deviceAccess)
  | .ram => .ok (s.setField attr pa.toNat n v)

/-- Alignment (20_memory R152). -/
def requireAligned (store : Bool) (va : Word) (n : Nat) : Except Stop Unit :=
  if va.toNat % n = 0 then .ok () else .error (.exc (.addressError store va))

/-- What a load has read: how many bytes, from which physical address through which attribute, and their value. -/
structure Loaded where
  count : Nat
  pa : PAddr
  attr : BitVec 3
  value : Word
deriving DecidableEq, Repr

/-- MemRead(va, n, load) (20_memory R150). -/
def memLoad (s : State) (va : Word) (n : Nat) : Except Stop Loaded := do
  requireAligned false va n
  let p ← translate s.seen .load va
  let v ← physRead s p.2 p.1 n
  .ok { count := n, pa := p.1, attr := p.2, value := v }

/-- MemWrite(va, n, v) (20_memory R151). -/
def memStore (s : State) (va : Word) (n : Nat) (v : Word) : Except Stop State := do
  requireAligned true va n
  let p ← translate s.seen .store va
  physWrite s p.2 p.1 n v

/-- How many bytes a left or right access moves, and how far below EA it starts (40_load_store R273). -/
def partSpan (s : State) (left : Bool) (w k : Nat) : Nat × Nat :=
  if left == s.bigEndianCpu then (w - k, 0) else (k + 1, k)

/-- PartRead (40_load_store R273). -/
def partLoad (s : State) (left : Bool) (va : Word) (w : Nat) : Except Stop Loaded := do
  let p ← translate s.seen .load va
  let span := partSpan s left w (va.toNat % w)
  let pa := p.1 - BitVec.ofNat 36 span.2
  let v ← physRead s p.2 pa span.1
  .ok { count := span.1, pa := pa, attr := p.2, value := v }

/-- PartWrite of the low bytes of v (40_load_store R273). -/
def partStore (s : State) (left : Bool) (va : Word) (w : Nat) (v : Nat → Word) : Except Stop State := do
  let p ← translate s.seen .store va
  let span := partSpan s left w (va.toNat % w)
  physWrite s p.2 (p.1 - BitVec.ofNat 36 span.2) span.1 (v span.1)

/-- The region bits of an indexed address must come from the base (40_load_store R291). -/
def requireRegion (store : Bool) (base ea : Word) : Except Stop Unit :=
  if ea.extractLsb' 62 2 = base.extractLsb' 62 2 then .ok () else .error (.exc (.addressError store ea))

/-! ### Instruction fetch (20_memory R147, R150, R194; 60_exceptions R630 ranks 4 to 8) -/

/-- The four bytes at a physical address, each read by f, first the lowest. -/
def fetchWord (big : Bool) (f : Nat → Byte) (a : Nat) : BitVec 32 :=
  wordOfBytes big (f a) (f (a + 1)) (f (a + 2)) (f (a + 3))

/-- The older contents of a stored byte that a fetch may still see: through a cached attribute any that the
instruction cache may hold, through the uncached one those that memory may (20_memory R194; log 22). -/
def State.oldBytes (s : State) (attr : BitVec 3) (a : Nat) : List Byte :=
  if attr = 2#3 then (s.inFlight.filter fun c => c.1 == a).map Prod.snd
  else staleOlds s.stale a

/-- The instruction word at a physical address, each byte old or new where it has been stored to (20_memory R194). -/
def State.instrAt (s : State) (attr : BitVec 3) (a : Nat) : BitVec 32 :=
  fetchWord s.bigEndianMem (fun b => s.pick (.fetchAge (b - a)) (memRead s.mem b) (s.oldBytes attr b)) a

/-- Where the next instruction is fetched: address checks and translation, in the system state the fetch sees. -/
def fetchAddr (s : State) : Except Stop (PAddr × BitVec 3) := do
  requireAligned false s.pc 4
  if (s.view true).reverseEndian then .error (.refuse .reverseEndianFetch)
  else translate (s.view true) .fetch s.pc

/-- A cache error that accompanies the fetch (60_exceptions R611). -/
def fetchCacheError (s : State) : Except Stop Unit :=
  match s.pins.fetchCacheError with
  | some p => if s.de then .ok () else .error (.exc (.cacheError (p.1.onFetch p.2)))
  | none => .ok ()

/-- The word at the pc, or the exception of its fetch; a device answers an uncached fetch with a free word
(20_memory R155; log 6). -/
def fetch (s : State) : Except Stop (BitVec 32) := do
  let p ← fetchAddr s
  requireCaches p.2 s
  fetchCacheError s
  if s.pins.fetchBusError then .error (.exc .busErrorFetch)
  else match regionAt s.physMap p.1.toNat with
    | .none => .error (.exc .busErrorFetch)
    | .device => if p.2 = 2#3 then .ok (low (s.free (.device true))) else .error (.refuse .deviceAccess)
    | _ => .ok (s.instrAt p.2 p.1.toNat)

/-- A reserved FPU encoding: after its gate, Unimplemented Operation (30_encoding R232). -/
def unimplementedFp (gate : Except Stop Unit) (s : State) : Out :=
  match gate with
  | .error st => stopOut st s
  | .ok _ => .next (takeException .floatingPoint (setFcrCause 0x20#6 s))

/-- A word that is no instruction (30_encoding R231 to R233, R240; 46_cp0 R454, R456). -/
def execReject (r : Reject) (s : State) : Out :=
  match r with
  | .reserved (some u) => finish s (do requireUnit u s; .error (.exc .reservedInstruction))
  | .reserved none => finish s (.error (.exc .reservedInstruction))
  | .reservedFp => unimplementedFp (requireUnit 1#2 s) s
  | .reservedFp4 => unimplementedFp (do requireUnit 1#2 s; requireMips4 s) s
  | .coprocessor2 => finish s (do requireUnit 2#2 s; .error (.refuse .coprocessor2))
  | .mustBeZero (some u) => finish s (do requireUnit u s; .error (.refuse .mustBeZeroField))
  | .mustBeZero none => finish s (.error (.refuse .mustBeZeroField))

/-! ### CP0 registers (46_cp0 R453) -/

/-- Whether CP0 register n is 64 bits wide (10_state R70). -/
def cp0Wide (n : Reg) : Bool := n.toNat ∈ [2, 3, 4, 8, 10, 14, 20, 30]

/-- CP0Read(n), a 32-bit register in the low bits; a number D0 does not list reads as a free value (46_cp0 R453,
10_state R94). -/
def State.cp0Read (s : State) (n : Reg) : Word :=
  match n.toNat with
  | 0 => (s.cp0.index &&& 0x8000003F#32).setWidth 64
  | 1 => s.cp0.random.setWidth 64
  | 2 => s.cp0.entryLo0 &&& entryLoMask
  | 3 => s.cp0.entryLo1 &&& entryLoMask
  | 4 => s.cp0.context &&& 0xFFFFFFFFFFFFFFF0#64
  | 5 => (s.cp0.pageMask &&& 0x01FFE000#32).setWidth 64
  | 6 => (s.cp0.wired &&& 0x3F#32).setWidth 64
  | 8 => s.cp0.badVAddr
  | 9 => s.cp0.count.setWidth 64
  | 10 => s.cp0.entryHi &&& 0xC00000FFFFFFE0FF#64
  | 11 => s.cp0.compare.setWidth 64
  | 12 => (s.cp0.status &&& statusMask).setWidth 64
  | 13 => s.causeWord.setWidth 64
  | 14 => s.cp0.epc
  | 15 => (s.cp0.prid &&& 0xFFFF#32).setWidth 64
  | 16 => (s.cp0.config &&& 0x7F32FFF7#32).setWidth 64
  | 17 => s.cp0.llAddr.setWidth 64
  | 20 => s.cp0.xcontext &&& 0xFFFFFFFFFFFFFFF0#64
  | 26 => (s.cp0.ecc &&& 0xFF#32).setWidth 64
  | 27 => (s.cp0.cacheErr &&& cacheErrMask).setWidth 64
  | 28 => s.cp0.tagLo.setWidth 64
  | 29 => s.cp0.tagHi.setWidth 64
  | 30 => s.cp0.errorEpc
  | _ => s.free .cp0Value

/-- Bits of `old` outside the mask and of `new` inside it. -/
def maskInto {n : Nat} (mask old new : BitVec n) : BitVec n := (old &&& ~~~mask) ||| (new &&& mask)

/-- Every FGR is undefined after a write that changes Status.FR (10_state R50; log 26). -/
def scrambleFgr (s : State) : State := { s with fgr := Vector.ofFn fun i => s.free (.fgr i.val) }

/-- Status written (46_cp0 R453). -/
def writeStatus (v : BitVec 32) (s : State) : State :=
  let status := maskInto statusMask s.cp0.status v
  let s' := if status.getLsbD 26 = s.cp0.status.getLsbD 26 then s else scrambleFgr s
  { s' with cp0 := { s'.cp0 with status := status } }

/-- Compare written: it clears the timer latch, and whether a write that makes Count = Compare sets it is a free
bit (60_exceptions R664). -/
def writeCompare (v : BitVec 32) (s : State) : State :=
  { s with
    timerLatch := if s.cp0.count = v then s.freeBit .timerLatch else false
    cp0 := { s.cp0 with compare := v } }

/-- Count written; whether that makes the latch set when Count = Compare is a free bit (60_exceptions R664). -/
def writeCount (v : BitVec 32) (s : State) : State :=
  { s with
    timerLatch := if s.timerLatch then true else if v = s.cp0.compare then s.freeBit .timerLatch else false
    cp0 := { s.cp0 with count := v } }

/-- Wired written: Random goes to its upper bound (10_state R76). -/
def writeWired (v : BitVec 32) (s : State) : State :=
  { s with randomHold := true, cp0 := { s.cp0 with wired := v &&& 0x3F#32, random := 47#6 } }

/-- Config written: a write that enables the secondary cache leaves its state undefined, so that every line has to be
invalidated again (46_cp0 R453, 20_memory R197). -/
def writeConfig (v : BitVec 32) (s : State) : State :=
  let config := maskInto 0x1007#32 s.cp0.config v
  { s with
    caches := if config.getLsbD 12 && !s.se then { s.caches with secondary := 0#65536 } else s.caches
    cp0 := { s.cp0 with config := config } }

/-- CP0Write(n, v) of all 64 bits; read-only registers, reserved fields and unlisted numbers ignore the write
(46_cp0 R453, 10_state R94, R95). -/
def cp0Write (n : Reg) (v : Word) (s : State) : State :=
  match n.toNat with
  | 0 => { s with cp0 := { s.cp0 with index := maskInto 0x3F#32 s.cp0.index (low v) } }
  | 2 => { s with cp0 := { s.cp0 with entryLo0 := v &&& entryLoMask } }
  | 3 => { s with cp0 := { s.cp0 with entryLo1 := v &&& entryLoMask } }
  | 4 => { s with cp0 := { s.cp0 with context := maskInto 0xFFFFFFFFFF800000#64 s.cp0.context v } }
  | 5 => { s with cp0 := { s.cp0 with pageMask := low v &&& 0x01FFE000#32 } }
  | 6 => writeWired (low v) s
  | 9 => writeCount (low v) s
  | 10 => { s with cp0 := { s.cp0 with entryHi := v &&& 0xC00000FFFFFFE0FF#64 } }
  | 11 => writeCompare (low v) s
  | 12 => writeStatus (low v) s
  | 13 => { s with cp0 := { s.cp0 with cause := maskInto 0x300#32 s.cp0.cause (low v) } }
  | 14 => { s with cp0 := { s.cp0 with epc := v } }
  | 16 => writeConfig (low v) s
  | 17 => { s with cp0 := { s.cp0 with llAddr := low v } }
  | 20 => { s with cp0 := { s.cp0 with xcontext := maskInto 0xFFFFFFFE00000000#64 s.cp0.xcontext v } }
  | 26 => { s with cp0 := { s.cp0 with ecc := low v &&& 0xFF#32 } }
  | 28 => { s with cp0 := { s.cp0 with tagLo := low v } }
  | 29 => { s with cp0 := { s.cp0 with tagHi := low v } }
  | 30 => { s with cp0 := { s.cp0 with errorEpc := v } }
  | _ => s

/-- What MTC0 writes to a 64-bit register: the word when it is sign-extended, else free upper bits (46_cp0 R443). -/
def State.mtc0Value (s : State) (v : Word) : Word :=
  if isWord v then v else (s.free .upper).setWidth 32 ++ low v

/-- What an instruction that writes CP0 or TLB state leaves behind: for the next CP0_HAZARD instructions a dependent
one may still see the state before it (70_reset_and_hazards R712; log 8). -/
def issue (before s : State) : State :=
  if before.cp0Hazard = 0 then s
  else
    { s with recent := { left := before.cp0Hazard + 1, cp0 := before.cp0, tlb := before.tlb,
                         timerLatch := before.timerLatch } :: s.recent }

/-- One executed instruction further away from every recent CP0 or TLB write (70_reset_and_hazards R712). -/
def ageRecent (s : State) : State :=
  { s with recent := s.recent.filterMap fun o => if o.left ≤ 1 then none else some { o with left := o.left - 1 } }

/-! ### The TLB instructions (46_cp0 R445 to R449) -/

/-- The TLB entry that PageMask, EntryHi, EntryLo0 and EntryLo1 describe (46_cp0 R445). -/
def State.tlbEntryNow (s : State) : TlbEntry :=
  { mask := s.cp0.pageMask.extractLsb' 13 12
    r := s.cp0.entryHi.extractLsb' 62 2
    vpn2 := s.cp0.entryHi.extractLsb' 13 27
    asid := s.cp0.entryHi.extractLsb' 0 8
    g := s.cp0.entryLo0.getLsbD 0 && s.cp0.entryLo1.getLsbD 0
    pfn0 := s.cp0.entryLo0.extractLsb' 6 24
    c0 := s.cp0.entryLo0.extractLsb' 3 3
    d0 := s.cp0.entryLo0.getLsbD 2
    v0 := s.cp0.entryLo0.getLsbD 1
    pfn1 := s.cp0.entryLo1.extractLsb' 6 24
    c1 := s.cp0.entryLo1.extractLsb' 3 3
    d1 := s.cp0.entryLo1.getLsbD 2
    v1 := s.cp0.entryLo1.getLsbD 1
    written := true }

/-- TLBWrite(i) (46_cp0 R445). -/
def tlbWrite (i : Fin 48) (s : State) : State := { s with tlb := s.tlb.set i.val s.seen.tlbEntryNow i.isLt }

/-- A TLB entry number, or the stop the spec gives one above 47 (10_state R71, R76). -/
def tlbIndex (f : Fault) (n : Nat) : Except Stop (Fin 48) :=
  if h : n < 48 then .ok ⟨n, h⟩ else .error (.fault f)

/-- EntryLo from its fields. -/
def entryLoOf (pfn : BitVec 24) (c : BitVec 3) (d v g : Bool) : Word :=
  (pfn ++ c ++ BitVec.ofBool d ++ BitVec.ofBool v ++ BitVec.ofBool g).setWidth 64

/-- TLBR's effect: the entry in PageMask, EntryHi, EntryLo0 and EntryLo1; VPN2 bits under the mask are free
(46_cp0 R447). -/
def tlbRead (i : Fin 48) (s : State) : State :=
  let e := s.seen.tlb[i]
  let vpn2 := maskInto (e.mask.setWidth 27) e.vpn2 ((s.free .tlbVpn).setWidth 27)
  { s with cp0 := { s.cp0 with
      pageMask := (e.mask ++ 0#13).setWidth 32
      entryHi := e.r ++ 0#22 ++ vpn2 ++ 0#5 ++ e.asid
      entryLo0 := entryLoOf e.pfn0 e.c0 e.d0 e.v0 e.g
      entryLo1 := entryLoOf e.pfn1 e.c1 e.d1 e.v1 e.g } }

/-- TLBP's effect: Index.P and Index (46_cp0 R449). -/
def tlbProbe (s : State) : Except Stop State :=
  let v := s.seen
  if !v.masksLegal then .error (.fault .illegalPageMask)
  else match v.tlbHits (v.cp0.entryHi.extractLsb' 62 2) (v.cp0.entryHi.extractLsb' 13 27)
      (v.cp0.entryHi.extractLsb' 0 8) with
    | [] => .ok { s with cp0 := { s.cp0 with index := 1#1 ++ 0#25 ++ (s.free .probeIndex).setWidth 6 } }
    | [i] => .ok { s with cp0 := { s.cp0 with index := BitVec.ofNat 32 i.val } }
    | _ => .error (.fault .multipleTlbMatch)

/-! ### CACHE (46_cp0 R450 to R452) -/

/-- The byte a discarded line holds afterwards: a free value for each byte of the line (46_cp0 R452). -/
def scrambleLine (s : State) (line : Nat) (m : List Host.Cell) : List Host.Cell :=
  memWriteAll id m (32 * line) ((List.range 32).map fun k => (s.free (.lineByte line k)).setWidth 8)

/-- A line of which a fetch may still see the bytes as they are, whatever becomes of them (20_memory R194). -/
def staleLine (m : List Host.Cell) (st : List StaleByte) (line : Nat) : List StaleByte :=
  staleMarkAll id m st (32 * line) 32

/-- Every line of MaybeDirty discarded: its bytes become free values, and a fetch may still see them as they were
(46_cp0 R452, 20_memory R194). -/
def scrambleDirty (s : State) : State :=
  { s with mem := s.maybeDirty.foldl (fun m l => scrambleLine s l m) s.mem,
           stale := s.maybeDirty.foldl (staleLine s.mem) s.stale }

/-- Bytes that no store has been performed on for certain: each becomes a free value (70_reset_and_hazards R701). -/
def scrambleBytes (s : State) (as : List Nat) (m : List Host.Cell) : List Host.Cell :=
  as.foldl (fun m a => memWrite m a ((s.free (.lineByte (lineOf a) (a % 32))).setWidth 8)) m

/-- Status.CH after a hit operation: a free bit, since the model has no cache contents (46_cp0 R452). -/
def setCacheHit (s : State) : State :=
  onCp0 (fun c => { c with status := putField c.status 18 (BitVec.ofBool (s.freeBit .cacheHit)) }) s

/-- Index Load Tag: TagLo and ECC become free values (46_cp0 R452). -/
def loadTag (s : State) : State :=
  { s with cp0 := { s.cp0 with tagLo := (s.free .tagLo).setWidth 32, ecc := (s.free .ecc).setWidth 32 &&& 0xFF#32 } }

/-- The write buffer after the write-back of a line: where the line may be dirty its bytes may stand in the buffer, and
so may what stood there before, since the line need not be dirty (20_memory R191; log 48). -/
def State.bufferLine (s : State) (line : Nat) : List Buffered :=
  if s.maybeDirty.contains line then
    { bytes := lineBytes line, olds := s.unwritten.filter fun c => lineOf c.1 == line, after := 0 } :: s.writeBuffer
  else s.writeBuffer

/-- A line written back: its stores have left the data cache, and may be in the write buffer (46_cp0 R452). -/
def writeBackLine (line : Nat) (s : State) : State :=
  { s with maybeDirty := s.maybeDirty.filter fun l => l != line, writeBuffer := s.bufferLine line,
           unwritten := s.unwritten.filter fun c => lineOf c.1 != line }

/-- Hit Write Back is also the write-back step of 20_memory R194. -/
def writeBackStep (line : Nat) (s : State) : State :=
  writeBackLine line { s with stale := staleWriteBack s.stale line }

/-- The bytes of a line become free values if the line may be dirty, and a fetch may still see them as they were
(46_cp0 R452, 20_memory R194). -/
def discardLine (line : Nat) (s : State) : State :=
  if s.maybeDirty.contains line then { s with mem := scrambleLine s line s.mem, stale := staleLine s.mem s.stale line }
  else s

/-- Create Dirty Exclusive: the line's bytes are undefined until stored. The line joins MaybeDirty, and a fetch may
still see the bytes as they were, as after a store (46_cp0 R452; DESIGN CHOICE, log 46). -/
def claimLine (line : Nat) (s : State) : State :=
  recordStore 3#3 line (lineBytes line) s.mem
    { s with mem := scrambleLine s line s.mem, stale := staleLine s.mem s.stale line }

/-- Whether Index Store Tag makes a primary line invalid with good parity (70_reset_and_hazards R703); the parity bit
P of TagLo is ignored (10_state R92). -/
def State.clearTag (s : State) : Bool := s.cp0.tagLo &&& ~~~0x1#32 == 0#32 && s.cp0.tagHi == 0#32

/-- The primary cache line an index operation selects: the virtual address bits 14:5 (46_cp0 R450; log 47). -/
def primaryIndex (va : Word) : Nat := (va.extractLsb' 5 10).toNat

/-- Index Store Tag on the instruction cache. -/
def storeTagI (va : Word) (s : State) : State :=
  if s.clearTag then { s with caches := { s.caches with icache := s.caches.icache ||| (1#1024 <<< primaryIndex va) } }
  else s

/-- Index Store Tag on the data cache. -/
def storeTagD (va : Word) (s : State) : State :=
  if s.clearTag then { s with caches := { s.caches with dcache := s.caches.dcache ||| (1#1024 <<< primaryIndex va) } }
  else s

/-- n lines of the secondary cache from an index on written with the tag in TagLo, whose bit 12 is the valid bit:
when it is clear they are invalidated (20_memory R196, R197). -/
def storeTagS (pa : PAddr) (n : Nat) (s : State) : State :=
  if s.cp0.tagLo.getLsbD 12 then s
  else
    let line := lineOf pa.toNat % s.secondaryLines
    { s with caches := { s.caches with
        secondary := s.caches.secondary ||| ((BitVec.ofNat 65536 (2 ^ n - 1)) <<< line) } }

/-- The secondary cache flushed in one operation (20_memory R196). -/
def flushS (s : State) : State := { s with caches := { s.caches with secondary := BitVec.allOnes 65536 } }

/-- CacheOp for an operation of the table of 46_cp0 R451 at va, pa. A secondary-cache operation while the cache is
present but disabled runs as when it is enabled (DESIGN CHOICE, log 45), and Create Dirty Exclusive on the data cache,
for which the table gives no effect on Status.CH, leaves it (DESIGN CHOICE, log 46). -/
def cacheOp (op5 : BitVec 5) (va : Word) (pa : PAddr) (s : State) : Except Stop State :=
  let line := lineOf pa.toNat
  let absent := s.ss == 3#2
  match op5.toNat with
  | 0x00 => .ok s
  | 0x04 => .ok (issue s (loadTag s))
  | 0x08 => .ok (storeTagI va s)
  | 0x10 => .ok (setCacheHit { s with stale := staleInvalidate s.stale line })
  | 0x14 => .ok s
  | 0x18 => .ok (setCacheHit s)
  | 0x01 => .ok s
  | 0x05 => .ok (issue s (loadTag s))
  | 0x09 => .ok (scrambleDirty (storeTagD va s))
  | 0x0D => .ok (claimLine line s)
  | 0x11 => .ok (setCacheHit (discardLine line s))
  | 0x15 => .ok (setCacheHit (writeBackLine line s))
  | 0x19 => .ok (setCacheHit (writeBackStep line s))
  | 0x03 => if absent then .error (.refuse .cacheOpUndefined) else .ok (scrambleDirty (flushS s))
  | 0x07 => if absent then .error (.refuse .cacheOpUndefined) else .ok (issue s (loadTag s))
  | 0x0B => if absent then .error (.refuse .cacheOpUndefined) else .ok (storeTagS pa 1 s)
  | 0x17 =>
    if absent || va.extractLsb' 0 12 != 0#12 then .error (.refuse .cacheOpUndefined)
    else .ok (scrambleDirty (storeTagS (pa &&& ~~~0xFFF#36) 128 s))
  | _ => .error (.refuse .cacheOpUndefined)

/-- CACHE at va: translation as a load, the external events of a data access, then the operation; through an
uncached attribute it is undefined (46_cp0 R450). -/
def cacheAccess (op5 : BitVec 5) (va : Word) (s : State) : Except Stop State := do
  let p ← translate s.seen .load va
  if p.2 = 2#3 then .error (.refuse .cacheOpUndefined)
  else do
    dataCacheError s
    if s.pins.dataBusError then .error (.exc .busErrorData) else cacheOp op5 va p.1 s

/-! ### HI and LO (43_muldiv R361, R362) -/

/-- HI may be written: not within two instructions after MFHI, with HILO_HAZARD (43_muldiv R362; log 9). -/
def requireHi (s : State) : Except Stop Unit :=
  if s.hiloHazard && decide (0 < s.hiGuard) then .error (.refuse .hiLoHazard) else .ok ()

/-- LO may be written: the same after MFLO. -/
def requireLo (s : State) : Except Stop Unit :=
  if s.hiloHazard && decide (0 < s.loGuard) then .error (.refuse .hiLoHazard) else .ok ()

/-- Both may. -/
def requireHiLo (s : State) : Except Stop Unit := do
  requireHi s
  requireLo s

/-- HI and LO written by a multiply or divide (43_muldiv R361). -/
def setHiLo (h l : Word) (s : State) : State := { s with hi := h, lo := l, hiTag := .arith, loTag := .arith }

/-- HI and LO without a value: free values (43_muldiv R361; log 11). -/
def freeHiLo (s : State) : State := setHiLo (s.free .hi) (s.free .lo) s

/-! ### Events and the end of a step (60_exceptions R623, R624, R631, R651; 10_state R72, R78) -/

/-- InterruptPending (60_exceptions R651). -/
def State.interruptPending (s : State) : Bool :=
  s.ie && !s.exl && !s.erl && decide (s.ip &&& s.im ≠ 0#8)

/-- A TLB entry with no defined contents. -/
def State.freeTlbEntry (s : State) (i : Nat) : TlbEntry :=
  let hi := s.free (.tlbWord i 0)
  let lo0 := s.free (.tlbWord i 1)
  let lo1 := s.free (.tlbWord i 2)
  { mask := (s.free (.tlbWord i 3)).setWidth 12, r := hi.extractLsb' 62 2, vpn2 := hi.extractLsb' 13 27,
    asid := hi.extractLsb' 0 8, g := lo0.getLsbD 0, pfn0 := lo0.extractLsb' 6 24, c0 := lo0.extractLsb' 3 3,
    d0 := lo0.getLsbD 2, v0 := lo0.getLsbD 1, pfn1 := lo1.extractLsb' 6 24, c1 := lo1.extractLsb' 3 3,
    d1 := lo1.getLsbD 2, v1 := lo1.getLsbD 1, written := false }

/-- A free value for CP0 register n in its field positions. -/
def State.freeCp0 (s : State) (n : Nat) (mask : Word) : Word := s.free (.cp0 n) &&& mask

/-- The CP0 registers after a cold Reset: the fields of 60_exceptions R623, all others undefined (log 17). -/
def State.coldCp0 (s : State) : Cp0 :=
  { index := low (s.freeCp0 0 0x8000003F#64), random := 47#6, entryLo0 := s.freeCp0 2 entryLoMask,
    entryLo1 := s.freeCp0 3 entryLoMask, context := s.freeCp0 4 0xFFFFFFFFFFFFFFF0#64,
    pageMask := low (s.freeCp0 5 0x01FFE000#64), wired := 0#32, badVAddr := s.free (.cp0 8),
    count := low (s.free (.cp0 9)), entryHi := s.freeCp0 10 0xC00000FFFFFFE0FF#64,
    compare := low (s.free (.cp0 11)),
    status := (low (s.free (.cp0 12)) &&& 0xF607FFFB#32) ||| 0x00400004#32,
    cause := low (s.freeCp0 13 0xB000037C#64), epc := s.free (.cp0 14), prid := s.cp0.prid,
    config := (s.cp0.config &&& 0x7F328000#32) ||| 0x000066F0#32 ||| low (s.freeCp0 16 0x7#64),
    llAddr := low (s.free (.cp0 17)), xcontext := s.freeCp0 20 0xFFFFFFFFFFFFFFF0#64,
    ecc := low (s.freeCp0 26 0xFF#64), cacheErr := low (s.freeCp0 27 0xBE000000#64),
    tagLo := low (s.free (.cp0 28)), tagHi := low (s.free (.cp0 29)), errorEpc := s.pc }

/-- The Reset exception (60_exceptions R623): what it does not write is undefined, a free value (log 17). -/
def takeColdReset (s : State) : State :=
  { s with
    pc := 0xFFFFFFFFBFC00000#64, next := none
    regs := Vector.ofFn fun i => s.free (.gpr i.val)
    hi := s.free .hi, lo := s.free .lo, hiTag := .moved, loTag := .moved, hiGuard := 0, loGuard := 0
    llbit := (s.free (.hidden 0)).getLsbD 0
    fgr := Vector.ofFn fun i => s.free (.fgr i.val)
    fcr31 := low (s.free (.hidden 1)) &&& 0xFF83FFFF#32
    fccPrev := (s.free (.hidden 2)).setWidth 8
    timerLatch := (s.free (.hidden 3)).getLsbD 0
    randomHold := true
    tlb := Vector.ofFn fun i => s.freeTlbEntry i.val
    recent := [], stale := [], maybeDirty := [], unwritten := [], writeBuffer := [], deviceStores := []
    caches := CacheInit.none
    link := { addr := none, armed := false, start := s.draws, fails := 0 }
    cp0 := s.coldCp0
    pins := { s.pins with coldReset := false } }

/-- CP0 after Soft Reset and NMI entry (60_exceptions R624). -/
def enterSoft (s : State) (c : Cp0) : Cp0 :=
  { c with errorEpc := s.restartPc, status := (c.status &&& ~~~0x00200000#32) ||| 0x00500004#32 }

/-- The part of Soft Reset and NMI entry they share (60_exceptions R624). -/
def takeSoftEntry (s : State) : State :=
  { breakLink (onCp0 (enterSoft s) s) with pc := 0xFFFFFFFFBFC00000#64, next := none }

/-- Soft Reset: the cache state is lost, so that lines not yet written back and the targets of stores that may still
be in the write buffer hold free values, and the caches have to be initialised again (60_exceptions R624,
70_reset_and_hazards R701, R703; log 18). -/
def takeSoftReset (s : State) : State :=
  let s' := takeSoftEntry (scrambleDirty s)
  { s' with mem := scrambleBytes s (s.writeBuffer.flatMap Buffered.bytes) s'.mem, maybeDirty := [], unwritten := [],
            writeBuffer := [], deviceStores := [], caches := CacheInit.none, pins := { s'.pins with reset := false } }

/-- NMI (60_exceptions R624). -/
def takeNmi (s : State) : State :=
  let s' := takeSoftEntry s
  { s' with pins := { s'.pins with nmi := false } }

/-- The interrupt exception; where EXL is seen as it was before a recent write of Status, it is taken as with EXL
clear (60_exceptions R651; 70_reset_and_hazards R712). -/
def takeInterrupt (s : State) : State :=
  takeException .interrupt
    (if s.exl then { s with cp0 := { s.cp0 with status := s.cp0.status &&& ~~~0x2#32 } } else s)

/-- The event taken in place of the next instruction, in the order Reset, Soft Reset, NMI, interrupt
(60_exceptions R630, R651; log 13, 16). -/
def takeEvent (s : State) : Option State :=
  if s.pins.coldReset then some (takeColdReset s)
  else if s.pins.reset then some (takeSoftReset s)
  else if s.pins.nmi then some (takeNmi s)
  else if (s.view true).interruptPending then some (takeInterrupt s)
  else none

/-- A word placed where the next instruction is fetched, no older word seen there, and the caches initialised where
the fetch goes through them (log 38). -/
def placeWord (s : State) (w : BitVec 32) : State :=
  match fetchAddr s with
  | .ok (pa, attr) =>
    let a := pa.toNat
    let outside := fun b : Nat => decide (b < a) || decide (a + 4 ≤ b)
    { s with
      mem := memWriteAll id s.mem a (bytesOfWord s.bigEndianMem w)
      stale := s.stale.filter fun e => outside e.addr
      unwritten := s.unwritten.filter fun c => outside c.1
      writeBuffer := s.writeBuffer.map fun b => { b with olds := b.olds.filter fun c => outside c.1 }
      caches := if s.cacheReady attr then s.caches else CacheInit.all }
  | .error _ => s

/-- A free Random from Wired to 47, or any where Wired is above 47 (10_state R72, R76). -/
def State.freeRandom (s : State) (wired : BitVec 32) : BitVec 6 :=
  let w := (wired &&& 0x3F#32).toNat
  if w ≤ 47 then BitVec.ofNat 6 (w + (s.free .random).toNat % (48 - w))
  else (s.free .random).setWidth 6

/-- The timer latch when Count advances by k: set if Compare is passed (60_exceptions R664). -/
def latchAfter (latch : Bool) (c : Cp0) (k : Nat) : Bool :=
  latch || decide ((c.compare - c.count - 1#32).toNat < k)

/-- The CP0 registers when Count advances by k and Random moves, unless Wired was just written or a reset taken
(10_state R72, R78). -/
def State.tickCp0 (s : State) (hold : Bool) (k : Nat) (c : Cp0) : Cp0 :=
  { c with count := c.count + BitVec.ofNat 32 k, random := if hold then c.random else s.freeRandom c.wired }

/-- What time does between two steps: Count advances by a free amount, the latch follows, Random moves, the
injected errors of this step are over, the next step draws anew, and the condition codes before this step are
those a branch in the next may still see (10_state R72, R78; 70_reset_and_hazards R714; log 14 to 16, 35). -/
def tick (before s : State) : State :=
  let k := (s.free .countStep).toNat
  { s with
    fccPrev := before.fccAll
    timerLatch := latchAfter s.timerLatch s.cp0 k
    randomHold := false
    cp0 := s.tickCp0 s.randomHold k s.cp0
    recent := s.recent.map fun o =>
      { o with cp0 := s.tickCp0 false k o.cp0, timerLatch := latchAfter o.timerLatch o.cp0 k }
    pins := { s.pins with fetchCacheError := none, dataCacheError := none, fetchBusError := false,
                          dataBusError := false }
    draws := s.draws + 1 }

/-- The end of a step that began in state `before`, on its outcome. -/
def tickOut (before : State) (o : Out) : Out :=
  match o with
  | .next s => .next (tick before s)
  | .fault f => .fault f
  | .refused r => .refused r

end Sys2Proof.Machine
end

