-- ==== Sys2Proof/Machine/Alu.lean ====
section
/-! DEFINITION. Integer arithmetic, logic, compare and conditional move (spec 41_alu R300 to R328). -/

namespace Sys2Proof.Machine

/-- A result written to a register by an instruction that completes. -/
def writeGpr (rd : Reg) (v : Word) (s : State) : State := advance (setGpr rd v s)

/-- A trapping 32-bit sum or difference, t of 33 bits: Integer Overflow when its top bits differ; on operands that
are not sign-extended words both the trap and the result are free (41_alu R301, R303, R305; log 10). -/
def trap32 (operandsOk : Bool) (t : BitVec 33) (rd : Reg) (s : State) : Except Stop State :=
  if (if operandsOk then t.getLsbD 32 != t.getLsbD 31 else s.freeBit .overflow) then .error (.exc .overflow)
  else .ok (writeGpr rd (s.result32 operandsOk (t.setWidth 32)) s)

/-- A trapping 64-bit sum or difference, t of 65 bits (41_alu R307, R309, R311). -/
def trap64 (t : BitVec 65) (rd : Reg) (s : State) : Except Stop State :=
  if t.getLsbD 64 != t.getLsbD 63 then .error (.exc .overflow) else .ok (writeGpr rd (t.setWidth 64) s)

/-- A register copied when a condition holds (41_alu R325 to R328). -/
def moveIf (c : Bool) (rd rs : Reg) (s : State) : State :=
  if c then writeGpr rd (s.gpr rs) s else advance s

/-- ADD (41_alu R301). -/
def execAdd (rs rt rd : Reg) (s : State) : Out := finish s (trap32 (isWord (s.gpr rs) && isWord (s.gpr rt))
    ((low (s.gpr rs)).signExtend 33 + (low (s.gpr rt)).signExtend 33) rd s)

/-- ADDU (41_alu R302). -/
def execAddu (rs rt rd : Reg) (s : State) : Out := .next (writeGpr rd (s.result32 (isWord (s.gpr rs) && isWord (s.gpr rt))
    (low (s.gpr rs) + low (s.gpr rt))) s)

/-- DADD (41_alu R307). -/
def execDadd (rs rt rd : Reg) (s : State) : Out := finish s do
  require64 s
  trap64 ((s.gpr rs).signExtend 65 + (s.gpr rt).signExtend 65) rd s

/-- DADDU (41_alu R308). -/
def execDaddu (rs rt rd : Reg) (s : State) : Out := finish s do
  require64 s
  .ok (writeGpr rd (s.gpr rs + s.gpr rt) s)

/-- SUB (41_alu R303). -/
def execSub (rs rt rd : Reg) (s : State) : Out := finish s (trap32 (isWord (s.gpr rs) && isWord (s.gpr rt))
    ((low (s.gpr rs)).signExtend 33 - (low (s.gpr rt)).signExtend 33) rd s)

/-- SUBU (41_alu R304). -/
def execSubu (rs rt rd : Reg) (s : State) : Out := .next (writeGpr rd (s.result32 (isWord (s.gpr rs) && isWord (s.gpr rt))
    (low (s.gpr rs) - low (s.gpr rt))) s)

/-- DSUB (41_alu R309). -/
def execDsub (rs rt rd : Reg) (s : State) : Out := finish s do
  require64 s
  trap64 ((s.gpr rs).signExtend 65 - (s.gpr rt).signExtend 65) rd s

/-- DSUBU (41_alu R310). -/
def execDsubu (rs rt rd : Reg) (s : State) : Out := finish s do
  require64 s
  .ok (writeGpr rd (s.gpr rs - s.gpr rt) s)

/-- ADDI (41_alu R305). -/
def execAddi (rs rt : Reg) (imm : BitVec 16) (s : State) : Out :=
    finish s (trap32 (isWord (s.gpr rs)) ((low (s.gpr rs)).signExtend 33 + imm.signExtend 33) rt s)

/-- ADDIU (41_alu R306). -/
def execAddiu (rs rt : Reg) (imm : BitVec 16) (s : State) : Out :=
  .next (writeGpr rt (s.result32 (isWord (s.gpr rs)) (low (s.gpr rs) + imm.signExtend 32)) s)

/-- DADDI (41_alu R311). -/
def execDaddi (rs rt : Reg) (imm : BitVec 16) (s : State) : Out := finish s do
  require64 s
  trap64 ((s.gpr rs).signExtend 65 + imm.signExtend 65) rt s

/-- DADDIU (41_alu R312). -/
def execDaddiu (rs rt : Reg) (imm : BitVec 16) (s : State) : Out := finish s do
  require64 s
  .ok (writeGpr rt (s.gpr rs + simm imm) s)

/-- AND (41_alu R313). -/
def execAnd (rs rt rd : Reg) (s : State) : Out := .next (writeGpr rd (s.gpr rs &&& s.gpr rt) s)

/-- ANDI (41_alu R317). -/
def execAndi (rs rt : Reg) (imm : BitVec 16) (s : State) : Out := .next (writeGpr rt (s.gpr rs &&& zimm imm) s)

/-- OR (41_alu R314). -/
def execOr (rs rt rd : Reg) (s : State) : Out := .next (writeGpr rd (s.gpr rs ||| s.gpr rt) s)

/-- ORI (41_alu R318). -/
def execOri (rs rt : Reg) (imm : BitVec 16) (s : State) : Out := .next (writeGpr rt (s.gpr rs ||| zimm imm) s)

/-- XOR (41_alu R315). -/
def execXor (rs rt rd : Reg) (s : State) : Out := .next (writeGpr rd (s.gpr rs ^^^ s.gpr rt) s)

/-- XORI (41_alu R319). -/
def execXori (rs rt : Reg) (imm : BitVec 16) (s : State) : Out := .next (writeGpr rt (s.gpr rs ^^^ zimm imm) s)

/-- NOR (41_alu R316). -/
def execNor (rs rt rd : Reg) (s : State) : Out := .next (writeGpr rd (~~~(s.gpr rs ||| s.gpr rt)) s)

/-- LUI (41_alu R320). -/
def execLui (rt : Reg) (imm : BitVec 16) (s : State) : Out := .next (writeGpr rt (sext (imm ++ 0#16)) s)

/-- SLT (41_alu R321). -/
def execSlt (rs rt rd : Reg) (s : State) : Out := .next (writeGpr rd (boolWord ((s.gpr rs).slt (s.gpr rt))) s)

/-- SLTU (41_alu R322). -/
def execSltu (rs rt rd : Reg) (s : State) : Out := .next (writeGpr rd (boolWord ((s.gpr rs).ult (s.gpr rt))) s)

/-- SLTI (41_alu R323). -/
def execSlti (rs rt : Reg) (imm : BitVec 16) (s : State) : Out :=
  .next (writeGpr rt (boolWord ((s.gpr rs).slt (simm imm))) s)

/-- SLTIU (41_alu R324). -/
def execSltiu (rs rt : Reg) (imm : BitVec 16) (s : State) : Out :=
  .next (writeGpr rt (boolWord ((s.gpr rs).ult (simm imm))) s)

/-- MOVN (41_alu R325). -/
def execMovn (rs rt rd : Reg) (s : State) : Out := finish s do
  requireMips4 s
  .ok (moveIf (s.gpr rt != 0#64) rd rs s)

/-- MOVZ (41_alu R326). -/
def execMovz (rs rt rd : Reg) (s : State) : Out := finish s do
  requireMips4 s
  .ok (moveIf (s.gpr rt == 0#64) rd rs s)

/-- MOVF (41_alu R327). -/
def execMovf (rs : Reg) (cc : BitVec 3) (rd : Reg) (s : State) : Out := finish s do
  requireUnit 1#2 s
  requireMips4 s
  .ok (moveIf (!s.fccSeen cc) rd rs s)

/-- MOVT (41_alu R328). -/
def execMovt (rs : Reg) (cc : BitVec 3) (rd : Reg) (s : State) : Out := finish s do
  requireUnit 1#2 s
  requireMips4 s
  .ok (moveIf (s.fccSeen cc) rd rs s)

end Sys2Proof.Machine
end

