-- ==== Sys2Proof/Machine/Branch.lean ====
section
/-! DEFINITION. Jumps and branches (spec 44_jump_branch R380 to R409). -/

namespace Sys2Proof.Machine

/-- An ordinary conditional branch: the delay slot runs in either case (44_jump_branch R382). -/
def branchIf (c : Bool) (offset : BitVec 16) (s : State) : State :=
  branchTo (if c then branchTarget s.pc offset else s.seqPc 8) s

/-- A branch-likely: the delay slot is nullified when it is not taken (44_jump_branch R382). -/
def branchLikely (c : Bool) (offset : BitVec 16) (s : State) : State :=
  if c then branchTo (branchTarget s.pc offset) s else skipSlot s

/-- The link value in a register (44_jump_branch R386). -/
def link (rd : Reg) (s : State) : State := setGpr rd (s.pc + 8#64) s

/-- A linking branch may not test register 31 (44_jump_branch R395). -/
def requireLinkSource (rs : Reg) : Except Stop Unit :=
  if rs = 31#5 then .error (.refuse .linkRegisterSource) else .ok ()

/-- A conditional branch on the general registers. -/
def branchGpr (c : Bool) (offset : BitVec 16) (s : State) : Out :=
  finish s do
    requireNoSlot s
    .ok (branchIf c offset s)

/-- A branch-likely on the general registers. -/
def branchGprLikely (c : Bool) (offset : BitVec 16) (s : State) : Out :=
  finish s do
    requireNoSlot s
    .ok (branchLikely c offset s)

/-- The gates of the four BC1 branches (44_jump_branch R405 to R409). -/
def bc1Gate (cc : BitVec 3) (s : State) : Except Stop Unit := do
  requireUnit 1#2 s
  requireCc cc s
  requireNoSlot s

/-- A register below zero, by its sign bit. -/
def isNeg (v : Word) : Bool := v.getLsbD 63

/-- J (44_jump_branch R385). -/
def execJ (target : BitVec 26) (s : State) : Out := finish s do
  requireNoSlot s
  .ok (branchTo (jumpTarget s.pc target) s)

/-- JAL (44_jump_branch R386). -/
def execJal (target : BitVec 26) (s : State) : Out := finish s do
  requireNoSlot s
  .ok (branchTo (jumpTarget s.pc target) (link 31#5 s))

/-- JR (44_jump_branch R387). -/
def execJr (rs : Reg) (s : State) : Out := finish s do
  requireNoSlot s
  .ok (branchTo (s.gpr rs) s)

/-- JALR (44_jump_branch R388). -/
def execJalr (rs rd : Reg) (s : State) : Out := finish s do
  requireNoSlot s
  if rd = rs then .error (.refuse .linkRegisterSource) else .ok (branchTo (s.gpr rs) (link rd s))

/-- BEQ (44_jump_branch R389). -/
def execBeq (rs rt : Reg) (offset : BitVec 16) (s : State) : Out := branchGpr (s.gpr rs == s.gpr rt) offset s

/-- BNE (44_jump_branch R390). -/
def execBne (rs rt : Reg) (offset : BitVec 16) (s : State) : Out := branchGpr (s.gpr rs != s.gpr rt) offset s

/-- BLEZ (44_jump_branch R391). -/
def execBlez (rs : Reg) (offset : BitVec 16) (s : State) : Out := branchGpr ((s.gpr rs).sle 0#64) offset s

/-- BGTZ (44_jump_branch R392). -/
def execBgtz (rs : Reg) (offset : BitVec 16) (s : State) : Out := branchGpr ((0#64).slt (s.gpr rs)) offset s

/-- BLTZ (44_jump_branch R393). -/
def execBltz (rs : Reg) (offset : BitVec 16) (s : State) : Out := branchGpr (isNeg (s.gpr rs)) offset s

/-- BGEZ (44_jump_branch R394). -/
def execBgez (rs : Reg) (offset : BitVec 16) (s : State) : Out := branchGpr (!isNeg (s.gpr rs)) offset s

/-- BLTZAL (44_jump_branch R395). -/
def execBltzal (rs : Reg) (offset : BitVec 16) (s : State) : Out := finish s do
  requireNoSlot s
  requireLinkSource rs
  .ok (branchIf (isNeg (s.gpr rs)) offset (link 31#5 s))

/-- BGEZAL (44_jump_branch R396). -/
def execBgezal (rs : Reg) (offset : BitVec 16) (s : State) : Out := finish s do
  requireNoSlot s
  requireLinkSource rs
  .ok (branchIf (!isNeg (s.gpr rs)) offset (link 31#5 s))

/-- BEQL (44_jump_branch R397). -/
def execBeql (rs rt : Reg) (offset : BitVec 16) (s : State) : Out := branchGprLikely (s.gpr rs == s.gpr rt) offset s

/-- BNEL (44_jump_branch R398). -/
def execBnel (rs rt : Reg) (offset : BitVec 16) (s : State) : Out := branchGprLikely (s.gpr rs != s.gpr rt) offset s

/-- BLEZL (44_jump_branch R399). -/
def execBlezl (rs : Reg) (offset : BitVec 16) (s : State) : Out := branchGprLikely ((s.gpr rs).sle 0#64) offset s

/-- BGTZL (44_jump_branch R400). -/
def execBgtzl (rs : Reg) (offset : BitVec 16) (s : State) : Out := branchGprLikely ((0#64).slt (s.gpr rs)) offset s

/-- BLTZL (44_jump_branch R401). -/
def execBltzl (rs : Reg) (offset : BitVec 16) (s : State) : Out := branchGprLikely (isNeg (s.gpr rs)) offset s

/-- BGEZL (44_jump_branch R402). -/
def execBgezl (rs : Reg) (offset : BitVec 16) (s : State) : Out := branchGprLikely (!isNeg (s.gpr rs)) offset s

/-- BLTZALL (44_jump_branch R403). -/
def execBltzall (rs : Reg) (offset : BitVec 16) (s : State) : Out := finish s do
  requireNoSlot s
  requireLinkSource rs
  .ok (branchLikely (isNeg (s.gpr rs)) offset (link 31#5 s))

/-- BGEZALL (44_jump_branch R404). -/
def execBgezall (rs : Reg) (offset : BitVec 16) (s : State) : Out := finish s do
  requireNoSlot s
  requireLinkSource rs
  .ok (branchLikely (!isNeg (s.gpr rs)) offset (link 31#5 s))

/-- BC1F (44_jump_branch R406). -/
def execBc1f (cc : BitVec 3) (offset : BitVec 16) (s : State) : Out := finish s do
  bc1Gate cc s
  .ok (branchIf (!s.fccSeen cc) offset s)

/-- BC1T (44_jump_branch R407). -/
def execBc1t (cc : BitVec 3) (offset : BitVec 16) (s : State) : Out := finish s do
  bc1Gate cc s
  .ok (branchIf (s.fccSeen cc) offset s)

/-- BC1FL (44_jump_branch R408). -/
def execBc1fl (cc : BitVec 3) (offset : BitVec 16) (s : State) : Out := finish s do
  bc1Gate cc s
  .ok (branchLikely (!s.fccSeen cc) offset s)

/-- BC1TL (44_jump_branch R409). -/
def execBc1tl (cc : BitVec 3) (offset : BitVec 16) (s : State) : Out := finish s do
  bc1Gate cc s
  .ok (branchLikely (s.fccSeen cc) offset s)

end Sys2Proof.Machine
end

