-- ==== Sys2Proof/Machine/Cp0Instr.lean ====
section
/-! DEFINITION. The CP0 instructions and CACHE (spec 46_cp0 R440 to R452). -/

namespace Sys2Proof.Machine

/-- What DMFC0 delivers: all 64 bits, a 32-bit register under a free upper word (46_cp0 R442). -/
def State.cp0Read64 (s : State) (n : Reg) : Word :=
  if cp0Wide n then s.cp0Read n else (s.free .upper).setWidth 32 ++ low (s.cp0Read n)

/-- The TLB entry that TLBWR writes; Wired above 47 is undefined (46_cp0 R446, 10_state R76). -/
def State.randomEntry (s : State) : Except Stop (Fin 48) :=
  if 47 < (s.cp0.wired &&& 0x3F#32).toNat then .error (.fault .wiredAboveTlb)
  else tlbIndex .wiredAboveTlb s.cp0.random.toNat

/-- The TLB entry that Index names (46_cp0 R445, R447). -/
def State.indexEntry (s : State) : Except Stop (Fin 48) :=
  tlbIndex .indexAboveTlb (s.cp0.index &&& 0x3F#32).toNat

/-- MFC0 (46_cp0 R441). -/
def execMfc0 (rt rd : Reg) (s : State) : Out := finish s do
  requireUnit 0#2 s
  .ok (advance (setGpr rt (sext (low (s.seen.cp0Read rd))) s))

/-- DMFC0 (46_cp0 R442). -/
def execDmfc0 (rt rd : Reg) (s : State) : Out := finish s do
  requireUnit 0#2 s
  require64 s
  .ok (advance (setGpr rt (s.seen.cp0Read64 rd) s))

/-- MTC0 (46_cp0 R443). -/
def execMtc0 (rt rd : Reg) (s : State) : Out := finish s do
  requireUnit 0#2 s
  .ok (advance (issue s (cp0Write rd (s.mtc0Value (s.gpr rt)) s)))

/-- DMTC0 (46_cp0 R444). -/
def execDmtc0 (rt rd : Reg) (s : State) : Out := finish s do
  requireUnit 0#2 s
  require64 s
  .ok (advance (issue s (cp0Write rd (s.gpr rt) s)))

/-- TLBR (46_cp0 R447). -/
def execTlbr (s : State) : Out := finish s do
  requireUnit 0#2 s
  let i ← s.seen.indexEntry
  .ok (advance (issue s (tlbRead i s)))

/-- TLBWI (46_cp0 R445). -/
def execTlbwi (s : State) : Out := finish s do
  requireUnit 0#2 s
  let i ← s.seen.indexEntry
  .ok (advance (issue s (tlbWrite i s)))

/-- TLBWR (46_cp0 R446). -/
def execTlbwr (s : State) : Out := finish s do
  requireUnit 0#2 s
  let i ← s.seen.randomEntry
  .ok (advance (issue s (tlbWrite i s)))

/-- TLBP (46_cp0 R449). -/
def execTlbp (s : State) : Out := finish s do
  requireUnit 0#2 s
  let t ← tlbProbe s
  .ok (advance (issue s t))

/-- ERET (46_cp0 R448). -/
def execEret (s : State) : Out := finish s do
  requireUnit 0#2 s
  if s.inDelaySlot then .error (.refuse .eretInDelaySlot) else .ok (returnFromException s)

/-- CACHE (46_cp0 R450). -/
def execCache (base : Reg) (op5 : BitVec 5) (offset : BitVec 16) (s : State) : Out := finish s do
  requireUnit 0#2 s
  let t ← cacheAccess op5 (s.ea base offset) s
  .ok (advance t)

end Sys2Proof.Machine
end

