-- ==== Sys2Proof/Machine/FpCore.lean ====
section
/-! DEFINITION. Floating-point values, exact results, rounding, and the exceptions of a result (spec 48_fpu_arith
R510 to R517, 49_fpu_convert R551). A finite value is (-1)^neg * m * 2^e with m a natural number and e an
integer, so every step before rounding is exact. -/

namespace Sys2Proof.Machine

/-! ### Formats (48_fpu_arith R510) -/

/-- Significant bits, the hidden bit included. -/
def fpPrec : FpFmt → Nat
  | .s => 24
  | .d => 53

/-- Emax, which is also the bias. -/
def fpEmax : FpFmt → Nat
  | .s => 127
  | .d => 1023

/-- Emin. -/
def fpEmin (f : FpFmt) : Int := 1 - (fpEmax f : Int)

/-- The bit number of the sign. -/
def fpSignBit : FpFmt → Nat
  | .s => 31
  | .d => 63

/-- The biased exponent of infinities and NaNs. -/
def fpExpOnes (f : FpFmt) : Nat := 2 * fpEmax f + 1

/-- A value by class. `finite` has m > 0; `denormal` marks e = Emin-1 encodings (48_fpu_arith R510). -/
inductive FpVal where
  | snan
  | qnan
  | inf (neg : Bool)
  | zero (neg : Bool)
  | finite (denormal neg : Bool) (m : Nat) (e : Int)
deriving DecidableEq, Repr

/-- The value of the bits (48_fpu_arith R510, D0 Table 6.5): a NaN is signaling when the top fraction bit is 1. -/
def unpack (f : FpFmt) (w : Word) : FpVal :=
  let fracBits := fpPrec f - 1
  let frac := w.toNat % 2 ^ fracBits
  let ex := w.toNat / 2 ^ fracBits % (fpExpOnes f + 1)
  let neg := w.getLsbD (fpSignBit f)
  if ex = fpExpOnes f then
    if frac = 0 then .inf neg else if 2 ^ (fracBits - 1) ≤ frac then .snan else .qnan
  else if ex = 0 then
    if frac = 0 then .zero neg else .finite true neg frac (fpEmin f - fracBits)
  else .finite false neg (2 ^ fracBits + frac) ((ex : Int) - fpEmax f - fracBits)

/-- Bits from sign, biased exponent and fraction. -/
def packBits (f : FpFmt) (neg : Bool) (ex frac : Nat) : Word :=
  BitVec.ofNat 64 ((if neg then 2 ^ fpSignBit f else 0) + ex * 2 ^ (fpPrec f - 1) + frac)

/-- A signed zero. -/
def packZero (f : FpFmt) (neg : Bool) : Word := packBits f neg 0 0
/-- A signed infinity. -/
def packInf (f : FpFmt) (neg : Bool) : Word := packBits f neg (fpExpOnes f) 0
/-- The largest finite number. -/
def packMax (f : FpFmt) (neg : Bool) : Word := packBits f neg (fpExpOnes f - 1) (2 ^ (fpPrec f - 1) - 1)
/-- The smallest normalized number, which a flushed underflow may deliver (48_fpu_arith R516). -/
def packMinNormal (f : FpFmt) (neg : Bool) : Word := packBits f neg 1 0

/-! ### Rounding (48_fpu_arith R513) -/

/-- Whether a magnitude between q and q + 1 rounds up: `rem` of `unit` above q, plus less than one part of it
when `sticky`. -/
def roundsUp (mode : Rounding) (neg : Bool) (q rem unit : Nat) (sticky : Bool) : Bool :=
  let inexact := decide (rem ≠ 0) || sticky
  match mode with
  | .rz => false
  | .rp => !neg && inexact
  | .rm => neg && inexact
  | .rn => decide (unit < 2 * rem) || (decide (2 * rem = unit) && (sticky || q % 2 == 1))

/-- A magnitude rounded to p significant bits with unbounded exponent: (q, e, inexact) with
2^(p-1) ≤ q < 2^p. The magnitude is m * 2^e, or when `sticky` strictly between it and (m+1) * 2^e, m then having
more than p + 1 bits. -/
def roundTo (p : Nat) (mode : Rounding) (neg : Bool) (m : Nat) (e : Int) (sticky : Bool) : Nat × Int × Bool :=
  let n := m.log2 + 1
  if n ≤ p then (m * 2 ^ (p - n), e - (p - n : Nat), sticky)
  else
    let unit := 2 ^ (n - p)
    let q := m / unit
    let rem := m % unit
    let q' := if roundsUp mode neg q rem unit sticky then q + 1 else q
    let inexact := decide (rem ≠ 0) || sticky
    if q' = 2 ^ p then (2 ^ (p - 1), e + (n - p : Nat) + 1, inexact) else (q', e + (n - p : Nat), inexact)

/-! ### Exact results and what is delivered -/

/-- What an exact operation gives (48_fpu_arith R518). -/
inductive Exact where
  | invalid
  | divByZero (neg : Bool)
  | zero (neg : Bool)
  | inf (neg : Bool)
  /-- (-1)^neg * m * 2^e with m > 0, or strictly between that and (-1)^neg * (m+1) * 2^e when sticky -/
  | real (neg : Bool) (m : Nat) (e : Int) (sticky : Bool)
deriving DecidableEq, Repr

/-- The letters of a Cause set: E V Z O U I from bit 5 down. -/
def causeE : BitVec 6 := 0x20#6
/-- Invalid Operation. -/
def causeV : BitVec 6 := 0x10#6
/-- Division by zero. -/
def causeZ : BitVec 6 := 0x08#6
/-- Overflow and Inexact (48_fpu_arith R514). -/
def causeOI : BitVec 6 := 0x05#6
/-- Underflow and Inexact (48_fpu_arith R516). -/
def causeUI : BitVec 6 := 0x03#6
/-- Inexact. -/
def causeI : BitVec 6 := 0x01#6

/-- What governs the delivery of a result: RM, FS, whether U or I is enabled, and the default quiet NaNs
(48_fpu_arith R513 to R516). -/
structure FpMode where
  rounding : Rounding
  fs : Bool
  uiEnabled : Bool
  qnanS : BitVec 32
  qnanD : Word
deriving DecidableEq, Repr

/-- The quiet NaN delivered on an untrapped Invalid Operation, the parameters `DefaultQNaN_S` and `DefaultQNaN_D`
(48_fpu_arith R515; log 27). -/
def FpMode.qnan (md : FpMode) : FpFmt → Word
  | .s => md.qnanS.setWidth 64
  | .d => md.qnanD

/-- The FCR31 controls in force. -/
def State.fpMode (s : State) : FpMode :=
  { rounding := s.rounding, fs := s.fs, uiEnabled := s.fcrEnables.getLsbD 0 || s.fcrEnables.getLsbD 1,
    qnanS := s.qnanS, qnanD := s.qnanD }

/-- The value delivered on overflow (48_fpu_arith R514, D0 Table 7.1). -/
def overflowValue (f : FpFmt) (mode : Rounding) (neg : Bool) : Word :=
  match mode with
  | .rn => packInf f neg
  | .rz => packMax f neg
  | .rp => if neg then packMax f neg else packInf f neg
  | .rm => if neg then packInf f neg else packMax f neg

/-- The value delivered on a flushed underflow (48_fpu_arith R516, D0 Table 7.1). -/
def underflowValue (f : FpFmt) (mode : Rounding) (neg : Bool) : Word :=
  match mode with
  | .rn => packZero f neg
  | .rz => packZero f neg
  | .rp => if neg then packZero f neg else packMinNormal f neg
  | .rm => if neg then packMinNormal f neg else packZero f neg

/-- A tiny result: Unimplemented, or flushed with U and I (48_fpu_arith R516). -/
def deliverTiny (f : FpFmt) (md : FpMode) (neg : Bool) : BitVec 6 × Word :=
  if md.uiEnabled || !md.fs then (causeE, 0#64) else (causeUI, underflowValue f md.rounding neg)

/-- A real result rounded to the format (48_fpu_arith R513 to R517). -/
def deliverReal (f : FpFmt) (md : FpMode) (neg : Bool) (m : Nat) (e : Int) (sticky : Bool) : BitVec 6 × Word :=
  let r := roundTo (fpPrec f) md.rounding neg m e sticky
  let q := r.1
  let ex : Int := r.2.1 + (fpPrec f - 1 : Nat)
  if (fpEmax f : Int) < ex then (causeOI, overflowValue f md.rounding neg)
  else if ex < fpEmin f then deliverTiny f md neg
  else (if r.2.2 then causeI else 0#6, packBits f neg (ex + fpEmax f).toNat (q - 2 ^ (fpPrec f - 1)))

/-- The Cause set and the result bits of an exact result in a format (48_fpu_arith R518). -/
def deliver (f : FpFmt) (md : FpMode) : Exact → BitVec 6 × Word
  | .invalid => (causeV, md.qnan f)
  | .divByZero neg => (causeZ, packInf f neg)
  | .zero neg => (0#6, packZero f neg)
  | .inf neg => (0#6, packInf f neg)
  | .real neg m e sticky => deliverReal f md neg m e sticky

/-! ### The exact operations (48_fpu_arith R520 to R526; IEEE special values) -/

/-- A signed integer scaled: the sign and magnitude of a sum. -/
def exactOfInt (mode : Rounding) (n : Int) (e : Int) : Exact :=
  if n = 0 then .zero (mode == .rm) else .real (decide (n < 0)) n.natAbs e false

/-- The integer of a magnitude with a sign. -/
def signedInt (neg : Bool) (m : Nat) : Int := if neg then -(m : Int) else m

/-- A value's sign inverted (48_fpu_arith R521, R526). -/
def negVal : FpVal → FpVal
  | .inf n => .inf (!n)
  | .zero n => .zero (!n)
  | .finite d n m e => .finite d (!n) m e
  | v => v

/-- a + b of two screened values (48_fpu_arith R520). -/
def exactAdd (mode : Rounding) : FpVal → FpVal → Exact
  | .inf a, .inf b => if a = b then .inf a else .invalid
  | .inf a, _ => .inf a
  | _, .inf b => .inf b
  | .zero a, .zero b => .zero (if a = b then a else mode == .rm)
  | .zero _, .finite _ n m e => .real n m e false
  | .finite _ n m e, .zero _ => .real n m e false
  | .finite _ na ma ea, .finite _ nb mb eb =>
    let e := min ea eb
    exactOfInt mode (signedInt na (ma * 2 ^ (ea - e).toNat) + signedInt nb (mb * 2 ^ (eb - e).toNat)) e
  | _, _ => .invalid

/-- a - b (48_fpu_arith R521). -/
def exactSub (mode : Rounding) (a b : FpVal) : Exact := exactAdd mode a (negVal b)

/-- a * b (48_fpu_arith R522). -/
def exactMul : FpVal → FpVal → Exact
  | .inf _, .zero _ => .invalid
  | .zero _, .inf _ => .invalid
  | .inf a, .inf b => .inf (a != b)
  | .inf a, .finite _ b _ _ => .inf (a != b)
  | .finite _ a _ _, .inf b => .inf (a != b)
  | .zero a, .zero b => .zero (a != b)
  | .zero a, .finite _ b _ _ => .zero (a != b)
  | .finite _ a _ _, .zero b => .zero (a != b)
  | .finite _ na ma ea, .finite _ nb mb eb => .real (na != nb) (ma * mb) (ea + eb) false
  | _, _ => .invalid

/-- How far a dividend is scaled so that the quotient has more bits than any format's precision. -/
def divScale : Nat := 120

/-- a / b (48_fpu_arith R523). -/
def exactDiv : FpVal → FpVal → Exact
  | .inf _, .inf _ => .invalid
  | .zero _, .zero _ => .invalid
  | .inf a, .zero b => .inf (a != b)
  | .inf a, .finite _ b _ _ => .inf (a != b)
  | .zero a, .inf b => .zero (a != b)
  | .finite _ a _ _, .inf b => .zero (a != b)
  | .zero a, .finite _ b _ _ => .zero (a != b)
  | .finite _ a _ _, .zero b => .divByZero (a != b)
  | .finite _ na ma ea, .finite _ nb mb eb =>
    let m := ma * 2 ^ divScale
    .real (na != nb) (m / mb) (ea - eb - divScale) (decide (m % mb ≠ 0))
  | _, _ => .invalid

/-- One bit of a square root: the largest r + 2^k with a square not above n. -/
def sqrtBits (n : Nat) : Nat → Nat → Nat
  | 0, r => r
  | k + 1, r => sqrtBits n k (if (r + 2 ^ k) * (r + 2 ^ k) ≤ n then r + 2 ^ k else r)

/-- The square root of a natural number below 2^(2*100), rounded down. -/
def natSqrt (n : Nat) : Nat := sqrtBits n 100 0

/-- sqrt(a) (48_fpu_arith R524): the significand is scaled by an even power of two to more than 2p bits. -/
def exactSqrt : FpVal → Exact
  | .zero n => .zero n
  | .inf n => if n then .invalid else .inf false
  | .finite _ n m e =>
    if n then .invalid
    else
      let odd := e % 2 = 1
      let m' := m * 2 ^ (if odd then 121 else 120)
      let e' := (if odd then e - 121 else e - 120) / 2
      .real false (natSqrt m') e' (decide (natSqrt m' * natSqrt m' ≠ m'))
  | _ => .invalid

/-- |a| (48_fpu_arith R525). -/
def exactAbs : FpVal → Exact
  | .zero _ => .zero false
  | .inf _ => .inf false
  | .finite _ _ m e => .real false m e false
  | _ => .invalid

/-- A value as an exact result. -/
def exactOf : FpVal → Exact
  | .zero n => .zero n
  | .inf n => .inf n
  | .finite _ n m e => .real n m e false
  | _ => .invalid

/-- -a (48_fpu_arith R526). -/
def exactNeg (a : FpVal) : Exact := exactOf (negVal a)

/-! ### Operand screening and completion (48_fpu_arith R511, R512) -/

/-- A denormalized or quiet NaN operand, which the hardware does not handle. -/
def unimplementedOperand : FpVal → Bool
  | .qnan => true
  | .finite d _ _ _ => d
  | _ => false

/-- A signaling NaN. -/
def isSnan : FpVal → Bool
  | .snan => true
  | _ => false

/-- Any NaN. -/
def isNan : FpVal → Bool
  | .snan => true
  | .qnan => true
  | _ => false

/-- Screen(ops): what stops the operation before it is computed (48_fpu_arith R511). -/
def screen (f : FpFmt) (md : FpMode) (ops : List FpVal) : Option (BitVec 6 × Word) :=
  if ops.any unimplementedOperand then some (causeE, 0#64)
  else if ops.any isSnan then some (causeV, md.qnan f)
  else none

/-- FPFinish(c, write): Cause; a trap, or the Flags and the result (48_fpu_arith R512). -/
def fpFinish (s : State) (c : BitVec 6) (write : State → State) : Out :=
  if fcrTraps c s then .next (takeException .floatingPoint (setFcrCause c s))
  else .next (advance (write (raiseFlags c (setFcrCause c s))))

/-- Whether two screened or comparable values are a < b, a = b (48_fpu_arith R540). -/
def fpOrder : FpVal → FpVal → Bool × Bool
  | .inf a, .inf b => (a && !b, a == b)
  | .inf a, _ => (a, false)
  | _, .inf b => (!b, false)
  | .zero _, .zero _ => (false, true)
  | .zero _, .finite _ n _ _ => (!n, false)
  | .finite _ n _ _, .zero _ => (n, false)
  | .finite _ na ma ea, .finite _ nb mb eb =>
    let e := min ea eb
    let x := signedInt na (ma * 2 ^ (ea - e).toNat)
    let y := signedInt nb (mb * 2 ^ (eb - e).toNat)
    (decide (x < y), decide (x = y))
  | _, _ => (false, false)

/-! ### Fixed point (49_fpu_convert R551) -/

/-- A magnitude m * 2^e rounded to an integer: the integer and whether it differs. -/
def roundInt (mode : Rounding) (neg : Bool) (m : Nat) (e : Int) : Int × Bool :=
  if 0 ≤ e then (signedInt neg (m * 2 ^ e.toNat), false)
  else
    let unit := 2 ^ (-e).toNat
    let q := m / unit
    let rem := m % unit
    (signedInt neg (if roundsUp mode neg q rem unit false then q + 1 else q), decide (rem ≠ 0))

/-- The fixed-point formats. -/
inductive IntFmt where
  | w | l
deriving DecidableEq, Repr

/-- Whether the hardware delivers integer n: 32 bits for W, 53 bits and a sign for L (49_fpu_convert R551). -/
def intFits : IntFmt → Int → Bool
  | .w, n => decide (-2 ^ 31 ≤ n ∧ n ≤ 2 ^ 31 - 1)
  | .l, n => decide (-2 ^ 53 ≤ n ∧ n ≤ 2 ^ 53 - 1)

/-- The largest integer, delivered on an untrapped signaling NaN (49_fpu_convert R551). -/
def maxInt : IntFmt → Word
  | .w => 0x7FFFFFFF#64
  | .l => 0x7FFFFFFFFFFFFFFF#64

/-- A fixed-point result written (49_fpu_convert R550). -/
def setFprInt : IntFmt → Reg → Word → State → State
  | .w, i, v, s => setFgrLow i (low v) s
  | .l, i, v, s => setFpr64 i v s

/-- ToInt: the Cause set and the integer (49_fpu_convert R551). -/
def toInt (dst : IntFmt) (mode : Rounding) (a : FpVal) : BitVec 6 × Word :=
  match a with
  | .qnan => (causeE, 0#64)
  | .snan => (causeV, maxInt dst)
  | .inf _ => (causeE, 0#64)
  | .zero _ => (0#6, 0#64)
  | .finite d n m e =>
    let r := roundInt mode n m e
    if d || !intFits dst r.1 then (causeE, 0#64) else (if r.2 then causeI else 0#6, BitVec.ofInt 64 r.1)

/-- An integer as an exact value; 0 is +0 (49_fpu_convert R563). -/
def exactFromInt (n : Int) : Exact :=
  if n = 0 then .zero false else .real (decide (n < 0)) n.natAbs 0 false

end Sys2Proof.Machine
end

