-- ==== Sys2Proof/Machine/FpOps.lean ====
section
/-! DEFINITION. The shared steps of the FPU computational, compare and conversion instructions (spec 48_fpu_arith
R518 to R541, 49_fpu_convert R550 to R567). -/

namespace Sys2Proof.Machine

/-- FPR operands that must name registers (10_state R52, R53). -/
def requireFprs : List Reg → State → Except Stop Unit
  | [], _ => .ok ()
  | i :: is, s => do
    requireFpr i s
    requireFprs is s

/-- Unit 1 usable, and the FPR operands in range (48_fpu_arith R518). DESIGN CHOICE: an odd fd with FR = 0 is refused
before the operands are looked at, so also where the result would trap (E, or an enabled letter) and make no write of
FPR(fd): 10_state R53 puts UNDEFINED in the write, and the spec leaves that case open (49_fpu_convert R551; log 43). -/
def fpGate (regs : List Reg) (s : State) : Except Stop Unit := do
  requireUnit 1#2 s
  requireFprs regs s

/-- The same with the MIPS IV gate between (48_fpu_arith R527 to R529; log 43). -/
def fpGate4 (regs : List Reg) (s : State) : Except Stop Unit := do
  requireUnit 1#2 s
  requireMips4 s
  requireFprs regs s

/-- The gates, then a Cause set and the write it allows (48_fpu_arith R512). -/
def fpRun (gate : Except Stop Unit) (s : State) (c : BitVec 6) (write : State → State) : Out :=
  match gate with
  | .error st => stopOut st s
  | .ok _ => fpFinish s c write

/-! ### Arithmetic -/

/-- An operation on screened operands (48_fpu_arith R511, R518). -/
def screened (f : FpFmt) (md : FpMode) (ops : List FpVal) (r : BitVec 6 × Word) : BitVec 6 × Word :=
  match screen f md ops with
  | some x => x
  | none => r

/-- Cause set and result of a two-operand operation. -/
def binaryResult (f : FpFmt) (md : FpMode) (g : FpVal → FpVal → Exact) (a b : FpVal) : BitVec 6 × Word :=
  screened f md [a, b] (deliver f md (g a b))

/-- Cause set and result of a one-operand operation. -/
def unaryResult (f : FpFmt) (md : FpMode) (g : FpVal → Exact) (a : FpVal) : BitVec 6 × Word :=
  screened f md [a] (deliver f md (g a))

/-- The value of an FPR. -/
def State.fpVal (s : State) (f : FpFmt) (i : Reg) : FpVal := unpack f (s.fpr f i)

/-- Arith for two sources (48_fpu_arith R518). -/
def fpBinary (f : FpFmt) (g : Rounding → FpVal → FpVal → Exact) (ft fs fd : Reg) (s : State) : Out :=
  let r := binaryResult f s.fpMode (g s.rounding) (s.fpVal f fs) (s.fpVal f ft)
  fpRun (fpGate [fs, ft, fd] s) s r.1 (setFpr f fd r.2)

/-- Arith for one source (48_fpu_arith R518). -/
def fpUnary (f : FpFmt) (g : FpVal → Exact) (fs fd : Reg) (s : State) : Out :=
  let r := unaryResult f s.fpMode g (s.fpVal f fs)
  fpRun (fpGate [fs, fd] s) s r.1 (setFpr f fd r.2)

/-! ### The approximations (48_fpu_arith R527, R528; log 28) -/

/-- 1.0 as a value. -/
def fpOne : FpVal := .finite false false 1 0

/-- 1/a exactly; special operands as the fixed cases of 48_fpu_arith R527. -/
def exactRecip (a : FpVal) : Exact := exactDiv fpOne a

/-- 1/sqrt(a) exactly; special operands as the fixed cases of 48_fpu_arith R528. -/
def exactRsqrt : FpVal → Exact
  | .zero n => .divByZero n
  | .inf n => if n then .invalid else .zero false
  | .finite _ n m e =>
    if n then .invalid
    else
      let m' := if e % 2 = 1 then 2 * m else m
      let e' := if e % 2 = 1 then e - 1 else e
      let q := natSqrt (2 ^ 180 / m')
      .real false q (-90 - e' / 2) (decide (q * q * m' ≠ 2 ^ 180))
  | _ => .invalid

/-- Whether a value is a normalized number. -/
def isNormal : FpVal → Bool
  | .finite d _ _ _ => !d
  | _ => false

/-- A normalized number of a format out of free bits: any sign, exponent and fraction. -/
def normalFrom (f : FpFmt) (w : Word) : Word :=
  packBits f (w.getLsbD (fpSignBit f)) (w.toNat / 2 ^ (fpPrec f - 1) % (2 * fpEmax f) + 1) (w.toNat % 2 ^ (fpPrec f - 1))

/-- An approximation: for a normal operand whose exact result is neither tiny nor an overflow, some normalized number
and an inexact indication that the spec leaves open; otherwise the exact result delivered. -/
def approximate (f : FpFmt) (a : FpVal) (bits : Word) (inexact : Bool) (r : BitVec 6 × Word) : BitVec 6 × Word :=
  if isNormal a && (r.1 == 0#6 || r.1 == causeI) then (if inexact then causeI else 0#6, normalFrom f bits) else r

/-- Cause set and result of RECIP.fmt (48_fpu_arith R527). -/
def recipResult (f : FpFmt) (md : FpMode) (w : Word) : BitVec 6 × Word :=
  let a := unpack f w
  screened f md [a] (approximate f a (Config.recip f md.rounding w) (Config.recipInexact f md.rounding w)
    (deliver f md (exactRecip a)))

/-- Cause set and result of RSQRT.fmt (48_fpu_arith R528). -/
def rsqrtResult (f : FpFmt) (md : FpMode) (w : Word) : BitVec 6 × Word :=
  let a := unpack f w
  screened f md [a] (approximate f a (Config.rsqrt f md.rounding w) (Config.rsqrtInexact f md.rounding w)
    (deliver f md (exactRsqrt a)))

/-- Arith for RECIP.fmt and RSQRT.fmt, with the MIPS IV gate. -/
def fpApprox (f : FpFmt) (g : FpFmt → FpMode → Word → BitVec 6 × Word) (fs fd : Reg) (s : State) : Out :=
  let r := g f s.fpMode (s.fpr f fs)
  fpRun (fpGate4 [fs, fd] s) s r.1 (setFpr f fd r.2)

/-! ### Multiply-add (48_fpu_arith R529) -/

/-- The sign of a result inverted unless it is a NaN. -/
def negateResult (f : FpFmt) (w : Word) : Word :=
  if isNan (unpack f w) then w else w ^^^ (1#64 <<< fpSignBit f)

/-- Cause set and result of fs * ft + fr or fs * ft - fr, each step rounded. `enabled` are FCR31's Enables. -/
def mulAddResult (f : FpFmt) (md : FpMode) (enabled : BitVec 5) (sub neg : Bool) (r s t : FpVal) :
    BitVec 6 × Word :=
  let p := deliver f md (exactMul s t)
  let q := unpack f p.2
  let d := deliver f md (if sub then exactSub md.rounding q r else exactAdd md.rounding q r)
  screened f md [r, s, t] <|
    if p.1.getLsbD 5 || decide (p.1.extractLsb' 0 5 &&& enabled ≠ 0#5) then (p.1, 0#64)
    else if p.1.getLsbD 4 then (causeV, md.qnan f)
    else (p.1 ||| d.1, if neg then negateResult f d.2 else d.2)

/-- MulAdd (48_fpu_arith R529). -/
def fpMulAdd (f : FpFmt) (sub neg : Bool) (fr ft fs fd : Reg) (s : State) : Out :=
  let r := mulAddResult f s.fpMode s.fcrEnables sub neg (s.fpVal f fr) (s.fpVal f fs) (s.fpVal f ft)
  fpRun (fpGate4 [fr, fs, ft, fd] s) s r.1 (setFpr f fd r.2)

/-! ### Compare (48_fpu_arith R540, R541) -/

/-- The relation of two values: less, equal, unordered. -/
def fpRelation (a b : FpVal) : Bool × Bool × Bool :=
  if isNan a || isNan b then (false, false, true) else ((fpOrder a b).1, (fpOrder a b).2, false)

/-- Whether a condition holds of a relation. -/
def condHolds (cond : BitVec 4) (r : Bool × Bool × Bool) : Bool :=
  (cond.getLsbD 2 && r.1) || (cond.getLsbD 1 && r.2.1) || (cond.getLsbD 0 && r.2.2)

/-- The Cause set of a compare: Invalid for a signaling NaN, or for unordered operands under a signaling
condition. -/
def compareCause (cond : BitVec 4) (a b : FpVal) : BitVec 6 :=
  if isSnan a || isSnan b || (cond.getLsbD 3 && (isNan a || isNan b)) then causeV else 0#6

/-- C.cond.fmt (48_fpu_arith R540). -/
def fpCompare (f : FpFmt) (cond : BitVec 4) (ft fs : Reg) (cc : BitVec 3) (s : State) : Out :=
  let a := s.fpVal f fs
  let b := s.fpVal f ft
  fpRun (do requireUnit 1#2 s; requireCc cc s; requireFprs [fs, ft] s) s (compareCause cond a b)
    (setFcc cc (condHolds cond (fpRelation a b)))

/-! ### Conversions (49_fpu_convert R550 to R567) -/

/-- ToInt in a given rounding mode (49_fpu_convert R551). -/
def fpToInt (src : FpFmt) (dst : IntFmt) (mode : State → Rounding) (fs fd : Reg) (s : State) : Out :=
  let r := toInt dst (mode s) (s.fpVal src fs)
  fpRun (fpGate [fs, fd] s) s r.1 (setFprInt dst fd r.2)

/-- CVT.S.D and CVT.D.S (49_fpu_convert R562, R565). -/
def fpToFp (src dst : FpFmt) (fs fd : Reg) (s : State) : Out :=
  let r := unaryResult dst s.fpMode exactOf (s.fpVal src fs)
  fpRun (fpGate [fs, fd] s) s r.1 (setFpr dst fd r.2)

/-- CVT.S.W and CVT.D.W (49_fpu_convert R563, R566). -/
def fpFromW (dst : FpFmt) (fs fd : Reg) (s : State) : Out :=
  let r := deliver dst s.fpMode (exactFromInt (s.fpr32 fs).toInt)
  fpRun (fpGate [fs, fd] s) s r.1 (setFpr dst fd r.2)

/-- Cause set and result of a 64-bit integer, which the hardware takes up to 52 bits and a sign
(49_fpu_convert R564, R567). -/
def fromLResult (dst : FpFmt) (md : FpMode) (n : Int) : BitVec 6 × Word :=
  if -2 ^ 52 ≤ n ∧ n < 2 ^ 52 then deliver dst md (exactFromInt n) else (causeE, 0#64)

/-- CVT.S.L and CVT.D.L (49_fpu_convert R564, R567). -/
def fpFromL (dst : FpFmt) (fs fd : Reg) (s : State) : Out :=
  let r := fromLResult dst s.fpMode (s.fpr64 fs).toInt
  fpRun (fpGate [fs, fd] s) s r.1 (setFpr dst fd r.2)

end Sys2Proof.Machine
end

