-- ==== Sys2Proof/Machine/FpuArith.lean ====
section
/-! DEFINITION. FPU arithmetic and compares (spec 48_fpu_arith R518 to R541). -/

namespace Sys2Proof.Machine

/-- ADD.S (48_fpu_arith R520). -/
def execAddS (ft fs fd : Reg) (s : State) : Out := fpBinary .s exactAdd ft fs fd s

/-- SUB.S (48_fpu_arith R521). -/
def execSubS (ft fs fd : Reg) (s : State) : Out := fpBinary .s exactSub ft fs fd s

/-- MUL.S (48_fpu_arith R522). -/
def execMulS (ft fs fd : Reg) (s : State) : Out := fpBinary .s (fun _ => exactMul) ft fs fd s

/-- DIV.S (48_fpu_arith R523). -/
def execDivS (ft fs fd : Reg) (s : State) : Out := fpBinary .s (fun _ => exactDiv) ft fs fd s

/-- SQRT.S (48_fpu_arith R524). -/
def execSqrtS (fs fd : Reg) (s : State) : Out := fpUnary .s exactSqrt fs fd s

/-- ABS.S (48_fpu_arith R525). -/
def execAbsS (fs fd : Reg) (s : State) : Out := fpUnary .s exactAbs fs fd s

/-- NEG.S (48_fpu_arith R526). -/
def execNegS (fs fd : Reg) (s : State) : Out := fpUnary .s exactNeg fs fd s

/-- RECIP.S (48_fpu_arith R527). -/
def execRecipS (fs fd : Reg) (s : State) : Out := fpApprox .s recipResult fs fd s

/-- RSQRT.S (48_fpu_arith R528). -/
def execRsqrtS (fs fd : Reg) (s : State) : Out := fpApprox .s rsqrtResult fs fd s

/-- MADD.S (48_fpu_arith R530). -/
def execMaddS (fr ft fs fd : Reg) (s : State) : Out := fpMulAdd .s false false fr ft fs fd s

/-- MSUB.S (48_fpu_arith R531). -/
def execMsubS (fr ft fs fd : Reg) (s : State) : Out := fpMulAdd .s true false fr ft fs fd s

/-- NMADD.S (48_fpu_arith R532). -/
def execNmaddS (fr ft fs fd : Reg) (s : State) : Out := fpMulAdd .s false true fr ft fs fd s

/-- NMSUB.S (48_fpu_arith R533). -/
def execNmsubS (fr ft fs fd : Reg) (s : State) : Out := fpMulAdd .s true true fr ft fs fd s

/-- ADD.D (48_fpu_arith R520). -/
def execAddD (ft fs fd : Reg) (s : State) : Out := fpBinary .d exactAdd ft fs fd s

/-- SUB.D (48_fpu_arith R521). -/
def execSubD (ft fs fd : Reg) (s : State) : Out := fpBinary .d exactSub ft fs fd s

/-- MUL.D (48_fpu_arith R522). -/
def execMulD (ft fs fd : Reg) (s : State) : Out := fpBinary .d (fun _ => exactMul) ft fs fd s

/-- DIV.D (48_fpu_arith R523). -/
def execDivD (ft fs fd : Reg) (s : State) : Out := fpBinary .d (fun _ => exactDiv) ft fs fd s

/-- SQRT.D (48_fpu_arith R524). -/
def execSqrtD (fs fd : Reg) (s : State) : Out := fpUnary .d exactSqrt fs fd s

/-- ABS.D (48_fpu_arith R525). -/
def execAbsD (fs fd : Reg) (s : State) : Out := fpUnary .d exactAbs fs fd s

/-- NEG.D (48_fpu_arith R526). -/
def execNegD (fs fd : Reg) (s : State) : Out := fpUnary .d exactNeg fs fd s

/-- RECIP.D (48_fpu_arith R527). -/
def execRecipD (fs fd : Reg) (s : State) : Out := fpApprox .d recipResult fs fd s

/-- RSQRT.D (48_fpu_arith R528). -/
def execRsqrtD (fs fd : Reg) (s : State) : Out := fpApprox .d rsqrtResult fs fd s

/-- MADD.D (48_fpu_arith R530). -/
def execMaddD (fr ft fs fd : Reg) (s : State) : Out := fpMulAdd .d false false fr ft fs fd s

/-- MSUB.D (48_fpu_arith R531). -/
def execMsubD (fr ft fs fd : Reg) (s : State) : Out := fpMulAdd .d true false fr ft fs fd s

/-- NMADD.D (48_fpu_arith R532). -/
def execNmaddD (fr ft fs fd : Reg) (s : State) : Out := fpMulAdd .d false true fr ft fs fd s

/-- NMSUB.D (48_fpu_arith R533). -/
def execNmsubD (fr ft fs fd : Reg) (s : State) : Out := fpMulAdd .d true true fr ft fs fd s

/-- C.F.S (48_fpu_arith R540). -/
def execCFS (ft fs : Reg) (cc : BitVec 3) (s : State) : Out := fpCompare .s 0#4 ft fs cc s

/-- C.UN.S (48_fpu_arith R540). -/
def execCUnS (ft fs : Reg) (cc : BitVec 3) (s : State) : Out := fpCompare .s 1#4 ft fs cc s

/-- C.EQ.S (48_fpu_arith R540). -/
def execCEqS (ft fs : Reg) (cc : BitVec 3) (s : State) : Out := fpCompare .s 2#4 ft fs cc s

/-- C.UEQ.S (48_fpu_arith R540). -/
def execCUeqS (ft fs : Reg) (cc : BitVec 3) (s : State) : Out := fpCompare .s 3#4 ft fs cc s

/-- C.OLT.S (48_fpu_arith R540). -/
def execCOltS (ft fs : Reg) (cc : BitVec 3) (s : State) : Out := fpCompare .s 4#4 ft fs cc s

/-- C.ULT.S (48_fpu_arith R540). -/
def execCUltS (ft fs : Reg) (cc : BitVec 3) (s : State) : Out := fpCompare .s 5#4 ft fs cc s

/-- C.OLE.S (48_fpu_arith R540). -/
def execCOleS (ft fs : Reg) (cc : BitVec 3) (s : State) : Out := fpCompare .s 6#4 ft fs cc s

/-- C.ULE.S (48_fpu_arith R540). -/
def execCUleS (ft fs : Reg) (cc : BitVec 3) (s : State) : Out := fpCompare .s 7#4 ft fs cc s

/-- C.SF.S (48_fpu_arith R540). -/
def execCSfS (ft fs : Reg) (cc : BitVec 3) (s : State) : Out := fpCompare .s 8#4 ft fs cc s

/-- C.NGLE.S (48_fpu_arith R540). -/
def execCNgleS (ft fs : Reg) (cc : BitVec 3) (s : State) : Out := fpCompare .s 9#4 ft fs cc s

/-- C.SEQ.S (48_fpu_arith R540). -/
def execCSeqS (ft fs : Reg) (cc : BitVec 3) (s : State) : Out := fpCompare .s 10#4 ft fs cc s

/-- C.NGL.S (48_fpu_arith R540). -/
def execCNglS (ft fs : Reg) (cc : BitVec 3) (s : State) : Out := fpCompare .s 11#4 ft fs cc s

/-- C.LT.S (48_fpu_arith R540). -/
def execCLtS (ft fs : Reg) (cc : BitVec 3) (s : State) : Out := fpCompare .s 12#4 ft fs cc s

/-- C.NGE.S (48_fpu_arith R540). -/
def execCNgeS (ft fs : Reg) (cc : BitVec 3) (s : State) : Out := fpCompare .s 13#4 ft fs cc s

/-- C.LE.S (48_fpu_arith R540). -/
def execCLeS (ft fs : Reg) (cc : BitVec 3) (s : State) : Out := fpCompare .s 14#4 ft fs cc s

/-- C.NGT.S (48_fpu_arith R540). -/
def execCNgtS (ft fs : Reg) (cc : BitVec 3) (s : State) : Out := fpCompare .s 15#4 ft fs cc s

/-- C.F.D (48_fpu_arith R540). -/
def execCFD (ft fs : Reg) (cc : BitVec 3) (s : State) : Out := fpCompare .d 0#4 ft fs cc s

/-- C.UN.D (48_fpu_arith R540). -/
def execCUnD (ft fs : Reg) (cc : BitVec 3) (s : State) : Out := fpCompare .d 1#4 ft fs cc s

/-- C.EQ.D (48_fpu_arith R540). -/
def execCEqD (ft fs : Reg) (cc : BitVec 3) (s : State) : Out := fpCompare .d 2#4 ft fs cc s

/-- C.UEQ.D (48_fpu_arith R540). -/
def execCUeqD (ft fs : Reg) (cc : BitVec 3) (s : State) : Out := fpCompare .d 3#4 ft fs cc s

/-- C.OLT.D (48_fpu_arith R540). -/
def execCOltD (ft fs : Reg) (cc : BitVec 3) (s : State) : Out := fpCompare .d 4#4 ft fs cc s

/-- C.ULT.D (48_fpu_arith R540). -/
def execCUltD (ft fs : Reg) (cc : BitVec 3) (s : State) : Out := fpCompare .d 5#4 ft fs cc s

/-- C.OLE.D (48_fpu_arith R540). -/
def execCOleD (ft fs : Reg) (cc : BitVec 3) (s : State) : Out := fpCompare .d 6#4 ft fs cc s

/-- C.ULE.D (48_fpu_arith R540). -/
def execCUleD (ft fs : Reg) (cc : BitVec 3) (s : State) : Out := fpCompare .d 7#4 ft fs cc s

/-- C.SF.D (48_fpu_arith R540). -/
def execCSfD (ft fs : Reg) (cc : BitVec 3) (s : State) : Out := fpCompare .d 8#4 ft fs cc s

/-- C.NGLE.D (48_fpu_arith R540). -/
def execCNgleD (ft fs : Reg) (cc : BitVec 3) (s : State) : Out := fpCompare .d 9#4 ft fs cc s

/-- C.SEQ.D (48_fpu_arith R540). -/
def execCSeqD (ft fs : Reg) (cc : BitVec 3) (s : State) : Out := fpCompare .d 10#4 ft fs cc s

/-- C.NGL.D (48_fpu_arith R540). -/
def execCNglD (ft fs : Reg) (cc : BitVec 3) (s : State) : Out := fpCompare .d 11#4 ft fs cc s

/-- C.LT.D (48_fpu_arith R540). -/
def execCLtD (ft fs : Reg) (cc : BitVec 3) (s : State) : Out := fpCompare .d 12#4 ft fs cc s

/-- C.NGE.D (48_fpu_arith R540). -/
def execCNgeD (ft fs : Reg) (cc : BitVec 3) (s : State) : Out := fpCompare .d 13#4 ft fs cc s

/-- C.LE.D (48_fpu_arith R540). -/
def execCLeD (ft fs : Reg) (cc : BitVec 3) (s : State) : Out := fpCompare .d 14#4 ft fs cc s

/-- C.NGT.D (48_fpu_arith R540). -/
def execCNgtD (ft fs : Reg) (cc : BitVec 3) (s : State) : Out := fpCompare .d 15#4 ft fs cc s

end Sys2Proof.Machine
end

