-- ==== Sys2Proof/Machine/FpuConvert.lean ====
section
/-! DEFINITION. FPU conversions (spec 49_fpu_convert R550 to R567). -/

namespace Sys2Proof.Machine

/-- CVT.W.S (49_fpu_convert R552). -/
def execCvtWS (fs fd : Reg) (s : State) : Out := fpToInt .s .w State.rounding fs fd s

/-- ROUND.W.S (49_fpu_convert R554). -/
def execRoundWS (fs fd : Reg) (s : State) : Out := fpToInt .s .w (fun _ => .rn) fs fd s

/-- TRUNC.W.S (49_fpu_convert R555). -/
def execTruncWS (fs fd : Reg) (s : State) : Out := fpToInt .s .w (fun _ => .rz) fs fd s

/-- CEIL.W.S (49_fpu_convert R556). -/
def execCeilWS (fs fd : Reg) (s : State) : Out := fpToInt .s .w (fun _ => .rp) fs fd s

/-- FLOOR.W.S (49_fpu_convert R557). -/
def execFloorWS (fs fd : Reg) (s : State) : Out := fpToInt .s .w (fun _ => .rm) fs fd s

/-- CVT.L.S (49_fpu_convert R553). -/
def execCvtLS (fs fd : Reg) (s : State) : Out := fpToInt .s .l State.rounding fs fd s

/-- ROUND.L.S (49_fpu_convert R558). -/
def execRoundLS (fs fd : Reg) (s : State) : Out := fpToInt .s .l (fun _ => .rn) fs fd s

/-- TRUNC.L.S (49_fpu_convert R559). -/
def execTruncLS (fs fd : Reg) (s : State) : Out := fpToInt .s .l (fun _ => .rz) fs fd s

/-- CEIL.L.S (49_fpu_convert R560). -/
def execCeilLS (fs fd : Reg) (s : State) : Out := fpToInt .s .l (fun _ => .rp) fs fd s

/-- FLOOR.L.S (49_fpu_convert R561). -/
def execFloorLS (fs fd : Reg) (s : State) : Out := fpToInt .s .l (fun _ => .rm) fs fd s

/-- CVT.W.D (49_fpu_convert R552). -/
def execCvtWD (fs fd : Reg) (s : State) : Out := fpToInt .d .w State.rounding fs fd s

/-- ROUND.W.D (49_fpu_convert R554). -/
def execRoundWD (fs fd : Reg) (s : State) : Out := fpToInt .d .w (fun _ => .rn) fs fd s

/-- TRUNC.W.D (49_fpu_convert R555). -/
def execTruncWD (fs fd : Reg) (s : State) : Out := fpToInt .d .w (fun _ => .rz) fs fd s

/-- CEIL.W.D (49_fpu_convert R556). -/
def execCeilWD (fs fd : Reg) (s : State) : Out := fpToInt .d .w (fun _ => .rp) fs fd s

/-- FLOOR.W.D (49_fpu_convert R557). -/
def execFloorWD (fs fd : Reg) (s : State) : Out := fpToInt .d .w (fun _ => .rm) fs fd s

/-- CVT.L.D (49_fpu_convert R553). -/
def execCvtLD (fs fd : Reg) (s : State) : Out := fpToInt .d .l State.rounding fs fd s

/-- ROUND.L.D (49_fpu_convert R558). -/
def execRoundLD (fs fd : Reg) (s : State) : Out := fpToInt .d .l (fun _ => .rn) fs fd s

/-- TRUNC.L.D (49_fpu_convert R559). -/
def execTruncLD (fs fd : Reg) (s : State) : Out := fpToInt .d .l (fun _ => .rz) fs fd s

/-- CEIL.L.D (49_fpu_convert R560). -/
def execCeilLD (fs fd : Reg) (s : State) : Out := fpToInt .d .l (fun _ => .rp) fs fd s

/-- FLOOR.L.D (49_fpu_convert R561). -/
def execFloorLD (fs fd : Reg) (s : State) : Out := fpToInt .d .l (fun _ => .rm) fs fd s

/-- CVT.S.D (49_fpu_convert R562). -/
def execCvtSD (fs fd : Reg) (s : State) : Out := fpToFp .d .s fs fd s

/-- CVT.D.S (49_fpu_convert R565). -/
def execCvtDS (fs fd : Reg) (s : State) : Out := fpToFp .s .d fs fd s

/-- CVT.S.W (49_fpu_convert R563). -/
def execCvtSW (fs fd : Reg) (s : State) : Out := fpFromW .s fs fd s

/-- CVT.D.W (49_fpu_convert R566). -/
def execCvtDW (fs fd : Reg) (s : State) : Out := fpFromW .d fs fd s

/-- CVT.S.L (49_fpu_convert R564). -/
def execCvtSL (fs fd : Reg) (s : State) : Out := fpFromL .s fs fd s

/-- CVT.D.L (49_fpu_convert R567). -/
def execCvtDL (fs fd : Reg) (s : State) : Out := fpFromL .d fs fd s

end Sys2Proof.Machine
end

