-- ==== Sys2Proof/Machine/FpuMove.lean ====
section
/-! DEFINITION. FPU moves (spec 47_fpu_move R470 to R484). -/

namespace Sys2Proof.Machine

/-- An FPR copied, bits unchanged (47_fpu_move R484). -/
def copyFpr (f : FpFmt) (fs fd : Reg) (s : State) : State := setFpr f fd (s.fpr f fs) s

/-- MOVF.fmt, MOVT.fmt, MOVN.fmt, MOVZ.fmt: the FPRs copied when a condition holds; otherwise none is accessed
(47_fpu_move R477 to R480). -/
def moveFprIf (f : FpFmt) (c : Bool) (fs fd : Reg) (s : State) : Out :=
  finish s do
    fpGate4 (if c then [fs, fd] else []) s
    .ok (advance (if c then copyFpr f fs fd s else s))

/-- MOV.fmt (47_fpu_move R476). -/
def moveFpr (f : FpFmt) (fs fd : Reg) (s : State) : Out :=
  finish s do
    fpGate [fs, fd] s
    .ok (advance (copyFpr f fs fd s))

/-- What CFC1 delivers: FCR0 or FCR31 sign-extended, for any other number a free value of 64 bits
(47_fpu_move R475; log 40). -/
def State.fcrRead (s : State) (n : Reg) : Word :=
  if n = 0#5 then sext (s.fcr0 &&& 0xFFFF#32)
  else if n = 31#5 then sext (s.fcr31 &&& 0xFF83FFFF#32)
  else s.free .fcrValue

/-- FCR31 written by CTC1: bits 22:18 are 0 (47_fpu_move R483). -/
def writeFcr31 (v : BitVec 32) (s : State) : State := { s with fcr31 := v &&& 0xFF83FFFF#32 }

/-- CTC1 to FCR31: a Floating-Point exception when a Cause bit and its enable are both set (47_fpu_move R483). -/
def ctc1Finish (t : State) : Out :=
  if fcrTraps t.fcrCause t then .next (takeException .floatingPoint t) else .next (advance t)

/-- MFC1 (47_fpu_move R471). -/
def execMfc1 (rt fs : Reg) (s : State) : Out := finish s do
  requireUnit 1#2 s
  .ok (advance (setGpr rt (sext (low (s.fgrRead fs))) s))

/-- DMFC1 (47_fpu_move R472). -/
def execDmfc1 (rt fs : Reg) (s : State) : Out := finish s do
  requireUnit 1#2 s
  require64 s
  requireFpr fs s
  .ok (advance (setGpr rt (s.fpr64 fs) s))

/-- CFC1 (47_fpu_move R475). -/
def execCfc1 (rt fs : Reg) (s : State) : Out := finish s do
  requireUnit 1#2 s
  .ok (advance (setGpr rt (s.fcrRead fs) s))

/-- MTC1 (47_fpu_move R473). -/
def execMtc1 (rt fs : Reg) (s : State) : Out := finish s do
  requireUnit 1#2 s
  .ok (advance (setFgrLow fs (low (s.gpr rt)) s))

/-- DMTC1 (47_fpu_move R474). -/
def execDmtc1 (rt fs : Reg) (s : State) : Out := finish s do
  requireUnit 1#2 s
  require64 s
  requireFpr fs s
  .ok (advance (setFpr64 fs (s.gpr rt) s))

/-- CTC1 (47_fpu_move R483). -/
def execCtc1 (rt fs : Reg) (s : State) : Out := match requireUnit 1#2 s with
  | .error st => stopOut st s
  | .ok _ =>
    if fs = 31#5 then ctc1Finish (writeFcr31 (low (s.gpr rt)) s) else .refused .reservedFcrWrite

/-- MOV.S (47_fpu_move R476). -/
def execMovS (fs fd : Reg) (s : State) : Out := moveFpr .s fs fd s

/-- MOVF.S (47_fpu_move R477). -/
def execMovfS (cc : BitVec 3) (fs fd : Reg) (s : State) : Out := moveFprIf .s (!s.fcc cc) fs fd s

/-- MOVT.S (47_fpu_move R478). -/
def execMovtS (cc : BitVec 3) (fs fd : Reg) (s : State) : Out := moveFprIf .s (s.fcc cc) fs fd s

/-- MOVN.S (47_fpu_move R479). -/
def execMovnS (rt fs fd : Reg) (s : State) : Out := moveFprIf .s (s.gpr rt != 0#64) fs fd s

/-- MOVZ.S (47_fpu_move R480). -/
def execMovzS (rt fs fd : Reg) (s : State) : Out := moveFprIf .s (s.gpr rt == 0#64) fs fd s

/-- MOV.D (47_fpu_move R476). -/
def execMovD (fs fd : Reg) (s : State) : Out := moveFpr .d fs fd s

/-- MOVF.D (47_fpu_move R477). -/
def execMovfD (cc : BitVec 3) (fs fd : Reg) (s : State) : Out := moveFprIf .d (!s.fcc cc) fs fd s

/-- MOVT.D (47_fpu_move R478). -/
def execMovtD (cc : BitVec 3) (fs fd : Reg) (s : State) : Out := moveFprIf .d (s.fcc cc) fs fd s

/-- MOVN.D (47_fpu_move R479). -/
def execMovnD (rt fs fd : Reg) (s : State) : Out := moveFprIf .d (s.gpr rt != 0#64) fs fd s

/-- MOVZ.D (47_fpu_move R480). -/
def execMovzD (rt fs fd : Reg) (s : State) : Out := moveFprIf .d (s.gpr rt == 0#64) fs fd s

end Sys2Proof.Machine
end

