-- ==== Sys2Proof/Machine/LoadStore.lean ====
section
/-! DEFINITION. Loads and stores (spec 40_load_store R260 to R296). -/

namespace Sys2Proof.Machine

/-- The low n bits of a value sign-extended to a register. -/
def sextOf (n : Nat) (v : Word) : Word := (v.setWidth n).signExtend 64

/-- The low n bits set. -/
def lowMask (n : Nat) : Word := BitVec.ofNat 64 (2 ^ n - 1)

/-- A load or store that is no LL or SC completes (40_load_store R285). -/
def accessed (s : State) : State := advance (breakLink s)

/-- A load of n bytes into GPR[rt] (40_load_store R260). -/
def loadGpr (n : Nat) (ext : Word → Word) (rt : Reg) (va : Word) (s : State) : Except Stop State := do
  let r ← memLoad s va n
  .ok (accessed (setGpr rt (ext r.value) (loaded r.pa s)))

/-- A store of n bytes (40_load_store R260). -/
def storeBytes (n : Nat) (v : Word) (va : Word) (s : State) : Except Stop State := do
  let t ← memStore s va n v
  .ok (accessed t)

/-- m, of c bytes, over the top c of the w bytes of a value (40_load_store R275, R279). -/
def mergeLeft (w c : Nat) (m old : Word) : Word :=
  (m <<< (8 * (w - c))) ||| (old &&& lowMask (8 * (w - c)))

/-- m, of c bytes, over the low c bytes of a value (40_load_store R276, R280). -/
def mergeRight (c : Nat) (m old : Word) : Word := (old &&& ~~~lowMask (8 * c)) ||| m

/-- The register after LWR: with fewer than four bytes loaded and an old value that is no sign-extended word, bits
63:32 are free (40_load_store R276). -/
def lwrResult (c : Nat) (m old : Word) (s : State) : Word :=
  let word := low (mergeRight c m old)
  if c = 4 || isWord old then sext word else (s.free .upper).setWidth 32 ++ word

/-- LLbit and LLAddr after a load linked through an attribute, which also begins or goes on with a loop of LL and SC
when it is a cached one (40_load_store R283, R285; log 21). -/
def setLink (pa : PAddr) (attr : BitVec 3) (s : State) : State :=
  { onCp0 (fun c => { c with llAddr := pa.extractLsb' 4 32 }) s with
    llbit := true
    link := if attr = 2#3 then { addr := none, armed := false, start := s.draws, fails := 0 }
      else if s.link.addr = some pa then { s.link with armed := true }
      else { addr := some pa, armed := true, start := s.draws, fails := 0 } }

/-- A load linked of n bytes (40_load_store R283, R284). -/
def loadLinked (n : Nat) (ext : Word → Word) (rt : Reg) (va : Word) (s : State) : Except Stop State := do
  let r ← memLoad s va n
  .ok (advance (setLink r.pa r.attr (setGpr rt (ext r.value) (loaded r.pa s))))

/-- Whether the fairness of SC covers a store conditional at a physical address: LLbit is set, the LL before it was
of that address and cached with nothing between, and it is cached itself (40_load_store R283, R285, 20_memory R193;
log 21). DESIGN CHOICE: the width is not compared, so a loop of LL with SCD or of LLD with SC is covered too; R285
speaks of LL and SC only. -/
def State.fairFor (s : State) (attr : BitVec 3) (pa : PAddr) : Bool :=
  s.llbit && s.link.armed && s.link.addr == some pa && attr != 2#3

/-- SCSucceeds(): a free bit, but success once a covered loop has failed as often as it may (40_load_store R285). -/
def State.scSucceeds (s : State) (attr : BitVec 3) (pa : PAddr) : Bool :=
  s.freeBit .storeConditional || (s.fairFor attr pa && decide (Config.scRetries s.link.start ≤ s.link.fails))

/-- The loop after a store conditional that fails. -/
def failLink (fair : Bool) (s : State) : State :=
  if fair then { s with link := { s.link with armed := false, fails := s.link.fails + 1 } } else breakLink s

/-- A store conditional of n bytes: the address is checked in any case; with LLbit set it may succeed or fail
(40_load_store R285, R286; log 21). -/
def storeConditional (n : Nat) (rt : Reg) (va : Word) (s : State) : Except Stop State := do
  requireAligned true va n
  let p ← translate s.seen .store va
  if s.llbit && s.scSucceeds p.2 p.1 then do
    let t ← physWrite s p.2 p.1 n (s.gpr rt)
    .ok (advance (setGpr rt 1#64 (endLink t)))
  else .ok (advance (setGpr rt 0#64 (failLink (s.fairFor p.2 p.1) s)))

/-- LB (40_load_store R261). -/
def execLb (base rt : Reg) (offset : BitVec 16) (s : State) : Out :=
  finish s (loadGpr 1 (sextOf 8) rt (s.ea base offset) s)

/-- LBU (40_load_store R262). -/
def execLbu (base rt : Reg) (offset : BitVec 16) (s : State) : Out := finish s (loadGpr 1 id rt (s.ea base offset) s)

/-- LH (40_load_store R263). -/
def execLh (base rt : Reg) (offset : BitVec 16) (s : State) : Out :=
  finish s (loadGpr 2 (sextOf 16) rt (s.ea base offset) s)

/-- LHU (40_load_store R264). -/
def execLhu (base rt : Reg) (offset : BitVec 16) (s : State) : Out := finish s (loadGpr 2 id rt (s.ea base offset) s)

/-- LW (40_load_store R265). -/
def execLw (base rt : Reg) (offset : BitVec 16) (s : State) : Out :=
  finish s (loadGpr 4 (sextOf 32) rt (s.ea base offset) s)

/-- LWU (40_load_store R266). -/
def execLwu (base rt : Reg) (offset : BitVec 16) (s : State) : Out := finish s do
  require64 s
  loadGpr 4 id rt (s.ea base offset) s

/-- LD (40_load_store R267). -/
def execLd (base rt : Reg) (offset : BitVec 16) (s : State) : Out := finish s do
  require64 s
  loadGpr 8 id rt (s.ea base offset) s

/-- SB (40_load_store R268). -/
def execSb (base rt : Reg) (offset : BitVec 16) (s : State) : Out :=
  finish s (storeBytes 1 (s.gpr rt) (s.ea base offset) s)

/-- SH (40_load_store R269). -/
def execSh (base rt : Reg) (offset : BitVec 16) (s : State) : Out :=
  finish s (storeBytes 2 (s.gpr rt) (s.ea base offset) s)

/-- SW (40_load_store R270). -/
def execSw (base rt : Reg) (offset : BitVec 16) (s : State) : Out :=
  finish s (storeBytes 4 (s.gpr rt) (s.ea base offset) s)

/-- SD (40_load_store R271). -/
def execSd (base rt : Reg) (offset : BitVec 16) (s : State) : Out := finish s do
  require64 s
  storeBytes 8 (s.gpr rt) (s.ea base offset) s

/-- LWL (40_load_store R275). -/
def execLwl (base rt : Reg) (offset : BitVec 16) (s : State) : Out := finish s do
  let r ← partLoad s true (s.ea base offset) 4
  .ok (accessed (setGpr rt (sext (low (mergeLeft 4 r.count r.value (s.gpr rt)))) (loaded r.pa s)))

/-- LWR (40_load_store R276). -/
def execLwr (base rt : Reg) (offset : BitVec 16) (s : State) : Out := finish s do
  let r ← partLoad s false (s.ea base offset) 4
  .ok (accessed (setGpr rt (lwrResult r.count r.value (s.gpr rt) s) (loaded r.pa s)))

/-- SWL (40_load_store R277). -/
def execSwl (base rt : Reg) (offset : BitVec 16) (s : State) : Out := finish s do
  let t ← partStore s true (s.ea base offset) 4 fun c => (s.gpr rt &&& 0xFFFFFFFF#64) >>> (8 * (4 - c))
  .ok (accessed t)

/-- SWR (40_load_store R278). -/
def execSwr (base rt : Reg) (offset : BitVec 16) (s : State) : Out := finish s do
  let t ← partStore s false (s.ea base offset) 4 fun _ => s.gpr rt
  .ok (accessed t)

/-- LDL (40_load_store R279). -/
def execLdl (base rt : Reg) (offset : BitVec 16) (s : State) : Out := finish s do
  require64 s
  let r ← partLoad s true (s.ea base offset) 8
  .ok (accessed (setGpr rt (mergeLeft 8 r.count r.value (s.gpr rt)) (loaded r.pa s)))

/-- LDR (40_load_store R280). -/
def execLdr (base rt : Reg) (offset : BitVec 16) (s : State) : Out := finish s do
  require64 s
  let r ← partLoad s false (s.ea base offset) 8
  .ok (accessed (setGpr rt (mergeRight r.count r.value (s.gpr rt)) (loaded r.pa s)))

/-- SDL (40_load_store R281). -/
def execSdl (base rt : Reg) (offset : BitVec 16) (s : State) : Out := finish s do
  require64 s
  let t ← partStore s true (s.ea base offset) 8 fun c => s.gpr rt >>> (8 * (8 - c))
  .ok (accessed t)

/-- SDR (40_load_store R282). -/
def execSdr (base rt : Reg) (offset : BitVec 16) (s : State) : Out := finish s do
  require64 s
  let t ← partStore s false (s.ea base offset) 8 fun _ => s.gpr rt
  .ok (accessed t)

/-- LL (40_load_store R283). -/
def execLl (base rt : Reg) (offset : BitVec 16) (s : State) : Out :=
  finish s (loadLinked 4 (sextOf 32) rt (s.ea base offset) s)

/-- LLD (40_load_store R284). -/
def execLld (base rt : Reg) (offset : BitVec 16) (s : State) : Out := finish s do
  require64 s
  loadLinked 8 id rt (s.ea base offset) s

/-- SC (40_load_store R285). -/
def execSc (base rt : Reg) (offset : BitVec 16) (s : State) : Out :=
  finish s (storeConditional 4 rt (s.ea base offset) s)

/-- SCD (40_load_store R286). -/
def execScd (base rt : Reg) (offset : BitVec 16) (s : State) : Out := finish s do
  require64 s
  storeConditional 8 rt (s.ea base offset) s

/-- LWC1 (40_load_store R287). -/
def execLwc1 (base ft : Reg) (offset : BitVec 16) (s : State) : Out := finish s do
  requireUnit 1#2 s
  let r ← memLoad s (s.ea base offset) 4
  .ok (accessed (setFgrLow ft (low r.value) (loaded r.pa s)))

/-- LDC1 (40_load_store R288). -/
def execLdc1 (base ft : Reg) (offset : BitVec 16) (s : State) : Out := finish s do
  requireUnit 1#2 s
  let r ← memLoad s (s.ea base offset) 8
  requireFpr ft s
  .ok (accessed (setFpr64 ft r.value (loaded r.pa s)))

/-- SWC1 (40_load_store R289). -/
def execSwc1 (base ft : Reg) (offset : BitVec 16) (s : State) : Out := finish s do
  requireUnit 1#2 s
  storeBytes 4 ((s.fpr32 ft).setWidth 64) (s.ea base offset) s

/-- SDC1 (40_load_store R290). -/
def execSdc1 (base ft : Reg) (offset : BitVec 16) (s : State) : Out := finish s do
  requireUnit 1#2 s
  requireFpr ft s
  storeBytes 8 (s.fpr64 ft) (s.ea base offset) s

/-- LWXC1 (40_load_store R291). -/
def execLwxc1 (base index fd : Reg) (s : State) : Out := finish s do
  requireUnit 1#2 s
  requireMips4 s
  requireRegion false (s.gpr base) (s.eaIndexed base index)
  let r ← memLoad s (s.eaIndexed base index) 4
  .ok (accessed (setFgrLow fd (low r.value) (loaded r.pa s)))

/-- LDXC1 (40_load_store R292). -/
def execLdxc1 (base index fd : Reg) (s : State) : Out := finish s do
  requireUnit 1#2 s
  requireMips4 s
  requireRegion false (s.gpr base) (s.eaIndexed base index)
  let r ← memLoad s (s.eaIndexed base index) 8
  requireFpr fd s
  .ok (accessed (setFpr64 fd r.value (loaded r.pa s)))

/-- SWXC1 (40_load_store R293). -/
def execSwxc1 (base index fs : Reg) (s : State) : Out := finish s do
  requireUnit 1#2 s
  requireMips4 s
  requireRegion true (s.gpr base) (s.eaIndexed base index)
  storeBytes 4 ((s.fpr32 fs).setWidth 64) (s.eaIndexed base index) s

/-- SDXC1 (40_load_store R294). -/
def execSdxc1 (base index fs : Reg) (s : State) : Out := finish s do
  requireUnit 1#2 s
  requireMips4 s
  requireRegion true (s.gpr base) (s.eaIndexed base index)
  requireFpr fs s
  storeBytes 8 (s.fpr64 fs) (s.eaIndexed base index) s

/-- PREF, a no-op (40_load_store R295). -/
def execPref (_base : Reg) (_hint : BitVec 5) (_offset : BitVec 16) (s : State) : Out := finish s do
  requireMips4 s
  .ok (advance s)

/-- PREFX, a no-op (40_load_store R296). -/
def execPrefx (_base _index : Reg) (_hint : BitVec 5) (s : State) : Out := finish s do
  requireUnit 1#2 s
  requireMips4 s
  .ok (advance s)

end Sys2Proof.Machine
end

