-- ==== Sys2Proof/Machine/MulDiv.lean ====
section
/-! DEFINITION. Multiply, divide and the moves of HI and LO (spec 43_muldiv R360 to R374). -/

namespace Sys2Proof.Machine

/-- Whether both operands are sign-extended words (43_muldiv R360). -/
def bothWords (rs rt : Reg) (s : State) : Bool := isWord (s.gpr rs) && isWord (s.gpr rt)

/-- A 64-bit product's halves in HI and LO, each sign-extended; without operands that are words, free values
(43_muldiv R363, R364). -/
def mulWord (ok : Bool) (p : BitVec 64) (s : State) : State :=
  advance (if ok then setHiLo (sext (p.extractLsb' 32 32)) (sext (p.extractLsb' 0 32)) s else freeHiLo s)

/-- A 128-bit product in HI and LO (43_muldiv R367, R368). -/
def mulDouble (p : BitVec 128) (s : State) : State :=
  advance (setHiLo (p.extractLsb' 64 64) (p.extractLsb' 0 64) s)

/-- Quotient and remainder of words in LO and HI; without a value they are free (43_muldiv R365, R366; log 11). -/
def divWord (ok : Bool) (q r : Int) (s : State) : State :=
  advance (if ok then setHiLo (sext (BitVec.ofInt 32 r)) (sext (BitVec.ofInt 32 q)) s else freeHiLo s)

/-- Quotient and remainder of doublewords (43_muldiv R369, R370; log 11). -/
def divDouble (ok : Bool) (q r : Int) (s : State) : State :=
  advance (if ok then setHiLo (BitVec.ofInt 64 r) (BitVec.ofInt 64 q) s else freeHiLo s)

/-- MULT's effect. -/
def multOn (rs rt : Reg) (s : State) : State :=
  mulWord (bothWords rs rt s) ((low (s.gpr rs)).signExtend 64 * (low (s.gpr rt)).signExtend 64) s

/-- MULTU's effect. -/
def multuOn (rs rt : Reg) (s : State) : State :=
  mulWord (bothWords rs rt s) ((low (s.gpr rs)).setWidth 64 * (low (s.gpr rt)).setWidth 64) s

/-- DIV's effect: no value for a zero divisor and for -2^31 / -1. -/
def divOn (rs rt : Reg) (s : State) : State :=
  let n := (low (s.gpr rs)).toInt
  let d := (low (s.gpr rt)).toInt
  divWord (bothWords rs rt s && !(decide (d = 0) || (decide (n = -2 ^ 31) && decide (d = -1)))) (n.tdiv d) (n.tmod d) s

/-- DIVU's effect. -/
def divuOn (rs rt : Reg) (s : State) : State :=
  let n := (low (s.gpr rs)).toNat
  let d := (low (s.gpr rt)).toNat
  divWord (bothWords rs rt s && decide (d ≠ 0)) (n / d : Nat) (n % d : Nat) s

/-- DMULT's effect. -/
def dmultOn (rs rt : Reg) (s : State) : State :=
  mulDouble ((s.gpr rs).signExtend 128 * (s.gpr rt).signExtend 128) s

/-- DMULTU's effect. -/
def dmultuOn (rs rt : Reg) (s : State) : State :=
  mulDouble ((s.gpr rs).setWidth 128 * (s.gpr rt).setWidth 128) s

/-- DDIV's effect: no value for a zero divisor and for -2^63 / -1. -/
def ddivOn (rs rt : Reg) (s : State) : State :=
  let n := (s.gpr rs).toInt
  let d := (s.gpr rt).toInt
  divDouble (!(decide (d = 0) || (decide (n = -2 ^ 63) && decide (d = -1)))) (n.tdiv d) (n.tmod d) s

/-- DDIVU's effect. -/
def ddivuOn (rs rt : Reg) (s : State) : State :=
  let n := (s.gpr rs).toNat
  let d := (s.gpr rt).toNat
  divDouble (decide (d ≠ 0)) (n / d : Nat) (n % d : Nat) s

/-- MTHI's effect: an arithmetic result left in LO has no value any more (43_muldiv R373). -/
def mthiOn (rs : Reg) (s : State) : State :=
  advance { s with hi := s.gpr rs, hiTag := .moved, lo := if s.loTag = .arith then s.free .lo else s.lo }

/-- MTLO's effect (43_muldiv R374). -/
def mtloOn (rs : Reg) (s : State) : State :=
  advance { s with lo := s.gpr rs, loTag := .moved, hi := if s.hiTag = .arith then s.free .hi else s.hi }

/-- MULT (43_muldiv R363). -/
def execMult (rs rt : Reg) (s : State) : Out := finish s do
  requireHiLo s
  .ok (multOn rs rt s)

/-- MULTU (43_muldiv R364). -/
def execMultu (rs rt : Reg) (s : State) : Out := finish s do
  requireHiLo s
  .ok (multuOn rs rt s)

/-- DIV (43_muldiv R365). -/
def execDiv (rs rt : Reg) (s : State) : Out := finish s do
  requireHiLo s
  .ok (divOn rs rt s)

/-- DIVU (43_muldiv R366). -/
def execDivu (rs rt : Reg) (s : State) : Out := finish s do
  requireHiLo s
  .ok (divuOn rs rt s)

/-- DMULT (43_muldiv R367). -/
def execDmult (rs rt : Reg) (s : State) : Out := finish s do
  require64 s
  requireHiLo s
  .ok (dmultOn rs rt s)

/-- DMULTU (43_muldiv R368). -/
def execDmultu (rs rt : Reg) (s : State) : Out := finish s do
  require64 s
  requireHiLo s
  .ok (dmultuOn rs rt s)

/-- DDIV (43_muldiv R369). -/
def execDdiv (rs rt : Reg) (s : State) : Out := finish s do
  require64 s
  requireHiLo s
  .ok (ddivOn rs rt s)

/-- DDIVU (43_muldiv R370). -/
def execDdivu (rs rt : Reg) (s : State) : Out := finish s do
  require64 s
  requireHiLo s
  .ok (ddivuOn rs rt s)

/-- MFHI (43_muldiv R371). -/
def execMfhi (rd : Reg) (s : State) : Out := .next { writeGpr rd s.hi s with hiGuard := 2 }

/-- MFLO (43_muldiv R372). -/
def execMflo (rd : Reg) (s : State) : Out := .next { writeGpr rd s.lo s with loGuard := 2 }

/-- MTHI (43_muldiv R373). -/
def execMthi (rs : Reg) (s : State) : Out := finish s do
  requireHi s
  .ok (mthiOn rs s)

/-- MTLO (43_muldiv R374). -/
def execMtlo (rs : Reg) (s : State) : Out := finish s do
  requireLo s
  .ok (mtloOn rs s)

end Sys2Proof.Machine
end

