-- ==== Sys2Proof/Machine/Shift.lean ====
section
/-! DEFINITION. Shifts (spec 42_shift R340 to R355). -/

namespace Sys2Proof.Machine

/-- A 32-bit right shift of GPR[rt]; on a source that is no sign-extended word the result is free (42_shift R340). -/
def shiftRight32 (f : BitVec 32 → BitVec 32) (rt rd : Reg) (s : State) : Out :=
  .next (writeGpr rd (s.result32 (isWord (s.gpr rt)) (f (low (s.gpr rt)))) s)

/-- A 64-bit shift of GPR[rt] (42_shift R340). -/
def shift64 (f : Word → Word) (rt rd : Reg) (s : State) : Out :=
  finish s do
    require64 s
    .ok (writeGpr rd (f (s.gpr rt)) s)

/-- The amount of a 32-bit and of a 64-bit variable shift (42_shift R340). -/
def amount5 (rs : Reg) (s : State) : Nat := ((s.gpr rs).extractLsb' 0 5).toNat
/-- The amount of a 64-bit variable shift. -/
def amount6 (rs : Reg) (s : State) : Nat := ((s.gpr rs).extractLsb' 0 6).toNat

/-- SLL (42_shift R341). -/
def execSll (rt rd : Reg) (sa : BitVec 5) (s : State) : Out :=
  .next (writeGpr rd (sext (low (s.gpr rt) <<< sa.toNat)) s)

/-- SRL (42_shift R342). -/
def execSrl (rt rd : Reg) (sa : BitVec 5) (s : State) : Out := shiftRight32 (fun v => v >>> sa.toNat) rt rd s

/-- SRA (42_shift R343). -/
def execSra (rt rd : Reg) (sa : BitVec 5) (s : State) : Out := shiftRight32 (fun v => v.sshiftRight sa.toNat) rt rd s

/-- SLLV (42_shift R344). -/
def execSllv (rs rt rd : Reg) (s : State) : Out := .next (writeGpr rd (sext (low (s.gpr rt) <<< amount5 rs s)) s)

/-- SRLV (42_shift R345). -/
def execSrlv (rs rt rd : Reg) (s : State) : Out := shiftRight32 (fun v => v >>> amount5 rs s) rt rd s

/-- SRAV (42_shift R346). -/
def execSrav (rs rt rd : Reg) (s : State) : Out := shiftRight32 (fun v => v.sshiftRight (amount5 rs s)) rt rd s

/-- DSLL (42_shift R347). -/
def execDsll (rt rd : Reg) (sa : BitVec 5) (s : State) : Out := shift64 (fun v => v <<< sa.toNat) rt rd s

/-- DSLLV (42_shift R350). -/
def execDsllv (rs rt rd : Reg) (s : State) : Out := shift64 (fun v => v <<< amount6 rs s) rt rd s

/-- DSLL32 (42_shift R353). -/
def execDsll32 (rt rd : Reg) (sa : BitVec 5) (s : State) : Out := shift64 (fun v => v <<< (sa.toNat + 32)) rt rd s

/-- DSRL (42_shift R348). -/
def execDsrl (rt rd : Reg) (sa : BitVec 5) (s : State) : Out := shift64 (fun v => v >>> sa.toNat) rt rd s

/-- DSRLV (42_shift R351). -/
def execDsrlv (rs rt rd : Reg) (s : State) : Out := shift64 (fun v => v >>> amount6 rs s) rt rd s

/-- DSRL32 (42_shift R354). -/
def execDsrl32 (rt rd : Reg) (sa : BitVec 5) (s : State) : Out := shift64 (fun v => v >>> (sa.toNat + 32)) rt rd s

/-- DSRA (42_shift R349). -/
def execDsra (rt rd : Reg) (sa : BitVec 5) (s : State) : Out := shift64 (fun v => v.sshiftRight sa.toNat) rt rd s

/-- DSRAV (42_shift R352). -/
def execDsrav (rs rt rd : Reg) (s : State) : Out := shift64 (fun v => v.sshiftRight (amount6 rs s)) rt rd s

/-- DSRA32 (42_shift R355). -/
def execDsra32 (rt rd : Reg) (sa : BitVec 5) (s : State) : Out :=
  shift64 (fun v => v.sshiftRight (sa.toNat + 32)) rt rd s

end Sys2Proof.Machine
end

