-- ==== Sys2Proof/Machine/Trap.lean ====
section
/-! DEFINITION. System call, breakpoint, SYNC and traps (spec 45_trap_system R420 to R436). -/

namespace Sys2Proof.Machine

/-- A Trap exception when the condition holds (45_trap_system R425 to R436). -/
def trapIf (c : Bool) (s : State) : Out :=
  finish s (if c then .error (.exc .trap) else .ok (advance s))

/-- SYSCALL (45_trap_system R421). -/
def execSyscall (_code : BitVec 20) (s : State) : Out := finish s (.error (.exc .syscall))

/-- BREAK (45_trap_system R422). -/
def execBrk (_code : BitVec 20) (s : State) : Out := finish s (.error (.exc .breakpoint))

/-- SYNC: no state change (45_trap_system R424). The record of which stores a device may not have seen, which no
instruction reads, becomes empty (60_exceptions R654; log 48). -/
def execSync (_stype : BitVec 5) (s : State) : Out := .next (advance { s with deviceStores := [] })

/-- TGE (45_trap_system R425). -/
def execTge (rs rt : Reg) (_code : BitVec 10) (s : State) : Out := trapIf ((s.gpr rt).sle (s.gpr rs)) s

/-- TGEU (45_trap_system R426). -/
def execTgeu (rs rt : Reg) (_code : BitVec 10) (s : State) : Out := trapIf ((s.gpr rt).ule (s.gpr rs)) s

/-- TLT (45_trap_system R427). -/
def execTlt (rs rt : Reg) (_code : BitVec 10) (s : State) : Out := trapIf ((s.gpr rs).slt (s.gpr rt)) s

/-- TLTU (45_trap_system R428). -/
def execTltu (rs rt : Reg) (_code : BitVec 10) (s : State) : Out := trapIf ((s.gpr rs).ult (s.gpr rt)) s

/-- TEQ (45_trap_system R429). -/
def execTeq (rs rt : Reg) (_code : BitVec 10) (s : State) : Out := trapIf (s.gpr rs == s.gpr rt) s

/-- TNE (45_trap_system R430). -/
def execTne (rs rt : Reg) (_code : BitVec 10) (s : State) : Out := trapIf (s.gpr rs != s.gpr rt) s

/-- TGEI (45_trap_system R431). -/
def execTgei (rs : Reg) (imm : BitVec 16) (s : State) : Out := trapIf ((simm imm).sle (s.gpr rs)) s

/-- TGEIU (45_trap_system R432). -/
def execTgeiu (rs : Reg) (imm : BitVec 16) (s : State) : Out := trapIf ((simm imm).ule (s.gpr rs)) s

/-- TLTI (45_trap_system R433). -/
def execTlti (rs : Reg) (imm : BitVec 16) (s : State) : Out := trapIf ((s.gpr rs).slt (simm imm)) s

/-- TLTIU (45_trap_system R434). -/
def execTltiu (rs : Reg) (imm : BitVec 16) (s : State) : Out := trapIf ((s.gpr rs).ult (simm imm)) s

/-- TEQI (45_trap_system R435). -/
def execTeqi (rs : Reg) (imm : BitVec 16) (s : State) : Out := trapIf (s.gpr rs == simm imm) s

/-- TNEI (45_trap_system R436). -/
def execTnei (rs : Reg) (imm : BitVec 16) (s : State) : Out := trapIf (s.gpr rs != simm imm) s

end Sys2Proof.Machine
end

