-- ==== Sys2Proof/Machine/Step.lean ====
section
/-! DEFINITION. One step: an event, or the next instruction fetched, decoded and executed (spec 60_exceptions R630;
log 13). -/

namespace Sys2Proof.Machine

/-- A fetched word: the instruction it decodes to, or the exception or refusal of a word that is none. -/
def execWord (w : BitVec 32) (s : State) : Host.Outcome State Fault Refusal :=
  match decode w with
  | .ok i => exec i s
  | .error r => execReject r s

/-- An executed instruction's outcome: the recent CP0 and TLB writes are one instruction further back. An instruction
whose execution raises an exception counts as executed; an event and an instruction whose fetch raises one do not
(70_reset_and_hazards R712; DESIGN CHOICE, log 8). -/
def ageOut (o : Host.Outcome State Fault Refusal) : Host.Outcome State Fault Refusal :=
  match o with
  | .next s => .next (ageRecent s)
  | .fault f => .fault f
  | .refused r => .refused r

/-- What a step does before time advances; which steps count as an executed instruction of the CP0 hazard is the model's
choice (log 8). -/
def stepCore (s : State) : Host.Outcome State Fault Refusal :=
  match takeEvent s with
  | some t => .next t
  | none =>
    match fetch s with
    | .ok w => ageOut (execWord w s)
    | .error st => stopOut st s

/-- One step of the machine. -/
def step (s : State) : Host.Outcome State Fault Refusal := tickOut s (stepCore s)

/-- The state with an instruction word placed where the next instruction is fetched (log 38). -/
def State.withFetchWord (s : State) (nbits w : Nat) : State := placeWord s (BitVec.ofNat 32 (w % 2 ^ nbits))

end Sys2Proof.Machine
end

