-- ==== Sys2Proof/Safety.lean ====
section
/-! DEFINITION. The terms the statements use: the invariant of the machine, what an instruction keeps, where a run
goes on, and the conditions under which an access completes. -/

namespace Sys2Proof.Machine

/-! ### The invariant -/

/-- The TLB's random index lies between Wired and 47 where Wired allows it (10_state R72). -/
def State.randomInRange (s : State) : Bool :=
  decide (47 < (s.cp0.wired &&& 0x3F#32).toNat)
    || (decide ((s.cp0.wired &&& 0x3F#32).toNat ≤ s.cp0.random.toNat) && decide (s.cp0.random.toNat ≤ 47))

/-- What every step keeps: memory in its canonical form; the reserved bits of Status and TS (10_state R81, R82) and
bits 22:18 of FCR31 (10_state R56) zero; CacheErr with EC and its reserved bits zero (10_state R91) and Config with an EC
that is not the reserved 7 (10_state R86); Random in its range (10_state R72); the HI/LO guards at most 2
(43_muldiv R362); an older system state seen for CP0_HAZARD instructions at most (70_reset_and_hazards R712); nothing in
the write buffer that four stores have certainly followed (20_memory R191), and in it the stores that a device may not
have seen (60_exceptions R654). -/
structure State.Inv (s : State) : Prop where
  memory : Memory.wf s.mem = true
  status : s.cp0.status &&& 0x09A80000#32 = 0#32
  fcr31 : s.fcr31 &&& 0x007C0000#32 = 0#32
  cacheErr : s.cp0.cacheErr &&& 0x41FFFFFF#32 = 0#32
  clock : s.cp0.config.extractLsb' 28 3 ≠ 7#3
  random : s.randomInRange = true
  guards : s.hiGuard ≤ 2 ∧ s.loGuard ≤ 2
  window : ∀ o ∈ s.recent, o.left ≤ s.cp0Hazard
  buffer : ∀ b ∈ s.writeBuffer, b.after < 4
  devices : ∀ d ∈ s.deviceStores, ∃ b ∈ s.writeBuffer, b.bytes = d

/-! ### What an instruction completes with and keeps -/

/-- The outcome is a next state with the property. -/
def Completes (o : Host.Outcome State Fault Refusal) (p : State → Prop) : Prop := ∃ t, o = .next t ∧ p t

/-- What an instruction may change besides the pc and the HI/LO guards. -/
structure Touched where
  gprs : List Reg := []
  fgrs : List Reg := []
  bytes : List Nat := []
  hiLo : Bool := false
  fcr31 : Bool := false
  /-- the CP0 registers -/
  cp0 : Bool := false
  /-- the timer latch behind Cause.IP(7) -/
  latch : Bool := false
  /-- Random held at 47 for this step -/
  hold : Bool := false
  tlb : Bool := false
  /-- the older system states that a dependent instruction may still see -/
  window : Bool := false
  /-- the initialised cache lines -/
  caches : Bool := false
  llbit : Bool := false
  /-- the loop of LL and SC that the fairness of SC is about -/
  link : Bool := false
  /-- the older bytes a fetch may see, and the lines that may be dirty -/
  stores : Bool := false
  /-- the write buffer, and the stores in it that a device may not have seen -/
  buffer : Bool := false
deriving DecidableEq, Repr

/-- The older system states that a dependent instruction may still see are as before, their CP0 registers apart
(70_reset_and_hazards R712). -/
def SameWindow (s t : State) : Prop :=
  t.recent.map (fun o => (o.left, o.tlb, o.timerLatch)) = s.recent.map fun o => (o.left, o.tlb, o.timerLatch)

/-- Everything outside w is as before: every field of the state but the pc, the record of the delay slot and the HI/LO
guards, of which StepsOn and the statements on jumps and on HI and LO speak. -/
structure Keeps (w : Touched) (s t : State) : Prop where
  gprs : ∀ r, r ∉ w.gprs → t.gpr r = s.gpr r
  fgrs : ∀ i, i ∉ w.fgrs → t.fgrRead i = s.fgrRead i
  memory : ∀ a, a ∉ w.bytes → memRead t.mem a = memRead s.mem a
  hiLo : w.hiLo = false → t.hi = s.hi ∧ t.lo = s.lo ∧ t.hiTag = s.hiTag ∧ t.loTag = s.loTag
  fcr0 : t.fcr0 = s.fcr0
  fcr31 : w.fcr31 = false → t.fcr31 = s.fcr31
  cp0 : w.cp0 = false → t.cp0 = s.cp0
  latch : w.latch = false → t.timerLatch = s.timerLatch
  hold : w.hold = false → t.randomHold = s.randomHold
  tlb : w.tlb = false → t.tlb = s.tlb
  window : w.window = false → SameWindow s t ∧ (w.cp0 = false → t.recent = s.recent)
  caches : w.caches = false → t.caches = s.caches
  llbit : w.llbit = false → t.llbit = s.llbit
  link : w.link = false → t.link = s.link
  stores : w.stores = false → t.stale = s.stale ∧ t.maybeDirty = s.maybeDirty ∧ t.unwritten = s.unwritten
  buffer : w.buffer = false → t.writeBuffer = s.writeBuffer ∧ t.deviceStores = s.deviceStores
  time : t.fccPrev = s.fccPrev ∧ t.draws = s.draws
  board : t.physMap = s.physMap ∧ t.timerIntOnIP7 = s.timerIntOnIP7 ∧ t.hiloHazard = s.hiloHazard
    ∧ t.cp0Hazard = s.cp0Hazard ∧ t.qnanS = s.qnanS ∧ t.qnanD = s.qnanD ∧ t.pins = s.pins

/-- The pc after an instruction that is no jump or branch: the pending delayed target, else the next word; the
address space ends at 2^64 (10_state R36, R37). -/
structure StepsOn (s t : State) : Prop where
  slot : ∀ x, s.next = some x → t.pc = x
  word : s.next = none → s.pc.toNat + 4 < 2 ^ 64 → t.pc = s.pc + 4#64
  next : t.next = none

/-- The instruction completes with the property, changes nothing outside w, and the pc steps on. -/
def Effects (i : Instr) (s : State) (w : Touched) (p : State → Prop) : Prop :=
  Completes (exec i s) fun t => p t ∧ Keeps w s t ∧ StepsOn s t

/-- The instruction completes, writes v to GPR[d] (register 0 stays 0) and changes nothing else. -/
def WritesGpr (i : Instr) (s : State) (d : Reg) (v : Word) : Prop :=
  Effects i s { gprs := [d] } fun t => t.gpr d = (if d = 0#5 then 0#64 else v)

/-- The instruction completes, leaves v in GPR[d] for some v with p, and changes nothing else. -/
def WritesGprWith (i : Instr) (s : State) (d : Reg) (p : Word → Prop) : Prop :=
  Effects i s { gprs := [d] } fun t => if d = 0#5 then t.gpr d = 0#64 else p (t.gpr d)

/-- The instruction completes and changes nothing but the pc. -/
def ChangesNothing (i : Instr) (s : State) : Prop :=
  Completes (exec i s) fun t => Keeps {} s t ∧ StepsOn s t

/-- No loop of LL and SC that the fairness of SC is about, from here on (log 21). -/
def State.noLink (s : State) : LinkLoop := { addr := none, armed := false, start := s.draws, fails := 0 }

/-- The loop after a load, store, exception or ERET: at its end if it comes between an LL and its SC
(40_load_store R285; log 21). -/
def State.linkBroken (s : State) : LinkLoop := if s.link.armed then s.noLink else s.link

/-- The instruction completes as a load or store that is no LL or SC does: with the property, and nothing outside w
changed but the loop of LL and SC. -/
def Accesses (i : Instr) (s : State) (w : Touched) (p : State → Prop) : Prop :=
  Effects i s { w with link := true } fun t => p t ∧ t.link = s.linkBroken

/-- The stores before a load from a device have left the write buffer (60_exceptions R654). -/
def Drained (t : State) : Prop := t.writeBuffer = [] ∧ t.deviceStores = []

/-- The same of a load from a device, which has seen the stores before it. -/
def AccessesDevice (i : Instr) (s : State) (w : Touched) (p : State → Prop) : Prop :=
  Accesses i s { w with buffer := true } fun t => p t ∧ Drained t

/-- CP0 becomes f of itself, and no instruction can see it otherwise: the older system states have it too
(70_reset_and_hazards R712; log 8). -/
def ChangesCp0 (f : Cp0 → Cp0) (s t : State) : Prop :=
  t.cp0 = f s.cp0 ∧ t.recent = s.recent.map fun o => { o with cp0 := f o.cp0 }

/-- With CP0_HAZARD, the next instructions may still see the system state of s (70_reset_and_hazards R712; log 8). -/
def OpensWindow (s t : State) : Prop :=
  t.recent = if s.cp0Hazard = 0 then s.recent
    else { left := s.cp0Hazard + 1, cp0 := s.cp0, tlb := s.tlb, timerLatch := s.timerLatch } :: s.recent

/-- The instruction takes exception e. -/
def Takes (i : Instr) (s : State) (e : Exc) : Prop := exec i s = .next (takeException e s)

/-- The address exceptions of an access at va that must be a multiple of n: Address Error, then those of translation
(40_load_store R260, 20_memory R152, R180). -/
def AccessTraps (i : Instr) (s : State) (acc : Access) (va : Word) (n : Nat) : Prop :=
  (va.toNat % n ≠ 0 → Takes i s (.addressError (acc == .store) va))
  ∧ (va.toNat % n = 0 → ∀ e, translate s.seen acc va = .error (.exc e) → Takes i s e)

/-- No cache error accompanies a data access, or Status.DE masks it (60_exceptions R611). -/
def NoCacheError (s : State) : Prop := s.pins.dataCacheError = none ∨ s.de = true

/-- The error exceptions of an access at va, from d bytes below its physical address on: a Cache Error that DE does not
mask, then a Bus Error of a load (60_exceptions R610, R611). -/
def ErrorTraps (i : Instr) (s : State) (acc : Access) (va : Word) (n d : Nat) : Prop :=
  ∀ pa attr, va.toNat % n = 0 → translate s.seen acc va = .ok (pa, attr) → s.cacheReady attr = true →
    (∀ p, s.pins.dataCacheError = some p → s.de = false → Takes i s (.cacheError p.onData))
    ∧ (acc = .load → NoCacheError s →
        s.pins.dataBusError = true ∨ regionAt s.physMap (pa - BitVec.ofNat 36 d).toNat = .none →
        Takes i s .busErrorData)

/-- A jump or branch outside a delay slot whose delay slot is executed and after which the pc is x (44_jump_branch
R380); pc + 4 is inside the address space. -/
structure GoesTo (s t : State) (x : Word) : Prop where
  slot : s.pc.toNat + 4 < 2 ^ 64 → t.pc = s.pc + 4#64
  target : t.next = some x

/-- The delay slot is nullified (44_jump_branch R382). -/
structure SkipsSlot (s t : State) : Prop where
  past : s.pc.toNat + 8 < 2 ^ 64 → t.pc = s.pc + 8#64
  next : t.next = none

/-! ### Conditions -/

/-- A register that holds a sign-extended word (41_alu R300). -/
def HoldsWord (v : Word) : Prop := -2 ^ 31 ≤ v.toInt ∧ v.toInt < 2 ^ 31

/-- 64-bit operations are enabled (30_encoding R238): Kernel mode, Supervisor mode with SX, User mode with UX. -/
def Enabled64 (s : State) : Prop :=
  (s.exl = true ∨ s.erl = true ∨ s.ksu = 0#2) ∨ (s.ksu = 1#2 ∧ s.sx = true) ∨ (s.ksu = 2#2 ∧ s.ux = true)

/-- Kernel mode (60_exceptions R670). -/
def KernelMode (s : State) : Prop := s.exl = true ∨ s.erl = true ∨ s.ksu = 0#2

/-- CP0 is usable: in Kernel mode, and in the other modes with CU0 (30_encoding R240, 60_exceptions R671). -/
def Cp0Usable (s : State) : Prop := s.cu 0 = true ∨ KernelMode s.seen

/-- A mode below Kernel (60_exceptions R670). -/
def BelowKernel (s : State) : Prop := s.exl = false ∧ s.erl = false ∧ (s.ksu = 1#2 ∨ s.ksu = 2#2)

/-- Memory or ROM answers a data access at a physical address and no error accompanies it (20_memory R150). -/
def Answers (s : State) (pa : Nat) : Prop :=
  (regionAt s.physMap pa = .ram ∨ regionAt s.physMap pa = .rom)
    ∧ NoCacheError s ∧ s.pins.dataBusError = false

/-- An n-byte load at va completes, from physical address pa, in the system state it sees
(70_reset_and_hazards R703, R712). -/
structure Loads (s : State) (va : Word) (n : Nat) (pa : PAddr) : Prop where
  aligned : va.toNat % n = 0
  translated : ∃ attr, translate s.seen .load va = .ok (pa, attr) ∧ s.cacheReady attr = true
  answers : Answers s pa.toNat

/-- An n-byte store at va completes, to RAM at physical address pa through an attribute. -/
structure Stores (s : State) (va : Word) (n : Nat) (pa : PAddr) (attr : BitVec 3) : Prop where
  aligned : va.toNat % n = 0
  translated : translate s.seen .store va = .ok (pa, attr) ∧ s.cacheReady attr = true
  answers : regionAt s.physMap pa.toNat = .ram ∧ NoCacheError s

/-- An n-byte uncached access at va that a device answers at physical address pa, with no cache error (20_memory
R155). -/
structure AsksDevice (s : State) (acc : Access) (va : Word) (n : Nat) (pa : PAddr) : Prop where
  aligned : va.toNat % n = 0
  translated : translate s.seen acc va = .ok (pa, 2#3)
  answers : regionAt s.physMap pa.toNat = .device ∧ NoCacheError s

/-- An n-byte store at va to a physical address at which nothing or ROM answers, with no cache error (20_memory R198,
60_exceptions R610). -/
structure Dropped (s : State) (va : Word) (n : Nat) (pa : PAddr) : Prop where
  aligned : va.toNat % n = 0
  translated : ∃ attr, translate s.seen .store va = .ok (pa, attr) ∧ s.cacheReady attr = true
  answers : (regionAt s.physMap pa.toNat = .none ∨ regionAt s.physMap pa.toNat = .rom) ∧ NoCacheError s

/-- An unaligned load by parts completes, from physical address pa of its EA, d bytes below which it starts
(40_load_store R273). -/
structure LoadsPart (s : State) (va : Word) (pa : PAddr) (d : Nat) : Prop where
  translated : ∃ attr, translate s.seen .load va = .ok (pa, attr) ∧ s.cacheReady attr = true
  answers : Answers s (pa - BitVec.ofNat 36 d).toNat

/-- An unaligned store by parts completes, to RAM (40_load_store R273). -/
structure StoresPart (s : State) (va : Word) (pa : PAddr) (d : Nat) (attr : BitVec 3) : Prop where
  translated : translate s.seen .store va = .ok (pa, attr) ∧ s.cacheReady attr = true
  answers : regionAt s.physMap (pa - BitVec.ofNat 36 d).toNat = .ram ∧ NoCacheError s

/-- An unaligned access by parts, through the uncached attribute, that a device answers (40_load_store R273, 20_memory
R155). -/
structure AsksDevicePart (s : State) (acc : Access) (va : Word) (pa : PAddr) (d : Nat) : Prop where
  translated : translate s.seen acc va = .ok (pa, 2#3)
  answers : regionAt s.physMap (pa - BitVec.ofNat 36 d).toNat = .device ∧ NoCacheError s

/-- An unaligned store by parts to where nothing or ROM answers (40_load_store R273, 20_memory R198). -/
structure DroppedPart (s : State) (va : Word) (pa : PAddr) (d : Nat) : Prop where
  translated : ∃ attr, translate s.seen .store va = .ok (pa, attr) ∧ s.cacheReady attr = true
  answers : (regionAt s.physMap (pa - BitVec.ofNat 36 d).toNat = .none
    ∨ regionAt s.physMap (pa - BitVec.ofNat 36 d).toNat = .rom) ∧ NoCacheError s

/-- The fetch at the pc is of the word at physical address pa through an attribute, as far as the pc's alignment, the
translation and the caches have a say (20_memory R147, 10_state R37, 70_reset_and_hazards R703, R712). -/
structure FetchesFrom (s : State) (pa : PAddr) (attr : BitVec 3) : Prop where
  aligned : s.pc.toNat % 4 = 0
  native : (s.view true).reverseEndian = false
  translated : translate (s.view true) .fetch s.pc = .ok (pa, attr) ∧ s.cacheReady attr = true

/-- The value of the n bytes at a physical address in the CPU's byte order (20_memory R145). -/
def State.valueAt (s : State) (pa n : Nat) : Nat :=
  ((List.range n).map fun k =>
    (memRead s.mem (s.lane (pa + k))).toNat * 256 ^ (if s.bigEndianCpu then n - 1 - k else k)).sum

/-- The write buffer after one more store has entered it, without that store: it loses what that is the fourth store to
follow (20_memory R191; log 48). -/
def State.bufferFollowed (s : State) : List Buffered :=
  (s.writeBuffer.filter fun e => decide (e.after < 3)).map fun e => { e with after := e.after + 1 }

/-- The stores a device may not have seen are those of s, and d, that are in the write buffer of t (60_exceptions
R654). -/
def Unseen (s t : State) (d : Option (List Nat)) : Prop :=
  ∀ b, b ∈ t.deviceStores ↔ d = some b ∨ (b ∈ s.deviceStores ∧ ∃ e ∈ t.writeBuffer, e.bytes = b)

/-- What a store of n bytes at physical address pa through an attribute leaves of them as they were. A fetch through a
cached attribute may see what it might before and, of the stored bytes, the contents the store overwrote, which the
instruction cache may also be filled with again; one through the uncached attribute may see those too, with what the
data cache may hold back, and gains nothing else. Through the write-back attribute the line may be dirty; through
another the store stands in the write buffer (20_memory R191, R194; 46_cp0 R452; logs 22, 48). -/
structure Records (s t : State) (attr : BitVec 3) (pa n : Nat) : Prop where
  cached : ∀ c a v, c ≠ 2#3 →
    (v ∈ t.oldBytes c a ↔ v ∈ s.oldBytes c a ∨ (a ∈ s.fieldBytes pa n ∧ v = memRead s.mem a))
  held : ∀ e ∈ t.stale, e.addr ∈ s.fieldBytes pa n → memRead s.mem e.addr ∈ e.held
  uncached : ∀ a ∈ s.fieldBytes pa n, memRead s.mem a ∈ t.oldBytes 2#3 a
  kept : ∀ c ∈ s.unwritten, c.2 ∈ t.oldBytes 2#3 c.1
  others : ∀ a v, a ∉ s.fieldBytes pa n → v ∈ t.oldBytes 2#3 a → v ∈ s.oldBytes 2#3 a
  back : attr = 3#3 → (∀ l, l ∈ t.maybeDirty ↔ l ∈ s.maybeDirty ∨ l = pa / 32)
    ∧ t.writeBuffer = s.writeBuffer ∧ t.deviceStores = s.deviceStores
  through : attr ≠ 3#3 → t.maybeDirty = s.maybeDirty ∧ Unseen s t none
    ∧ ∃ b, b.bytes = s.fieldBytes pa n ∧ b.after = 0 ∧ t.writeBuffer = b :: s.bufferFollowed

/-- How a load completes: as one from memory, or as one from a device. -/
abbrev LoadShape := Instr → State → Touched → (State → Prop) → Prop

/-- The instruction completes as a load that leaves v in GPR[d] for some v with p, and changes nothing else. -/
def LoadsGprWith (loads : LoadShape) (i : Instr) (s : State) (d : Reg) (p : Word → Prop) : Prop :=
  loads i s { gprs := [d] } fun t => if d = 0#5 then t.gpr d = 0#64 else p (t.gpr d)

/-- A load from memory of v into GPR[d]. -/
def LoadsGpr (i : Instr) (s : State) (d : Reg) (v : Word) : Prop := LoadsGprWith Accesses i s d (· = v)

/-- A load from memory of v into the low word of FGR[f] (10_state R53). -/
def LoadsFgrLow (i : Instr) (s : State) (f : Reg) (v : BitVec 32) : Prop :=
  Accesses i s { fgrs := [f] } fun t => t.fpr32 f = v

/-- What every store to memory may change. -/
def Touched.ofStore (bytes : List Nat) : Touched := { bytes := bytes, stores := true, buffer := true }

/-- The instruction completes as a store of the n low bytes of v at physical address pa through an attribute: memory
holds them there and is unchanged elsewhere, what they were is on record, and nothing else changes. -/
def StoresAt (i : Instr) (s : State) (attr : BitVec 3) (pa n : Nat) (v : Word) : Prop :=
  Accesses i s (.ofStore (s.fieldBytes pa n)) fun t => t.valueAt pa n = v.toNat % 256 ^ n ∧ Records s t attr pa n

/-- A store of n bytes to a device at physical address pa stands in the write buffer, among those that the device may
not have seen (20_memory R155, R191; logs 6, 48). -/
def Posts (s t : State) (pa n : Nat) : Prop :=
  t.writeBuffer = { bytes := s.fieldBytes pa n, olds := [], after := 0 } :: s.bufferFollowed
    ∧ Unseen s t (some (s.fieldBytes pa n))

/-- The instruction completes as a store of n bytes to a device, and changes nothing but the write buffer. -/
def SendsToDevice (i : Instr) (s : State) (pa n : Nat) : Prop :=
  Accesses i s { buffer := true } fun t => Posts s t pa n

/-- The instruction completes as a store that is dropped: it changes nothing (20_memory R198, 60_exceptions R610). -/
def DropsStore (i : Instr) (s : State) : Prop := Accesses i s {} fun _ => True

/-- The loop of LL and SC covers a store conditional at a physical address through an attribute (40_load_store R285;
log 21). -/
def Covered (s : State) (attr : BitVec 3) (pa : PAddr) : Prop :=
  s.llbit = true ∧ s.link.addr = some pa ∧ s.link.armed = true ∧ attr ≠ 2#3

/-- The store conditional fails: 0 in GPR[rt], nothing stored, the failure counted where the loop covers it. -/
def FailsStore (i : Instr) (s : State) (rt : Reg) (attr : BitVec 3) (pa : PAddr) : Prop :=
  Effects i s { gprs := [rt], link := true } fun t =>
    t.gpr rt = 0#64
    ∧ (Covered s attr pa → t.link = { s.link with armed := false, fails := s.link.fails + 1 })
    ∧ (¬Covered s attr pa → t.link = s.linkBroken)

/-- The store conditional succeeds: 1 in GPR[rt], its store made with the property, nothing outside w changed, and the
loop of LL and SC at its end. -/
def SucceedsStore (i : Instr) (s : State) (rt : Reg) (w : Touched) (p : State → Prop) : Prop :=
  Effects i s { w with gprs := [rt], link := true } fun t =>
    t.gpr rt = (if rt = 0#5 then 0#64 else 1#64) ∧ t.link = s.noLink ∧ p t

/-- A store conditional that passes its address checks fails, or has LLbit set and goes on with its store, and goes on
with it where the loop has failed as often as it may (40_load_store R285; log 21). -/
def StoresOrFails (i : Instr) (s : State) (rt : Reg) (attr : BitVec 3) (pa : PAddr) (goesOn : Prop) : Prop :=
  (FailsStore i s rt attr pa ∨ (s.llbit = true ∧ goesOn))
  ∧ (s.llbit = false → FailsStore i s rt attr pa)
  ∧ (Covered s attr pa → Config.scRetries s.link.start ≤ s.link.fails → goesOn)

/-- The FGRs that hold FPR i in a 64-bit format (10_state R51). -/
def State.pairOf (s : State) (i : Reg) : List Reg := if s.fr then [i] else [i, oddOf i]

/-- A load from memory of v into FPR(f, D). -/
def LoadsFpr64 (i : Instr) (s : State) (f : Reg) (v : Word) : Prop :=
  Accesses i s { fgrs := s.pairOf f } fun t => t.fpr64 f = v

/-- The FGRs that hold FPR i in a floating-point format. -/
def State.fgrsOf (s : State) : FpFmt → Reg → List Reg
  | .s, i => [i]
  | .d, i => s.pairOf i

/-- The FGRs that hold FPR i in a fixed-point format. -/
def State.fgrsOfInt (s : State) : IntFmt → Reg → List Reg
  | .w, i => [i]
  | .l, i => s.pairOf i

/-- FCR31 after an operation with Cause set c that does not trap: Cause is c, c's letters are raised among the Flags,
every other bit is as before (48_fpu_arith R512). -/
structure FcrAfter (s t : State) (c : BitVec 6) : Prop where
  cause : t.fcrCause = c
  flags : t.fcrFlags = s.fcrFlags ||| c.extractLsb' 0 5
  rest : t.fcr31 &&& 0xFFFC0F83#32 = s.fcr31 &&& 0xFFFC0F83#32

/-- The operation completes with Cause set c and leaves v in FPR(fd, f). -/
def DeliversFp (i : Instr) (s : State) (f : FpFmt) (fd : Reg) (c : BitVec 6) (v : Word) : Prop :=
  Effects i s { fgrs := s.fgrsOf f fd, fcr31 := true } fun t =>
    t.fpr f fd = (match f with | .s => (low v).setWidth 64 | .d => v) ∧ FcrAfter s t c

/-- The operation completes with Cause set c and leaves integer v in FPR(fd, W) or FPR(fd, L). -/
def DeliversInt (i : Instr) (s : State) (f : IntFmt) (fd : Reg) (c : BitVec 6) (v : Int) : Prop :=
  Effects i s { fgrs := s.fgrsOfInt f fd, fcr31 := true } fun t =>
    (match f with
      | .w => t.fpr32 fd = BitVec.ofInt 32 v
      | .l => t.fpr64 fd = BitVec.ofInt 64 v) ∧ FcrAfter s t c

/-- The operation traps with Cause set c: FCR31's Cause field is all that it leaves (48_fpu_arith R512). -/
def TrapsFp (i : Instr) (s : State) (c : BitVec 6) : Prop :=
  exec i s = .next (takeException .floatingPoint (setFcrCause c s))

/-- What an operation with Cause set c and result v does, trap or delivery (48_fpu_arith R512). -/
def FinishesFp (i : Instr) (s : State) (f : FpFmt) (fd : Reg) (r : BitVec 6 × Word) : Prop :=
  if fcrTraps r.1 s then TrapsFp i s r.1 else DeliversFp i s f fd r.1 r.2

/-- CP1 usable and the FPRs named by these numbers defined (10_state R51). -/
def FpReady (s : State) (regs : List Reg) : Prop := s.cu 1 = true ∧ ∀ i ∈ regs, s.fprOk i = true

/-! ### Gates by instruction (30_encoding R238 to R240, spec/opcode_table.json) -/

/-- The coprocessor unit an instruction belongs to (30_encoding R240). -/
def unitOf : Instr → Option (BitVec 2)
  | .mfc0 .. | .dmfc0 .. | .mtc0 .. | .dmtc0 .. | .tlbr | .tlbwi | .tlbwr | .tlbp | .eret | .cache .. => some 0#2
  | .lwc1 .. | .ldc1 .. | .swc1 .. | .sdc1 .. | .lwxc1 .. | .ldxc1 .. | .swxc1 .. | .sdxc1 .. | .prefx ..
  | .movf .. | .movt .. | .bc1f .. | .bc1t .. | .bc1fl .. | .bc1tl .. | .mfc1 .. | .dmfc1 .. | .cfc1 ..
  | .mtc1 .. | .dmtc1 .. | .ctc1 .. | .movS .. | .movfS .. | .movtS .. | .movnS .. | .movzS .. | .movD ..
  | .movfD .. | .movtD .. | .movnD .. | .movzD .. | .addS .. | .subS .. | .mulS .. | .divS .. | .sqrtS ..
  | .absS .. | .negS .. | .recipS .. | .rsqrtS .. | .addD .. | .subD .. | .mulD .. | .divD .. | .sqrtD ..
  | .absD .. | .negD .. | .recipD .. | .rsqrtD .. | .maddS .. | .maddD .. | .msubS .. | .msubD .. | .nmaddS ..
  | .nmaddD .. | .nmsubS .. | .nmsubD .. | .cFS .. | .cUnS .. | .cEqS .. | .cUeqS .. | .cOltS .. | .cUltS ..
  | .cOleS .. | .cUleS .. | .cSfS .. | .cNgleS .. | .cSeqS .. | .cNglS .. | .cLtS .. | .cNgeS .. | .cLeS ..
  | .cNgtS .. | .cFD .. | .cUnD .. | .cEqD .. | .cUeqD .. | .cOltD .. | .cUltD .. | .cOleD .. | .cUleD ..
  | .cSfD .. | .cNgleD .. | .cSeqD .. | .cNglD .. | .cLtD .. | .cNgeD .. | .cLeD .. | .cNgtD .. | .cvtWS ..
  | .cvtLS .. | .roundWS .. | .truncWS .. | .ceilWS .. | .floorWS .. | .roundLS .. | .truncLS .. | .ceilLS ..
  | .floorLS .. | .cvtWD .. | .cvtLD .. | .roundWD .. | .truncWD .. | .ceilWD .. | .floorWD .. | .roundLD ..
  | .truncLD .. | .ceilLD .. | .floorLD .. | .cvtSD .. | .cvtSW .. | .cvtSL .. | .cvtDS .. | .cvtDW ..
  | .cvtDL .. => some 1#2
  | .lb .. | .lbu .. | .lh .. | .lhu .. | .lw .. | .lwu .. | .ld .. | .sb .. | .sh .. | .sw .. | .sd ..
  | .lwl .. | .lwr .. | .swl .. | .swr .. | .ldl .. | .ldr .. | .sdl .. | .sdr .. | .ll .. | .lld .. | .sc ..
  | .scd .. | .pref .. | .add .. | .addu .. | .sub .. | .subu .. | .dadd .. | .daddu .. | .dsub .. | .dsubu ..
  | .and .. | .or .. | .xor .. | .nor .. | .slt .. | .sltu .. | .movn .. | .movz .. | .addi .. | .addiu ..
  | .daddi .. | .daddiu .. | .andi .. | .ori .. | .xori .. | .slti .. | .sltiu .. | .lui .. | .sll .. | .srl ..
  | .sra .. | .dsll .. | .dsrl .. | .dsra .. | .dsll32 .. | .dsrl32 .. | .dsra32 .. | .sllv .. | .srlv ..
  | .srav .. | .dsllv .. | .dsrlv .. | .dsrav .. | .mult .. | .multu .. | .div .. | .divu .. | .dmult ..
  | .dmultu .. | .ddiv .. | .ddivu .. | .mfhi .. | .mflo .. | .mthi .. | .mtlo .. | .j .. | .jal .. | .jr ..
  | .jalr .. | .beq .. | .bne .. | .beql .. | .bnel .. | .blez .. | .bgtz .. | .blezl .. | .bgtzl .. | .bltz ..
  | .bgez .. | .bltzal .. | .bgezal .. | .bltzl .. | .bgezl .. | .bltzall .. | .bgezall .. | .syscall ..
  | .brk .. | .sync .. | .tge .. | .tgeu .. | .tlt .. | .tltu .. | .teq .. | .tne .. | .tgei .. | .tgeiu ..
  | .tlti .. | .tltiu .. | .teqi .. | .tnei .. => none

/-- The (III) set of 30_encoding R238. -/
def needs64 : Instr → Bool
  | .lwu .. | .ld .. | .sd .. | .ldl .. | .ldr .. | .sdl .. | .sdr .. | .lld .. | .scd .. | .dadd ..
  | .daddu .. | .dsub .. | .dsubu .. | .daddi .. | .daddiu .. | .dsll .. | .dsrl .. | .dsra .. | .dsll32 ..
  | .dsrl32 .. | .dsra32 .. | .dsllv .. | .dsrlv .. | .dsrav .. | .dmult .. | .dmultu .. | .ddiv .. | .ddivu ..
  | .dmfc0 .. | .dmtc0 .. | .dmfc1 .. | .dmtc1 .. => true
  | .lb .. | .lbu .. | .lh .. | .lhu .. | .lw .. | .sb .. | .sh .. | .sw .. | .lwl .. | .lwr .. | .swl ..
  | .swr .. | .ll .. | .sc .. | .lwc1 .. | .ldc1 .. | .swc1 .. | .sdc1 .. | .lwxc1 .. | .ldxc1 .. | .swxc1 ..
  | .sdxc1 .. | .pref .. | .prefx .. | .add .. | .addu .. | .sub .. | .subu .. | .and .. | .or .. | .xor ..
  | .nor .. | .slt .. | .sltu .. | .movn .. | .movz .. | .addi .. | .addiu .. | .andi .. | .ori .. | .xori ..
  | .slti .. | .sltiu .. | .lui .. | .movf .. | .movt .. | .sll .. | .srl .. | .sra .. | .sllv .. | .srlv ..
  | .srav .. | .mult .. | .multu .. | .div .. | .divu .. | .mfhi .. | .mflo .. | .mthi .. | .mtlo .. | .j ..
  | .jal .. | .jr .. | .jalr .. | .beq .. | .bne .. | .beql .. | .bnel .. | .blez .. | .bgtz .. | .blezl ..
  | .bgtzl .. | .bltz .. | .bgez .. | .bltzal .. | .bgezal .. | .bltzl .. | .bgezl .. | .bltzall ..
  | .bgezall .. | .bc1f .. | .bc1t .. | .bc1fl .. | .bc1tl .. | .syscall .. | .brk .. | .sync .. | .tge ..
  | .tgeu .. | .tlt .. | .tltu .. | .teq .. | .tne .. | .tgei .. | .tgeiu .. | .tlti .. | .tltiu .. | .teqi ..
  | .tnei .. | .mfc0 .. | .mtc0 .. | .tlbr | .tlbwi | .tlbwr | .tlbp | .eret | .cache .. | .mfc1 .. | .cfc1 ..
  | .mtc1 .. | .ctc1 .. | .movS .. | .movfS .. | .movtS .. | .movnS .. | .movzS .. | .movD .. | .movfD ..
  | .movtD .. | .movnD .. | .movzD .. | .addS .. | .subS .. | .mulS .. | .divS .. | .sqrtS .. | .absS ..
  | .negS .. | .recipS .. | .rsqrtS .. | .addD .. | .subD .. | .mulD .. | .divD .. | .sqrtD .. | .absD ..
  | .negD .. | .recipD .. | .rsqrtD .. | .maddS .. | .maddD .. | .msubS .. | .msubD .. | .nmaddS ..
  | .nmaddD .. | .nmsubS .. | .nmsubD .. | .cFS .. | .cUnS .. | .cEqS .. | .cUeqS .. | .cOltS .. | .cUltS ..
  | .cOleS .. | .cUleS .. | .cSfS .. | .cNgleS .. | .cSeqS .. | .cNglS .. | .cLtS .. | .cNgeS .. | .cLeS ..
  | .cNgtS .. | .cFD .. | .cUnD .. | .cEqD .. | .cUeqD .. | .cOltD .. | .cUltD .. | .cOleD .. | .cUleD ..
  | .cSfD .. | .cNgleD .. | .cSeqD .. | .cNglD .. | .cLtD .. | .cNgeD .. | .cLeD .. | .cNgtD .. | .cvtWS ..
  | .cvtLS .. | .roundWS .. | .truncWS .. | .ceilWS .. | .floorWS .. | .roundLS .. | .truncLS .. | .ceilLS ..
  | .floorLS .. | .cvtWD .. | .cvtLD .. | .roundWD .. | .truncWD .. | .ceilWD .. | .floorWD .. | .roundLD ..
  | .truncLD .. | .ceilLD .. | .floorLD .. | .cvtSD .. | .cvtSW .. | .cvtSL .. | .cvtDS .. | .cvtDW ..
  | .cvtDL .. => false

/-- The (IV) set of 30_encoding R239; a branch or compare is in it with a condition code other than 0. -/
def needsMips4 : Instr → Bool
  | .lwxc1 .. | .ldxc1 .. | .swxc1 .. | .sdxc1 .. | .pref .. | .prefx .. | .movn .. | .movz .. | .movf ..
  | .movt .. | .movfS .. | .movtS .. | .movnS .. | .movzS .. | .movfD .. | .movtD .. | .movnD .. | .movzD ..
  | .recipS .. | .rsqrtS .. | .recipD .. | .rsqrtD .. | .maddS .. | .maddD .. | .msubS .. | .msubD ..
  | .nmaddS .. | .nmaddD .. | .nmsubS .. | .nmsubD .. => true
  | .bc1f cc _ | .bc1t cc _ | .bc1fl cc _ | .bc1tl cc _ | .cFS _ _ cc | .cUnS _ _ cc | .cEqS _ _ cc
  | .cUeqS _ _ cc | .cOltS _ _ cc | .cUltS _ _ cc | .cOleS _ _ cc | .cUleS _ _ cc | .cSfS _ _ cc
  | .cNgleS _ _ cc | .cSeqS _ _ cc | .cNglS _ _ cc | .cLtS _ _ cc | .cNgeS _ _ cc | .cLeS _ _ cc
  | .cNgtS _ _ cc | .cFD _ _ cc | .cUnD _ _ cc | .cEqD _ _ cc | .cUeqD _ _ cc | .cOltD _ _ cc | .cUltD _ _ cc
  | .cOleD _ _ cc | .cUleD _ _ cc | .cSfD _ _ cc | .cNgleD _ _ cc | .cSeqD _ _ cc | .cNglD _ _ cc
  | .cLtD _ _ cc | .cNgeD _ _ cc | .cLeD _ _ cc | .cNgtD _ _ cc => cc != 0#3
  | .lb .. | .lbu .. | .lh .. | .lhu .. | .lw .. | .lwu .. | .ld .. | .sb .. | .sh .. | .sw .. | .sd ..
  | .lwl .. | .lwr .. | .swl .. | .swr .. | .ldl .. | .ldr .. | .sdl .. | .sdr .. | .ll .. | .lld .. | .sc ..
  | .scd .. | .lwc1 .. | .ldc1 .. | .swc1 .. | .sdc1 .. | .add .. | .addu .. | .sub .. | .subu .. | .dadd ..
  | .daddu .. | .dsub .. | .dsubu .. | .and .. | .or .. | .xor .. | .nor .. | .slt .. | .sltu .. | .addi ..
  | .addiu .. | .daddi .. | .daddiu .. | .andi .. | .ori .. | .xori .. | .slti .. | .sltiu .. | .lui ..
  | .sll .. | .srl .. | .sra .. | .dsll .. | .dsrl .. | .dsra .. | .dsll32 .. | .dsrl32 .. | .dsra32 ..
  | .sllv .. | .srlv .. | .srav .. | .dsllv .. | .dsrlv .. | .dsrav .. | .mult .. | .multu .. | .div ..
  | .divu .. | .dmult .. | .dmultu .. | .ddiv .. | .ddivu .. | .mfhi .. | .mflo .. | .mthi .. | .mtlo ..
  | .j .. | .jal .. | .jr .. | .jalr .. | .beq .. | .bne .. | .beql .. | .bnel .. | .blez .. | .bgtz ..
  | .blezl .. | .bgtzl .. | .bltz .. | .bgez .. | .bltzal .. | .bgezal .. | .bltzl .. | .bgezl .. | .bltzall ..
  | .bgezall .. | .syscall .. | .brk .. | .sync .. | .tge .. | .tgeu .. | .tlt .. | .tltu .. | .teq ..
  | .tne .. | .tgei .. | .tgeiu .. | .tlti .. | .tltiu .. | .teqi .. | .tnei .. | .mfc0 .. | .dmfc0 ..
  | .mtc0 .. | .dmtc0 .. | .tlbr | .tlbwi | .tlbwr | .tlbp | .eret | .cache .. | .mfc1 .. | .dmfc1 ..
  | .cfc1 .. | .mtc1 .. | .dmtc1 .. | .ctc1 .. | .movS .. | .movD .. | .addS .. | .subS .. | .mulS ..
  | .divS .. | .sqrtS .. | .absS .. | .negS .. | .addD .. | .subD .. | .mulD .. | .divD .. | .sqrtD ..
  | .absD .. | .negD .. | .cvtWS .. | .cvtLS .. | .roundWS .. | .truncWS .. | .ceilWS .. | .floorWS ..
  | .roundLS .. | .truncLS .. | .ceilLS .. | .floorLS .. | .cvtWD .. | .cvtLD .. | .roundWD .. | .truncWD ..
  | .ceilWD .. | .floorWD .. | .roundLD .. | .truncLD .. | .ceilLD .. | .floorLD .. | .cvtSD .. | .cvtSW ..
  | .cvtSL .. | .cvtDS .. | .cvtDW .. | .cvtDL .. => false

/-- The jumps and branches (44_jump_branch R385 to R409). -/
def isJump : Instr → Bool
  | .j .. | .jal .. | .jr .. | .jalr .. | .beq .. | .bne .. | .beql .. | .bnel .. | .blez .. | .bgtz ..
  | .blezl .. | .bgtzl .. | .bltz .. | .bgez .. | .bltzal .. | .bgezal .. | .bltzl .. | .bgezl .. | .bltzall ..
  | .bgezall .. | .bc1f .. | .bc1t .. | .bc1fl .. | .bc1tl .. => true
  | .lb .. | .lbu .. | .lh .. | .lhu .. | .lw .. | .lwu .. | .ld .. | .sb .. | .sh .. | .sw .. | .sd ..
  | .lwl .. | .lwr .. | .swl .. | .swr .. | .ldl .. | .ldr .. | .sdl .. | .sdr .. | .ll .. | .lld .. | .sc ..
  | .scd .. | .lwc1 .. | .ldc1 .. | .swc1 .. | .sdc1 .. | .lwxc1 .. | .ldxc1 .. | .swxc1 .. | .sdxc1 ..
  | .pref .. | .prefx .. | .add .. | .addu .. | .sub .. | .subu .. | .dadd .. | .daddu .. | .dsub ..
  | .dsubu .. | .and .. | .or .. | .xor .. | .nor .. | .slt .. | .sltu .. | .movn .. | .movz .. | .addi ..
  | .addiu .. | .daddi .. | .daddiu .. | .andi .. | .ori .. | .xori .. | .slti .. | .sltiu .. | .lui ..
  | .movf .. | .movt .. | .sll .. | .srl .. | .sra .. | .dsll .. | .dsrl .. | .dsra .. | .dsll32 ..
  | .dsrl32 .. | .dsra32 .. | .sllv .. | .srlv .. | .srav .. | .dsllv .. | .dsrlv .. | .dsrav .. | .mult ..
  | .multu .. | .div .. | .divu .. | .dmult .. | .dmultu .. | .ddiv .. | .ddivu .. | .mfhi .. | .mflo ..
  | .mthi .. | .mtlo .. | .syscall .. | .brk .. | .sync .. | .tge .. | .tgeu .. | .tlt .. | .tltu .. | .teq ..
  | .tne .. | .tgei .. | .tgeiu .. | .tlti .. | .tltiu .. | .teqi .. | .tnei .. | .mfc0 .. | .dmfc0 ..
  | .mtc0 .. | .dmtc0 .. | .tlbr | .tlbwi | .tlbwr | .tlbp | .eret | .cache .. | .mfc1 .. | .dmfc1 ..
  | .cfc1 .. | .mtc1 .. | .dmtc1 .. | .ctc1 .. | .movS .. | .movfS .. | .movtS .. | .movnS .. | .movzS ..
  | .movD .. | .movfD .. | .movtD .. | .movnD .. | .movzD .. | .addS .. | .subS .. | .mulS .. | .divS ..
  | .sqrtS .. | .absS .. | .negS .. | .recipS .. | .rsqrtS .. | .addD .. | .subD .. | .mulD .. | .divD ..
  | .sqrtD .. | .absD .. | .negD .. | .recipD .. | .rsqrtD .. | .maddS .. | .maddD .. | .msubS .. | .msubD ..
  | .nmaddS .. | .nmaddD .. | .nmsubS .. | .nmsubD .. | .cFS .. | .cUnS .. | .cEqS .. | .cUeqS .. | .cOltS ..
  | .cUltS .. | .cOleS .. | .cUleS .. | .cSfS .. | .cNgleS .. | .cSeqS .. | .cNglS .. | .cLtS .. | .cNgeS ..
  | .cLeS .. | .cNgtS .. | .cFD .. | .cUnD .. | .cEqD .. | .cUeqD .. | .cOltD .. | .cUltD .. | .cOleD ..
  | .cUleD .. | .cSfD .. | .cNgleD .. | .cSeqD .. | .cNglD .. | .cLtD .. | .cNgeD .. | .cLeD .. | .cNgtD ..
  | .cvtWS .. | .cvtLS .. | .roundWS .. | .truncWS .. | .ceilWS .. | .floorWS .. | .roundLS .. | .truncLS ..
  | .ceilLS .. | .floorLS .. | .cvtWD .. | .cvtLD .. | .roundWD .. | .truncWD .. | .ceilWD .. | .floorWD ..
  | .roundLD .. | .truncLD .. | .ceilLD .. | .floorLD .. | .cvtSD .. | .cvtSW .. | .cvtSL .. | .cvtDS ..
  | .cvtDW .. | .cvtDL .. => false

/-- The instruction's coprocessor unit, if it has one, is marked usable. -/
def UnitMarked (i : Instr) (s : State) : Prop := ∀ u, unitOf i = some u → s.cu u.toNat = true

/-! ### Branches -/

/-- BranchTarget (44_jump_branch R381). -/
def targetOf (s : State) (offset : BitVec 16) : Word := s.pc + 4#64 + BitVec.ofInt 64 (4 * offset.toInt)

/-- An ordinary conditional branch: its delay slot runs, then the target if c holds, else the word after the delay
slot; outside w nothing changes (44_jump_branch R380, R382). -/
def BranchesIf (i : Instr) (s : State) (c : Prop) (offset : BitVec 16) (w : Touched) : Prop :=
  (c → Completes (exec i s) fun t => GoesTo s t (targetOf s offset) ∧ Keeps w s t)
  ∧ (¬c → s.pc.toNat + 8 < 2 ^ 64 → Completes (exec i s) fun t => GoesTo s t (s.pc + 8#64) ∧ Keeps w s t)

/-- A branch-likely: taken as above; not taken, the delay slot is nullified (44_jump_branch R382). -/
def BranchesLikely (i : Instr) (s : State) (c : Prop) (offset : BitVec 16) (w : Touched) : Prop :=
  (c → Completes (exec i s) fun t => GoesTo s t (targetOf s offset) ∧ Keeps w s t)
  ∧ (¬c → Completes (exec i s) fun t => SkipsSlot s t ∧ Keeps w s t)

/-- The link value in GPR[d] after a jump or branch in state s. -/
def LinksTo (i : Instr) (s : State) (d : Reg) : Prop :=
  ∀ t, exec i s = .next t → t.gpr d = (if d = 0#5 then 0#64 else s.pc + 8#64)

/-- A trap instruction: a Trap exception if c holds, else no effect (45_trap_system R420). -/
def TrapsIf (i : Instr) (s : State) (c : Prop) : Prop := (c → Takes i s .trap) ∧ (¬c → ChangesNothing i s)

/-- A trapping sum or difference, r exactly: the result in GPR[d] if it fits n bits, else Integer Overflow
(41_alu R301 to R311). -/
def AddsOrTraps (i : Instr) (s : State) (d : Reg) (n : Nat) (r : Int) : Prop :=
  if -2 ^ (n - 1) ≤ r ∧ r < 2 ^ (n - 1) then WritesGpr i s d (BitVec.ofInt 64 r) else Takes i s .overflow

/-- A move that happens if c holds, else no effect (41_alu R325 to R328). -/
def MovesIf (i : Instr) (s : State) (c : Prop) (d : Reg) (v : Word) : Prop :=
  (c → WritesGpr i s d v) ∧ (¬c → ChangesNothing i s)

/-- No multiply, divide, MTHI or MTLO follows an MFHI or MFLO too closely (43_muldiv R362). -/
def NoHiLoHazard (s : State) : Prop := s.hiloHazard = false ∨ (s.hiGuard = 0 ∧ s.loGuard = 0)

/-- The instruction completes, leaves HI and LO with p, marked as arithmetic, and changes nothing else
(43_muldiv R360, R361). -/
def SetsHiLo (i : Instr) (s : State) (p : Word → Word → Prop) : Prop :=
  Effects i s { hiLo := true } fun t => p t.hi t.lo ∧ t.hiTag = .arith ∧ t.loTag = .arith

/-- The low word of FGR[f] receives v (10_state R53). -/
def WritesFgrLow (i : Instr) (s : State) (f : Reg) (v : BitVec 32) : Prop :=
  Effects i s { fgrs := [f] } fun t => t.fpr32 f = v

/-- FPR(f, D) receives v. -/
def WritesFpr64 (i : Instr) (s : State) (f : Reg) (v : Word) : Prop :=
  Effects i s { fgrs := s.pairOf f } fun t => t.fpr64 f = v

/-- FPR(fd, f) receives v, FCR31 unchanged. -/
def WritesFpr (i : Instr) (s : State) (f : FpFmt) (fd : Reg) (v : Word) : Prop :=
  Effects i s { fgrs := s.fgrsOf f fd } fun t => t.fpr f fd = v

/-- A conversion to fixed point with Cause set c and integer n finishes: trap or delivery. -/
def FinishesInt (i : Instr) (s : State) (f : IntFmt) (fd : Reg) (r : BitVec 6 × Word) : Prop :=
  if fcrTraps r.1 s then TrapsFp i s r.1 else DeliversInt i s f fd r.1 r.2.toInt

/-- C.cond.fmt of two values under a condition (48_fpu_arith R540): trap, or FCC[cc] with the condition's truth and
every other condition code as before. -/
def ComparesAs (i : Instr) (s : State) (cond : BitVec 4) (a b : FpVal) (cc : BitVec 3) : Prop :=
  let unordered := isNan a || isNan b
  let c : BitVec 6 := if isSnan a || isSnan b || (cond.getLsbD 3 && unordered) then causeV else 0#6
  let holds := if unordered then cond.getLsbD 0
    else (cond.getLsbD 2 && (fpOrder a b).1) || (cond.getLsbD 1 && (fpOrder a b).2)
  if fcrTraps c s then TrapsFp i s c
  else Effects i s { fcr31 := true } fun t =>
    t.fcc cc = holds ∧ (∀ n, n ≠ cc → t.fcc n = s.fcc n) ∧ t.fcrCause = c
      ∧ t.fcrFlags = s.fcrFlags ||| c.extractLsb' 0 5 ∧ t.fcr31 &&& 0x017C0F83#32 = s.fcr31 &&& 0x017C0F83#32

/-- All 32 register numbers. -/
def allRegs : List Reg := (List.range 32).map (BitVec.ofNat 5)

/-! ### The numbers that exact values stand for (48_fpu_arith R510) -/

/-- (-1)^neg * m * 2^e. -/
def scaled (neg : Bool) (m : Nat) (e : Int) : Rat := (if neg then -1 else 1) * (m : Rat) * (2 : Rat) ^ e

/-- The number a finite value stands for. -/
def FpVal.number : FpVal → Rat
  | .finite _ neg m e => scaled neg m e
  | _ => 0

/-- The sign of a value. -/
def FpVal.negative : FpVal → Bool
  | .inf neg => neg
  | .zero neg => neg
  | .finite _ neg _ _ => neg
  | _ => false

/-- A zero or finite value. -/
def FpVal.isNumber : FpVal → Prop
  | .zero _ => True
  | .finite _ _ m _ => 0 < m
  | _ => False

/-- What the bits of a word stand for in a format with its sign at a bit number, an exponent of eb bits with a bias, and
a fraction of fb bits (48_fpu_arith R510, D0 Table 6.5): a NaN is signaling when the top fraction bit is 1. -/
def StandsFor (f : FpFmt) (w : Word) (signBit eb fb : Nat) (bias : Int) : Prop :=
  let neg := w.getLsbD signBit
  let ex := w.toNat / 2 ^ fb % 2 ^ eb
  let frac := w.toNat % 2 ^ fb
  let sign : Rat := if neg then -1 else 1
  (ex = 2 ^ eb - 1 → frac ≠ 0 → unpack f w = (if w.getLsbD (fb - 1) then .snan else .qnan))
  ∧ (ex = 2 ^ eb - 1 → frac = 0 → unpack f w = .inf neg)
  ∧ (0 < ex → ex < 2 ^ eb - 1 → (∃ m e, unpack f w = .finite false neg m e)
      ∧ (unpack f w).number = sign * (2 : Rat) ^ ((ex : Int) - bias) * (1 + (frac : Rat) / 2 ^ fb))
  ∧ (ex = 0 → frac ≠ 0 → (∃ m e, unpack f w = .finite true neg m e)
      ∧ (unpack f w).number = sign * (2 : Rat) ^ (1 - bias) * ((frac : Rat) / 2 ^ fb))
  ∧ (ex = 0 → frac = 0 → unpack f w = .zero neg)

/-- x is what an exact result stands for, or lies strictly between it and the next multiple of 2^e when sticky. -/
def Exact.Denotes (r : Exact) (x : Rat) : Prop :=
  match r with
  | .zero _ => x = 0
  | .real neg m e sticky =>
    0 < m ∧ (if sticky then scaled false m e < |x| ∧ |x| < scaled false (m + 1) e ∧ (x < 0 ↔ neg = true)
      else x = scaled neg m e)
  | _ => False

end Sys2Proof.Machine
end

