-- ==== Sys2Proof/WellFormed.lean ====
section
/-! DEFINITION. The static checks on an instruction: the operand combinations the spec excludes whatever the
state (44_jump_branch R388, R395, R396, R403, R404; 46_cp0 R451). -/

namespace Sys2Proof

/-- The CACHE operation codes of the table of 46_cp0 R451. -/
def cacheOpListed (op5 : BitVec 5) : Bool :=
  op5.toNat ∈ [0x00, 0x04, 0x08, 0x10, 0x14, 0x18, 0x01, 0x05, 0x09, 0x0D, 0x11, 0x15, 0x19, 0x03, 0x07, 0x0B, 0x17]

/-- Whether the spec gives the instruction a meaning with these operands. -/
def wellFormed : Instr → Bool
  | .jalr rs rd => rd != rs
  | .bltzal rs _ => rs != 31#5
  | .bgezal rs _ => rs != 31#5
  | .bltzall rs _ => rs != 31#5
  | .bgezall rs _ => rs != 31#5
  | .cache _ op5 _ => cacheOpListed op5
  | .lb .. | .lbu .. | .lh .. | .lhu .. | .lw .. | .lwu .. | .ld .. | .sb .. | .sh .. | .sw .. | .sd ..
  | .lwl .. | .lwr .. | .swl .. | .swr .. | .ldl .. | .ldr .. | .sdl .. | .sdr .. | .ll .. | .lld ..
  | .sc .. | .scd .. | .lwc1 .. | .ldc1 .. | .swc1 .. | .sdc1 .. | .lwxc1 .. | .ldxc1 .. | .swxc1 ..
  | .sdxc1 .. | .pref .. | .prefx .. | .add .. | .addu .. | .sub .. | .subu .. | .dadd .. | .daddu ..
  | .dsub .. | .dsubu .. | .and .. | .or .. | .xor .. | .nor .. | .slt .. | .sltu .. | .movn .. | .movz ..
  | .addi .. | .addiu .. | .daddi .. | .daddiu .. | .andi .. | .ori .. | .xori .. | .slti .. | .sltiu ..
  | .lui .. | .movf .. | .movt .. | .sll .. | .srl .. | .sra .. | .dsll .. | .dsrl .. | .dsra ..
  | .dsll32 .. | .dsrl32 .. | .dsra32 .. | .sllv .. | .srlv .. | .srav .. | .dsllv .. | .dsrlv ..
  | .dsrav .. | .mult .. | .multu .. | .div .. | .divu .. | .dmult .. | .dmultu .. | .ddiv .. | .ddivu ..
  | .mfhi .. | .mflo .. | .mthi .. | .mtlo .. | .j .. | .jal .. | .jr .. | .beq .. | .bne .. | .beql ..
  | .bnel .. | .blez .. | .bgtz .. | .blezl .. | .bgtzl .. | .bltz .. | .bgez .. | .bltzl .. | .bgezl ..
  | .bc1f .. | .bc1t .. | .bc1fl .. | .bc1tl .. | .syscall .. | .brk .. | .sync .. | .tge .. | .tgeu ..
  | .tlt .. | .tltu .. | .teq .. | .tne .. | .tgei .. | .tgeiu .. | .tlti .. | .tltiu .. | .teqi ..
  | .tnei .. | .mfc0 .. | .dmfc0 .. | .mtc0 .. | .dmtc0 .. | .tlbr .. | .tlbwi .. | .tlbwr .. | .tlbp ..
  | .eret .. | .mfc1 .. | .dmfc1 .. | .cfc1 .. | .mtc1 .. | .dmtc1 .. | .ctc1 .. | .movS .. | .movfS ..
  | .movtS .. | .movnS .. | .movzS .. | .movD .. | .movfD .. | .movtD .. | .movnD .. | .movzD .. | .addS ..
  | .subS .. | .mulS .. | .divS .. | .sqrtS .. | .absS .. | .negS .. | .recipS .. | .rsqrtS .. | .addD ..
  | .subD .. | .mulD .. | .divD .. | .sqrtD .. | .absD .. | .negD .. | .recipD .. | .rsqrtD .. | .maddS ..
  | .maddD .. | .msubS .. | .msubD .. | .nmaddS .. | .nmaddD .. | .nmsubS .. | .nmsubD .. | .cFS ..
  | .cUnS .. | .cEqS .. | .cUeqS .. | .cOltS .. | .cUltS .. | .cOleS .. | .cUleS .. | .cSfS .. | .cNgleS ..
  | .cSeqS .. | .cNglS .. | .cLtS .. | .cNgeS .. | .cLeS .. | .cNgtS .. | .cFD .. | .cUnD .. | .cEqD ..
  | .cUeqD .. | .cOltD .. | .cUltD .. | .cOleD .. | .cUleD .. | .cSfD .. | .cNgleD .. | .cSeqD ..
  | .cNglD .. | .cLtD .. | .cNgeD .. | .cLeD .. | .cNgtD .. | .cvtWS .. | .cvtLS .. | .roundWS ..
  | .truncWS .. | .ceilWS .. | .floorWS .. | .roundLS .. | .truncLS .. | .ceilLS .. | .floorLS ..
  | .cvtWD .. | .cvtLD .. | .roundWD .. | .truncWD .. | .ceilWD .. | .floorWD .. | .roundLD ..
  | .truncLD .. | .ceilLD .. | .floorLD .. | .cvtSD .. | .cvtSW .. | .cvtSL .. | .cvtDS .. | .cvtDW ..
  | .cvtDL .. => true

end Sys2Proof
end

