-- ==== Sys2Proof/Certificates/Slice0/Obligations.lean ====
section
/-! DEFINITION. The statements for the provers. -/

open Sys2Proof Sys2Proof.Machine

/-! ### The machine as a whole -/

/-- What reset leaves in the fields the spec gives a value (10_state R120; 60_exceptions R623, R672). -/
def Obligations.ResetFields : Prop :=
  State.reset.pc = 0xFFFFFFFFBFC00000#64 ∧ State.reset.next = none ∧ State.reset.bev = true
    ∧ State.reset.erl = true ∧ State.reset.cp0.status.getLsbD 20 = false ∧ State.reset.cp0.random = 47#6
    ∧ State.reset.cp0.wired = 0#32 ∧ State.reset.mode = .ok .kernel

/-- The invariant holds after reset. -/
def Obligations.ResetHoldsInvariant : Prop := State.reset.Inv

/-- Every step keeps the invariant: canonical memory, reserved bits of Status, FCR31 and CacheErr zero, Config.EC and
CacheErr.EC not at their reserved values, Random in range, the HI/LO guards, the CP0 hazard window and the write buffer within their bounds. -/
def Obligations.StepKeepsInvariant : Prop := ∀ s t : State, s.Inv → step s = .next t → t.Inv

/-- When no event is pending and the word at the pc decodes, a step is the instruction's execution, by which the
recent CP0 writes are one instruction further back, followed by the passing of time, which touches Count, Random, the
timer latch, the injected errors and the model's own counters only: the latch is set when Compare is among the values
Count passes, and never cleared. The word fetched is four bytes, in the byte order of memory, each the byte at the
translated pc or one of the older ones that stores have left for a fetch through its attribute; a misaligned pc, the
exceptions of its translation, and an injected Cache or Bus Error and an address at which nothing answers are the
exceptions the step takes. That an event comes before the instruction, how far Count moves, and how Random, the inputs
and the model's own record of the condition codes move at the end of a step are the model's choice (logs 13, 14, 15,
16, 35). CacheErr gets ER = 0 from the Cache Error of a fetch (log 41). -/
def Obligations.StepRunsDecodedInstruction : Prop :=
  (∀ (s : State) (w : BitVec 32) (i : Instr), takeEvent s = none → fetch s = .ok w → decode w = .ok i →
    (∀ t, exec i s = .next t → step s = .next (tick s (ageRecent t))) ∧ (∀ f, exec i s = .fault f → step s = .fault f)
      ∧ (∀ r, exec i s = .refused r → step s = .refused r))
  ∧ (∀ (s : State) (pa : PAddr) (attr : BitVec 3), FetchesFrom s pa attr →
      s.pins.fetchCacheError = none ∨ s.de = true → s.pins.fetchBusError = false →
      regionAt s.physMap pa.toNat = .ram ∨ regionAt s.physMap pa.toNat = .rom →
      ∃ (w : BitVec 32) (b : Nat → Byte), fetch s = .ok w
        ∧ (∀ k, k < 4 → b k = memRead s.mem (pa.toNat + k) ∨ b k ∈ s.oldBytes attr (pa.toNat + k))
        ∧ w.toNat = ((List.range 4).map fun k =>
            (b k).toNat * 256 ^ (if s.bigEndianMem then 3 - k else k)).sum)
  ∧ (∀ s : State, takeEvent s = none →
      let takes := fun e : Exc => step s = .next (tick s (takeException e s))
      (s.pc.toNat % 4 ≠ 0 → takes (.addressError false s.pc))
      ∧ (s.pc.toNat % 4 = 0 → (s.view true).reverseEndian = false →
          ∀ e, translate (s.view true) .fetch s.pc = .error (.exc e) → takes e)
      ∧ ∀ pa attr, FetchesFrom s pa attr →
        (∀ p, s.pins.fetchCacheError = some p → s.de = false → takes (.cacheError
            { er := false, ed := p.1.ed, et := p.1.et, es := p.1.es, ee := p.1.ee, eb := p.2 }))
        ∧ (s.pins.fetchCacheError = none ∨ s.de = true →
            s.pins.fetchBusError = true ∨ regionAt s.physMap pa.toNat = .none → takes .busErrorFetch))
  ∧ (∀ t : State, ageRecent t = { t with recent := (ageRecent t).recent }
      ∧ ∀ o, o ∈ (ageRecent t).recent ↔ ∃ p ∈ t.recent, 1 < p.left ∧ o = { p with left := p.left - 1 })
  ∧ ∀ s t : State, (tick s t).pc = t.pc ∧ (tick s t).next = t.next ∧ (tick s t).llbit = t.llbit
      ∧ Keeps { cp0 := true, latch := true, hold := true, window := true }
          { t with pins := (tick s t).pins, fccPrev := s.fccAll, draws := (tick s t).draws } (tick s t)
      ∧ (tick s t).cp0 = { t.cp0 with count := (tick s t).cp0.count, random := (tick s t).cp0.random }
      ∧ (let n := (t.free .countStep).toNat
         (tick s t).cp0.count = t.cp0.count + BitVec.ofNat 32 n
          ∧ ((tick s t).timerLatch = true
              ↔ t.timerLatch = true ∨ ∃ k, 1 ≤ k ∧ k ≤ n ∧ t.cp0.compare = t.cp0.count + BitVec.ofNat 32 k))
      ∧ (tick s t).fccPrev = s.fccAll
      ∧ tick s t =
          { t with
            cp0 := (tick s t).cp0, timerLatch := (tick s t).timerLatch, fccPrev := (tick s t).fccPrev,
            randomHold := (tick s t).randomHold, recent := (tick s t).recent, pins := (tick s t).pins,
            draws := (tick s t).draws }

/-- Words written out from the encoding tables decode to the instructions they stand for, one or more of each
family. -/
def Obligations.DecodesSpecWords : Prop :=
  decode 0x8D220004#32 = .ok (.lw 9#5 2#5 4#16) ∧ decode 0x4C850080#32 = .ok (.lwxc1 4#5 5#5 2#5)
    ∧ decode 0x00851020#32 = .ok (.add 4#5 5#5 2#5) ∧ decode 0x006D1001#32 = .ok (.movt 3#5 3#3 2#5)
    ∧ decode 0x0005103C#32 = .ok (.dsll32 5#5 2#5 0#5) ∧ decode 0x0085001A#32 = .ok (.div 4#5 5#5)
    ∧ decode 0x04930010#32 = .ok (.bgezall 4#5 16#16) ∧ decode 0x4507FFFF#32 = .ok (.bc1tl 1#3 0xFFFF#16)
    ∧ decode 0x0007000D#32 = .ok (.brk 0x1C00#20) ∧ decode 0x048EFFFF#32 = .ok (.tnei 4#5 0xFFFF#16)
    ∧ decode 0x42000018#32 = .ok .eret ∧ decode 0xBC890000#32 = .ok (.cache 4#5 0x09#5 0#16)
    ∧ decode 0x44C8F800#32 = .ok (.ctc1 8#5 31#5) ∧ decode 0x462D2091#32 = .ok (.movtD 3#3 4#5 2#5)
    ∧ decode 0x4CC41031#32 = .ok (.nmaddD 6#5 4#5 2#5 0#5) ∧ decode 0x4624113C#32 = .ok (.cLtD 4#5 2#5 1#3)
    ∧ decode 0x46A01021#32 = .ok (.cvtDL 2#5 0#5)

/-- Decoding the word of any instruction, with every operand at every value, gives the instruction back. -/
def Obligations.DecodeOfEncode : Prop := ∀ i : Instr, decode (encode i) = .ok i

/-- A word that decodes is the encoding of what it decodes to: no bit of it is dropped. -/
def Obligations.EncodeOfDecode : Prop := ∀ (w : BitVec 32) (i : Instr), decode w = .ok i → encode i = w

/-- In User mode, as an instruction sees the mode, with CP0 not seen as usable, no instruction changes the TLB, and
none changes the CP0 registers, LLAddr excepted, the timer latch or the state of the caches unless it takes an
exception, FCR31 written before it where it is the Floating-Point exception. -/
def Obligations.UserModeKeepsSystemState : Prop :=
  ∀ (i : Instr) (s t : State), s.seen.exl = false → s.seen.erl = false → s.seen.ksu = 2#2 → s.cu 0 = false →
    exec i s = .next t →
    t.tlb = s.tlb
    ∧ ((∃ e, t = takeException e s) ∨ (∃ f31, t = takeException .floatingPoint { s with fcr31 := f31 })
      ∨ (t.cp0 = { s.cp0 with llAddr := t.cp0.llAddr } ∧ t.timerLatch = s.timerLatch ∧ t.caches = s.caches))

/-- An instruction of a coprocessor unit that is not usable takes Coprocessor Unusable with the unit's number
before anything else, for unit 0 in a mode below Kernel as the instruction sees it (log 8). -/
def Obligations.UnusableUnitTraps : Prop :=
  ∀ (i : Instr) (u : BitVec 2) (s : State), unitOf i = some u → s.cu u.toNat = false →
    (u = 0#2 → BelowKernel s.seen) → Takes i s (.coprocessorUnusable u)

/-- A 64-bit operation below Kernel mode without SX, UX takes Reserved Instruction. A MIPS IV instruction with CU3 = 0
takes Reserved Instruction in User mode; in Kernel and Supervisor mode it has no defined meaning and is refused
(log 30). The mode and SX, UX are those the instruction sees (log 8). -/
def Obligations.GatedInstructions : Prop :=
  ∀ (i : Instr) (s : State), UnitMarked i s →
    (needs64 i = true → BelowKernel s.seen → ¬Enabled64 s.seen → Takes i s .reservedInstruction)
    ∧ (needsMips4 i = true → s.cu 3 = false →
      (BelowKernel s.seen → s.seen.ksu = 2#2 → Takes i s .reservedInstruction)
      ∧ (KernelMode s.seen ∨ (BelowKernel s.seen ∧ s.seen.ksu = 1#2) → exec i s = .refused .mips4NotEnabled))

/-! ### Integer arithmetic, logic, comparison, conditional moves (41_alu) -/

/-- The logical instructions work on all 64 bits, the immediates zero-extended; LUI gives the sign-extended word;
SLT, SLTU, SLTI, SLTIU compare all 64 bits, the immediate sign-extended first. -/
def Obligations.LogicAndSetOnLess : Prop :=
  ∀ (s : State) (rs rt rd : Reg) (imm : BitVec 16),
    WritesGpr (.and rs rt rd) s rd (s.gpr rs &&& s.gpr rt)
    ∧ WritesGpr (.or rs rt rd) s rd (s.gpr rs ||| s.gpr rt)
    ∧ WritesGpr (.xor rs rt rd) s rd (s.gpr rs ^^^ s.gpr rt)
    ∧ WritesGpr (.nor rs rt rd) s rd (~~~(s.gpr rs ||| s.gpr rt))
    ∧ WritesGpr (.andi rs rt imm) s rt (s.gpr rs &&& BitVec.ofNat 64 imm.toNat)
    ∧ WritesGpr (.ori rs rt imm) s rt (s.gpr rs ||| BitVec.ofNat 64 imm.toNat)
    ∧ WritesGpr (.xori rs rt imm) s rt (s.gpr rs ^^^ BitVec.ofNat 64 imm.toNat)
    ∧ WritesGpr (.lui rt imm) s rt (BitVec.ofInt 64 (imm.toInt * 65536))
    ∧ WritesGpr (.slt rs rt rd) s rd (if (s.gpr rs).toInt < (s.gpr rt).toInt then 1#64 else 0#64)
    ∧ WritesGpr (.sltu rs rt rd) s rd (if (s.gpr rs).toNat < (s.gpr rt).toNat then 1#64 else 0#64)
    ∧ WritesGpr (.slti rs rt imm) s rt (if (s.gpr rs).toInt < imm.toInt then 1#64 else 0#64)
    ∧ WritesGpr (.sltiu rs rt imm) s rt
        (if (s.gpr rs).toNat < (BitVec.ofInt 64 imm.toInt).toNat then 1#64 else 0#64)

/-- ADD, SUB, ADDI on sign-extended words: the sum or difference, or Integer Overflow when it leaves 32 bits. ADDU,
SUBU, ADDIU: the result modulo 2^32, sign-extended, without an exception. -/
def Obligations.WordAddSub : Prop :=
  ∀ (s : State) (rs rt rd : Reg) (imm : BitVec 16), HoldsWord (s.gpr rs) →
    (HoldsWord (s.gpr rt) →
      AddsOrTraps (.add rs rt rd) s rd 32 ((s.gpr rs).toInt + (s.gpr rt).toInt)
      ∧ AddsOrTraps (.sub rs rt rd) s rd 32 ((s.gpr rs).toInt - (s.gpr rt).toInt)
      ∧ WritesGpr (.addu rs rt rd) s rd (BitVec.ofInt 64 (((s.gpr rs).toInt + (s.gpr rt).toInt).bmod (2 ^ 32)))
      ∧ WritesGpr (.subu rs rt rd) s rd (BitVec.ofInt 64 (((s.gpr rs).toInt - (s.gpr rt).toInt).bmod (2 ^ 32))))
    ∧ AddsOrTraps (.addi rs rt imm) s rt 32 ((s.gpr rs).toInt + imm.toInt)
    ∧ WritesGpr (.addiu rs rt imm) s rt (BitVec.ofInt 64 (((s.gpr rs).toInt + imm.toInt).bmod (2 ^ 32)))

/-- The doubleword sums and differences: trapping on 64-bit overflow, or modulo 2^64. -/
def Obligations.DoublewordAddSub : Prop :=
  ∀ (s : State) (rs rt rd : Reg) (imm : BitVec 16), Enabled64 s.seen →
    AddsOrTraps (.dadd rs rt rd) s rd 64 ((s.gpr rs).toInt + (s.gpr rt).toInt)
    ∧ AddsOrTraps (.dsub rs rt rd) s rd 64 ((s.gpr rs).toInt - (s.gpr rt).toInt)
    ∧ AddsOrTraps (.daddi rs rt imm) s rt 64 ((s.gpr rs).toInt + imm.toInt)
    ∧ WritesGpr (.daddu rs rt rd) s rd (BitVec.ofInt 64 ((s.gpr rs).toInt + (s.gpr rt).toInt))
    ∧ WritesGpr (.dsubu rs rt rd) s rd (BitVec.ofInt 64 ((s.gpr rs).toInt - (s.gpr rt).toInt))
    ∧ WritesGpr (.daddiu rs rt imm) s rt (BitVec.ofInt 64 ((s.gpr rs).toInt + imm.toInt))

/-- MOVN, MOVZ test all 64 bits of rt; MOVF, MOVT test a condition code that no compare wrote just before. -/
def Obligations.ConditionalMoves : Prop :=
  ∀ (s : State) (rs rt rd : Reg) (cc : BitVec 3), s.cu 3 = true →
    MovesIf (.movn rs rt rd) s (s.gpr rt ≠ 0#64) rd (s.gpr rs)
    ∧ MovesIf (.movz rs rt rd) s (s.gpr rt = 0#64) rd (s.gpr rs)
    ∧ (s.cu 1 = true → s.fccPrev.getLsbD cc.toNat = s.fcc cc →
        MovesIf (.movf rs cc rd) s (s.fcc cc = false) rd (s.gpr rs)
        ∧ MovesIf (.movt rs cc rd) s (s.fcc cc = true) rd (s.gpr rs))

/-! ### Shifts (42_shift) -/

/-- The word shifts: left on the low word of any source, right on a sign-extended word, the result sign-extended, a
variable amount modulo 32. The doubleword shifts: by 0 to 31, by 32 to 63, and by a register modulo 64. -/
def Obligations.Shifts : Prop :=
  (∀ (s : State) (rs rt rd : Reg) (sa : BitVec 5),
    WritesGpr (.sll rt rd sa) s rd (BitVec.ofInt 64 (((s.gpr rt).toInt * 2 ^ sa.toNat).bmod (2 ^ 32)))
    ∧ WritesGpr (.sllv rs rt rd) s rd
        (BitVec.ofInt 64 (((s.gpr rt).toInt * 2 ^ ((s.gpr rs).toNat % 32)).bmod (2 ^ 32)))
    ∧ (HoldsWord (s.gpr rt) →
        WritesGpr (.srl rt rd sa) s rd
          (BitVec.ofInt 64 ((((s.gpr rt).toNat % 2 ^ 32 / 2 ^ sa.toNat : Nat) : Int).bmod (2 ^ 32)))
        ∧ WritesGpr (.srlv rs rt rd) s rd
          (BitVec.ofInt 64 ((((s.gpr rt).toNat % 2 ^ 32 / 2 ^ ((s.gpr rs).toNat % 32) : Nat) : Int).bmod (2 ^ 32)))
        ∧ WritesGpr (.sra rt rd sa) s rd (BitVec.ofInt 64 ((s.gpr rt).toInt / 2 ^ sa.toNat))
        ∧ WritesGpr (.srav rs rt rd) s rd (BitVec.ofInt 64 ((s.gpr rt).toInt / 2 ^ ((s.gpr rs).toNat % 32)))))
  ∧ (∀ (s : State) (rs rt rd : Reg) (sa : BitVec 5), Enabled64 s.seen →
    WritesGpr (.dsll rt rd sa) s rd (BitVec.ofNat 64 ((s.gpr rt).toNat * 2 ^ sa.toNat))
    ∧ WritesGpr (.dsrl rt rd sa) s rd (BitVec.ofNat 64 ((s.gpr rt).toNat / 2 ^ sa.toNat))
    ∧ WritesGpr (.dsra rt rd sa) s rd (BitVec.ofInt 64 ((s.gpr rt).toInt / 2 ^ sa.toNat))
    ∧ WritesGpr (.dsll32 rt rd sa) s rd (BitVec.ofNat 64 ((s.gpr rt).toNat * 2 ^ (sa.toNat + 32)))
    ∧ WritesGpr (.dsrl32 rt rd sa) s rd (BitVec.ofNat 64 ((s.gpr rt).toNat / 2 ^ (sa.toNat + 32)))
    ∧ WritesGpr (.dsra32 rt rd sa) s rd (BitVec.ofInt 64 ((s.gpr rt).toInt / 2 ^ (sa.toNat + 32)))
    ∧ WritesGpr (.dsllv rs rt rd) s rd (BitVec.ofNat 64 ((s.gpr rt).toNat * 2 ^ ((s.gpr rs).toNat % 64)))
    ∧ WritesGpr (.dsrlv rs rt rd) s rd (BitVec.ofNat 64 ((s.gpr rt).toNat / 2 ^ ((s.gpr rs).toNat % 64)))
    ∧ WritesGpr (.dsrav rs rt rd) s rd (BitVec.ofInt 64 ((s.gpr rt).toInt / 2 ^ ((s.gpr rs).toNat % 64))))

/-! ### Multiply, divide, HI and LO (43_muldiv) -/

/-- The products: of words in the low words of HI and LO, each sign-extended; of doublewords in HI and LO. -/
def Obligations.Products : Prop :=
  ∀ (s : State) (rs rt : Reg), NoHiLoHazard s →
    (HoldsWord (s.gpr rs) → HoldsWord (s.gpr rt) →
      SetsHiLo (.mult rs rt) s (fun h l => HoldsWord h ∧ HoldsWord l
        ∧ (low h ++ low l).toInt = (s.gpr rs).toInt * (s.gpr rt).toInt)
      ∧ SetsHiLo (.multu rs rt) s (fun h l => HoldsWord h ∧ HoldsWord l
        ∧ (low h ++ low l).toNat = ((s.gpr rs).toNat % 2 ^ 32) * ((s.gpr rt).toNat % 2 ^ 32)))
    ∧ (Enabled64 s.seen →
      SetsHiLo (.dmult rs rt) s (fun h l => (h ++ l).toInt = (s.gpr rs).toInt * (s.gpr rt).toInt)
      ∧ SetsHiLo (.dmultu rs rt) s (fun h l => (h ++ l).toNat = (s.gpr rs).toNat * (s.gpr rt).toNat))

/-- The quotient truncated toward zero in LO and the remainder, with the dividend's sign, in HI, for a divisor other
than 0 and not the most negative number by -1. -/
def Obligations.Quotients : Prop :=
  ∀ (s : State) (rs rt : Reg), NoHiLoHazard s →
    (HoldsWord (s.gpr rs) → HoldsWord (s.gpr rt) → s.gpr rt ≠ 0#64 →
      (¬((s.gpr rs).toInt = -2 ^ 31 ∧ (s.gpr rt).toInt = -1) →
        SetsHiLo (.div rs rt) s (fun h l => HoldsWord h ∧ HoldsWord l
          ∧ l.toInt = (s.gpr rs).toInt.tdiv (s.gpr rt).toInt ∧ h.toInt = (s.gpr rs).toInt.tmod (s.gpr rt).toInt))
      ∧ SetsHiLo (.divu rs rt) s (fun h l => HoldsWord h ∧ HoldsWord l
          ∧ (low l).toNat = (s.gpr rs).toNat % 2 ^ 32 / ((s.gpr rt).toNat % 2 ^ 32)
          ∧ (low h).toNat = (s.gpr rs).toNat % 2 ^ 32 % ((s.gpr rt).toNat % 2 ^ 32)))
    ∧ (Enabled64 s.seen → s.gpr rt ≠ 0#64 →
      (¬((s.gpr rs).toInt = -2 ^ 63 ∧ (s.gpr rt).toInt = -1) →
        SetsHiLo (.ddiv rs rt) s (fun h l =>
          l.toInt = (s.gpr rs).toInt.tdiv (s.gpr rt).toInt ∧ h.toInt = (s.gpr rs).toInt.tmod (s.gpr rt).toInt))
      ∧ SetsHiLo (.ddivu rs rt) s (fun h l =>
          l.toNat = (s.gpr rs).toNat / (s.gpr rt).toNat ∧ h.toNat = (s.gpr rs).toNat % (s.gpr rt).toNat))

/-- A multiply or divide on any operands, a zero divisor and operands that are no words included, runs: only HI and
LO are open then (the model's choice, log 10 and 11). -/
def Obligations.MulDivAlwaysRuns : Prop :=
  ∀ (s : State) (rs rt : Reg), NoHiLoHazard s →
    SetsHiLo (.mult rs rt) s (fun _ _ => True) ∧ SetsHiLo (.multu rs rt) s (fun _ _ => True)
    ∧ SetsHiLo (.div rs rt) s (fun _ _ => True) ∧ SetsHiLo (.divu rs rt) s (fun _ _ => True)
    ∧ (Enabled64 s.seen → SetsHiLo (.ddiv rs rt) s (fun _ _ => True) ∧ SetsHiLo (.ddivu rs rt) s (fun _ _ => True))

/-- MFHI and MFLO copy HI and LO; MTHI and MTLO write one of them and keep the other unless it holds an arithmetic
result. With HILO_HAZARD, writing HI within two instructions after MFHI, or LO after MFLO, is unpredictable and stops
by name: MFHI and MFLO set their guard to 2, every other instruction that completes counts both down by one, and one
that takes an exception leaves them (log 9). -/
def Obligations.HiLoMoves : Prop :=
  (∀ (i : Instr) (s t : State), exec i s = .next t →
    (∀ rd, i = .mfhi rd → t.hiGuard = 2 ∧ t.loGuard = s.loGuard - 1)
    ∧ (∀ rd, i = .mflo rd → t.loGuard = 2 ∧ t.hiGuard = s.hiGuard - 1)
    ∧ ((∀ rd, i ≠ .mfhi rd ∧ i ≠ .mflo rd) →
        (t.hiGuard = s.hiGuard - 1 ∧ t.loGuard = s.loGuard - 1)
        ∨ ∃ e f31, t = takeException e { s with fcr31 := f31 } ∧ t.hiGuard = s.hiGuard ∧ t.loGuard = s.loGuard))
  ∧ ∀ (s : State) (rs rt rd : Reg),
    WritesGpr (.mfhi rd) s rd s.hi ∧ WritesGpr (.mflo rd) s rd s.lo
    ∧ (NoHiLoHazard s →
      (Effects (.mthi rs) s { hiLo := true } fun t => t.hi = s.gpr rs ∧ t.hiTag = .moved ∧ t.loTag = s.loTag
        ∧ (s.loTag = .moved → t.lo = s.lo))
      ∧ (Effects (.mtlo rs) s { hiLo := true } fun t => t.lo = s.gpr rs ∧ t.loTag = .moved ∧ t.hiTag = s.hiTag
        ∧ (s.hiTag = .moved → t.hi = s.hi)))
    ∧ (s.hiloHazard = true → 0 < s.hiGuard → exec (.mthi rs) s = .refused .hiLoHazard)
    ∧ (s.hiloHazard = true → 0 < s.loGuard → exec (.mtlo rs) s = .refused .hiLoHazard)
    ∧ (s.hiloHazard = true → 0 < s.hiGuard ∨ 0 < s.loGuard →
      (∀ i ∈ [Instr.mult rs rt, .multu rs rt, .div rs rt, .divu rs rt], exec i s = .refused .hiLoHazard)
      ∧ (Enabled64 s.seen → ∀ i ∈ [Instr.dmult rs rt, .dmultu rs rt, .ddiv rs rt, .ddivu rs rt],
        exec i s = .refused .hiLoHazard))

/-! ### Jumps and branches (44_jump_branch) -/

/-- The jumps: the delay slot next, then the target; JAL and JALR leave pc + 8 in their link register. -/
def Obligations.Jumps : Prop :=
  ∀ (s : State) (rs rd : Reg) (target : BitVec 26), s.next = none →
    let there : Word := (s.pc + 4#64).extractLsb' 28 36 ++ target ++ 0#2
    (Completes (exec (.j target) s) fun t => GoesTo s t there ∧ Keeps {} s t)
    ∧ (Completes (exec (.jal target) s) fun t =>
        GoesTo s t there ∧ t.gpr 31#5 = s.pc + 8#64 ∧ Keeps { gprs := [31#5] } s t)
    ∧ (Completes (exec (.jr rs) s) fun t => GoesTo s t (s.gpr rs) ∧ Keeps {} s t)
    ∧ (rd ≠ rs → Completes (exec (.jalr rs rd) s) fun t =>
        GoesTo s t (s.gpr rs) ∧ t.gpr rd = (if rd = 0#5 then 0#64 else s.pc + 8#64) ∧ Keeps { gprs := [rd] } s t)

/-- The conditional branches on the general registers, all 64 bits compared; not taken, an ordinary branch runs its
delay slot and a branch-likely nullifies it. -/
def Obligations.RegisterBranches : Prop :=
  ∀ (s : State) (rs rt : Reg) (offset : BitVec 16), s.next = none →
    BranchesIf (.beq rs rt offset) s (s.gpr rs = s.gpr rt) offset {}
    ∧ BranchesIf (.bne rs rt offset) s (s.gpr rs ≠ s.gpr rt) offset {}
    ∧ BranchesIf (.blez rs offset) s ((s.gpr rs).toInt ≤ 0) offset {}
    ∧ BranchesIf (.bgtz rs offset) s (0 < (s.gpr rs).toInt) offset {}
    ∧ BranchesIf (.bltz rs offset) s ((s.gpr rs).toInt < 0) offset {}
    ∧ BranchesIf (.bgez rs offset) s (0 ≤ (s.gpr rs).toInt) offset {}
    ∧ BranchesLikely (.beql rs rt offset) s (s.gpr rs = s.gpr rt) offset {}
    ∧ BranchesLikely (.bnel rs rt offset) s (s.gpr rs ≠ s.gpr rt) offset {}
    ∧ BranchesLikely (.blezl rs offset) s ((s.gpr rs).toInt ≤ 0) offset {}
    ∧ BranchesLikely (.bgtzl rs offset) s (0 < (s.gpr rs).toInt) offset {}
    ∧ BranchesLikely (.bltzl rs offset) s ((s.gpr rs).toInt < 0) offset {}
    ∧ BranchesLikely (.bgezl rs offset) s (0 ≤ (s.gpr rs).toInt) offset {}

/-- The linking branches write pc + 8 to register 31 whether or not they are taken. -/
def Obligations.LinkingBranches : Prop :=
  ∀ (s : State) (rs : Reg) (offset : BitVec 16), s.next = none → rs ≠ 31#5 →
    (BranchesIf (.bltzal rs offset) s ((s.gpr rs).toInt < 0) offset { gprs := [31#5] }
      ∧ LinksTo (.bltzal rs offset) s 31#5)
    ∧ (BranchesIf (.bgezal rs offset) s (0 ≤ (s.gpr rs).toInt) offset { gprs := [31#5] }
      ∧ LinksTo (.bgezal rs offset) s 31#5)
    ∧ (BranchesLikely (.bltzall rs offset) s ((s.gpr rs).toInt < 0) offset { gprs := [31#5] }
      ∧ LinksTo (.bltzall rs offset) s 31#5)
    ∧ (BranchesLikely (.bgezall rs offset) s (0 ≤ (s.gpr rs).toInt) offset { gprs := [31#5] }
      ∧ LinksTo (.bgezall rs offset) s 31#5)

/-- The four branches on a condition code that no compare wrote just before. -/
def Obligations.ConditionCodeBranches : Prop :=
  ∀ (s : State) (cc : BitVec 3) (offset : BitVec 16), s.next = none → s.cu 1 = true →
    (cc = 0#3 ∨ s.cu 3 = true) → s.fccPrev.getLsbD cc.toNat = s.fcc cc →
    BranchesIf (.bc1f cc offset) s (s.fcc cc = false) offset {}
    ∧ BranchesIf (.bc1t cc offset) s (s.fcc cc = true) offset {}
    ∧ BranchesLikely (.bc1fl cc offset) s (s.fcc cc = false) offset {}
    ∧ BranchesLikely (.bc1tl cc offset) s (s.fcc cc = true) offset {}

/-- What the spec leaves unpredictable among the jumps stops by name: a jump or branch in a delay slot, JALR with
rd = rs, a linking branch that tests register 31, ERET in a delay slot (log 31). -/
def Obligations.UnpredictableJumpsStop : Prop :=
  (∀ (i : Instr) (s : State), isJump i = true → s.next ≠ none → UnitMarked i s →
    (needsMips4 i = true → s.cu 3 = true) → exec i s = .refused .branchInDelaySlot)
  ∧ ∀ (s : State) (rs : Reg) (offset : BitVec 16),
    (s.next = none →
      exec (.jalr rs rs) s = .refused .linkRegisterSource
      ∧ exec (.bltzal 31#5 offset) s = .refused .linkRegisterSource
      ∧ exec (.bgezal 31#5 offset) s = .refused .linkRegisterSource
      ∧ exec (.bltzall 31#5 offset) s = .refused .linkRegisterSource
      ∧ exec (.bgezall 31#5 offset) s = .refused .linkRegisterSource)
    ∧ (s.next ≠ none → Cp0Usable s → exec .eret s = .refused .eretInDelaySlot)

/-! ### System calls, traps, no-ops (45_trap_system, 40_load_store) -/

/-- SYSCALL and BREAK take their exceptions, whatever their code field; SYNC, PREF and PREFX change nothing but the
pc, the write buffer included; that after SYNC every store to a device has been seen by it is a record of the model's
own (log 48). -/
def Obligations.SystemCallsAndNoOperations : Prop :=
  ∀ (s : State) (code : BitVec 20) (base index : Reg) (stype hint : BitVec 5) (offset : BitVec 16),
    Takes (.syscall code) s .syscall ∧ Takes (.brk code) s .breakpoint
    ∧ (Effects (.sync stype) s { buffer := true } fun t => t.writeBuffer = s.writeBuffer ∧ t.deviceStores = [])
    ∧ (s.cu 3 = true → ChangesNothing (.pref base hint offset) s
      ∧ (s.cu 1 = true → ChangesNothing (.prefx base index hint) s))

/-- The twelve trap instructions trap exactly when their 64-bit comparison holds, and otherwise do nothing; the Trap
exception goes to the common vector with code 13 and records EPC and BD. -/
def Obligations.ConditionalTraps : Prop :=
  (∀ s : State, (takeException .trap s).cp0.cause.extractLsb' 2 5 = 13#5
    ∧ (takeException .trap s).pc = (if s.bev then 0xFFFFFFFFBFC00380#64 else 0xFFFFFFFF80000180#64)
    ∧ (s.exl = false → (takeException .trap s).cp0.cause.getLsbD 31 = s.next.isSome
        ∧ (takeException .trap s).cp0.epc = (if s.next.isSome then s.pc - 4#64 else s.pc)))
  ∧ ∀ (s : State) (rs rt : Reg) (code : BitVec 10) (imm : BitVec 16),
    TrapsIf (.tge rs rt code) s ((s.gpr rt).toInt ≤ (s.gpr rs).toInt)
    ∧ TrapsIf (.tgeu rs rt code) s ((s.gpr rt).toNat ≤ (s.gpr rs).toNat)
    ∧ TrapsIf (.tlt rs rt code) s ((s.gpr rs).toInt < (s.gpr rt).toInt)
    ∧ TrapsIf (.tltu rs rt code) s ((s.gpr rs).toNat < (s.gpr rt).toNat)
    ∧ TrapsIf (.teq rs rt code) s (s.gpr rs = s.gpr rt)
    ∧ TrapsIf (.tne rs rt code) s (s.gpr rs ≠ s.gpr rt)
    ∧ TrapsIf (.tgei rs imm) s (imm.toInt ≤ (s.gpr rs).toInt)
    ∧ TrapsIf (.tgeiu rs imm) s ((BitVec.ofInt 64 imm.toInt).toNat ≤ (s.gpr rs).toNat)
    ∧ TrapsIf (.tlti rs imm) s ((s.gpr rs).toInt < imm.toInt)
    ∧ TrapsIf (.tltiu rs imm) s ((s.gpr rs).toNat < (BitVec.ofInt 64 imm.toInt).toNat)
    ∧ TrapsIf (.teqi rs imm) s ((s.gpr rs).toInt = imm.toInt)
    ∧ TrapsIf (.tnei rs imm) s ((s.gpr rs).toInt ≠ imm.toInt)

/-! ### CP0 and the TLB (46_cp0, 20_memory) -/

/-- MFC0 delivers the low word of a CP0 register sign-extended; DMFC0 all 64 bits of a 64-bit one. The register is read
as it is seen: with no CP0 or TLB write in the last CP0_HAZARD instructions as it is, otherwise as it is or as it was
before one of those writes (log 8). Both are so in every mode in which CP0 is usable, DMFC0 where 64-bit operations
are enabled. CacheErr reads as it was loaded, EC and bits 24:0 as zero. -/
def Obligations.Cp0Reads : Prop :=
  ∀ (s : State) (rt rd : Reg),
    (Cp0Usable s →
      WritesGpr (.mfc0 rt rd) s rt ((s.seen.cp0Read rd).extractLsb' 0 32 |>.signExtend 64)
      ∧ (Enabled64 s.seen → WritesGprWith (.dmfc0 rt rd) s rt (fun v =>
          v.extractLsb' 0 32 = (s.seen.cp0Read rd).extractLsb' 0 32
          ∧ (rd.toNat ∈ [2, 3, 4, 8, 10, 14, 20, 30] → v = s.seen.cp0Read rd))))
    ∧ (s.recent = [] → s.seen = s)
    ∧ (rd ≠ 13#5 → s.seen.cp0Read rd = s.cp0Read rd
        ∨ ∃ o ∈ s.recent, s.seen.cp0Read rd = ({ s with cp0 := o.cp0 } : State).cp0Read rd)
    ∧ ∀ k, (s.cp0Read 27#5).getLsbD k = (s.cp0.cacheErr.getLsbD k && decide (k ∈ [31, 29, 28, 27, 26, 25]))

/-- The fields of each CP0 register that a write changes are those of the table; all its other bits stay. -/
def Obligations.Cp0WritableFields : Prop :=
  ∀ (s : State) (v : Word), ∀ p ∈ [((0 : Nat), 0x3F#64), (1, 0#64), (2, 0x3FFFFFFF#64), (3, 0x3FFFFFFF#64),
      (4, 0xFFFFFFFFFF800000#64), (5, 0x01FFE000#64), (6, 0x3F#64), (8, 0#64), (9, 0xFFFFFFFF#64),
      (10, 0xC00000FFFFFFE0FF#64), (11, 0xFFFFFFFF#64), (12, 0xF657FFFF#64), (13, 0x300#64),
      (14, 0xFFFFFFFFFFFFFFFF#64), (15, 0#64), (16, 0x1007#64), (17, 0xFFFFFFFF#64), (20, 0xFFFFFFFE00000000#64),
      (26, 0xFF#64), (27, 0#64), (28, 0xFFFFFFFF#64), (29, 0xFFFFFFFF#64), (30, 0xFFFFFFFFFFFFFFFF#64)],
    (cp0Write (BitVec.ofNat 5 p.1) v s).cp0Read (BitVec.ofNat 5 p.1)
      = (s.cp0Read (BitVec.ofNat 5 p.1) &&& ~~~p.2) ||| (v &&& p.2)

/-- MTC0 and DMTC0 write the register they name, and no other CP0 register but Random (by Wired) and Cause.IP(7) (by
Count and Compare): a write of Compare clears the timer latch, one of Count keeps it, and whether one that makes the two
equal sets it is open. A write of Status that changes FR leaves the FPU registers undefined, and a write of Config that
sets SE leaves no line of the secondary cache invalidated. MTC0 of a sign-extended word writes all 64 bits of a 64-bit
register, of another value the low word. The state before is what the next CP0_HAZARD instructions may still see
(log 8). All this in every mode in which CP0 is usable, DMTC0 where 64-bit operations are enabled. -/
def Obligations.Cp0Writes : Prop :=
  ∀ (s : State) (rt rd : Reg), Cp0Usable s →
    let v := low (s.gpr rt)
    let writes := fun (i : Instr) (p : State → Prop) =>
      Effects i s
        { cp0 := true, latch := rd == 9#5 || rd == 11#5, hold := rd == 6#5, caches := rd == 16#5, window := true,
          fgrs := if rd = 12#5 then allRegs else [] }
        fun t => p t ∧ OpensWindow s t
          ∧ (∀ m, m ≠ rd → ¬(rd = 6#5 ∧ m = 1#5) → ¬((rd = 9#5 ∨ rd = 11#5) ∧ m = 13#5) → t.cp0Read m = s.cp0Read m)
          ∧ (rd = 9#5 ∨ rd = 11#5 → t.cp0Read 13#5 &&& ~~~0x8000#64 = s.cp0Read 13#5 &&& ~~~0x8000#64)
          ∧ (rd = 6#5 → t.cp0.random = 47#6 ∧ t.randomHold = true)
          ∧ (rd = 9#5 → s.timerLatch = true ∨ v ≠ s.cp0.compare → t.timerLatch = s.timerLatch)
          ∧ (rd = 11#5 → v ≠ s.cp0.count → t.timerLatch = false)
          ∧ (rd = 12#5 → v.getLsbD 26 = s.cp0.status.getLsbD 26 → ∀ i, t.fgrRead i = s.fgrRead i)
          ∧ (rd = 16#5 → t.caches = if s.se = false ∧ v.getLsbD 12 = true then { s.caches with secondary := 0#65536 }
              else s.caches)
    (∀ i, (i = Instr.dmtc0 rt rd ∧ Enabled64 s.seen) ∨ (i = Instr.mtc0 rt rd ∧ HoldsWord (s.gpr rt)) →
      writes i fun t => t.cp0Read rd = (cp0Write rd (s.gpr rt) s).cp0Read rd)
    ∧ writes (.mtc0 rt rd) fun t =>
        (t.cp0Read rd).extractLsb' 0 32 = ((cp0Write rd (s.gpr rt) s).cp0Read rd).extractLsb' 0 32

/-- TLBWI writes the entry Index names and TLBWR the one Random names, from PageMask, EntryHi and EntryLo; no other
entry changes, and the entry counts as initialised by software (log 24). The state before is what the next CP0_HAZARD
instructions may still see. An Index above 47 and a Wired above 47 have no next state. The registers are read as they
are seen (log 8). -/
def Obligations.TlbWrites : Prop :=
  ∀ s : State, Cp0Usable s →
    let v := s.seen
    (∀ (n : Fin 48) (i : Instr),
      (i = .tlbwi ∧ (v.cp0.index &&& 0x3F#32).toNat = n.val)
        ∨ (i = .tlbwr ∧ v.cp0.random.toNat = n.val ∧ (v.cp0.wired &&& 0x3F#32).toNat ≤ 47) →
      Effects i s { tlb := true, window := true } fun t =>
        t.tlb[n] =
          { mask := v.cp0.pageMask.extractLsb' 13 12, r := v.cp0.entryHi.extractLsb' 62 2,
            vpn2 := v.cp0.entryHi.extractLsb' 13 27, asid := v.cp0.entryHi.extractLsb' 0 8,
            g := v.cp0.entryLo0.getLsbD 0 && v.cp0.entryLo1.getLsbD 0,
            pfn0 := v.cp0.entryLo0.extractLsb' 6 24, c0 := v.cp0.entryLo0.extractLsb' 3 3,
            d0 := v.cp0.entryLo0.getLsbD 2, v0 := v.cp0.entryLo0.getLsbD 1,
            pfn1 := v.cp0.entryLo1.extractLsb' 6 24, c1 := v.cp0.entryLo1.extractLsb' 3 3,
            d1 := v.cp0.entryLo1.getLsbD 2, v1 := v.cp0.entryLo1.getLsbD 1, written := true }
        ∧ (∀ m : Fin 48, m ≠ n → t.tlb[m] = s.tlb[m]) ∧ OpensWindow s t)
    ∧ (47 < (v.cp0.index &&& 0x3F#32).toNat →
        exec .tlbwi s = .fault .indexAboveTlb ∧ exec .tlbr s = .fault .indexAboveTlb)
    ∧ (47 < (v.cp0.wired &&& 0x3F#32).toNat → exec .tlbwr s = .fault .wiredAboveTlb)

/-- TLBR puts the entry that Index names in PageMask, EntryHi and both EntryLo, VPN2 bits under the mask excepted, and
changes nothing else; the state before is what the next CP0_HAZARD instructions may still see (log 8). -/
def Obligations.TlbReads : Prop :=
  ∀ (s : State) (n : Fin 48), Cp0Usable s → (s.seen.cp0.index &&& 0x3F#32).toNat = n.val →
    Effects .tlbr s { cp0 := true, window := true } fun t =>
      t.cp0.pageMask = s.seen.tlb[n].mask.setWidth 32 <<< 13 ∧ t.cp0.entryHi.extractLsb' 62 2 = s.seen.tlb[n].r
      ∧ t.cp0.entryHi.extractLsb' 13 27 &&& ~~~(s.seen.tlb[n].mask.setWidth 27)
          = s.seen.tlb[n].vpn2 &&& ~~~(s.seen.tlb[n].mask.setWidth 27)
      ∧ t.cp0.entryHi.extractLsb' 0 8 = s.seen.tlb[n].asid
      ∧ t.cp0.entryLo0.extractLsb' 6 24 = s.seen.tlb[n].pfn0 ∧ t.cp0.entryLo0.extractLsb' 3 3 = s.seen.tlb[n].c0
      ∧ t.cp0.entryLo0.getLsbD 2 = s.seen.tlb[n].d0 ∧ t.cp0.entryLo0.getLsbD 1 = s.seen.tlb[n].v0
      ∧ t.cp0.entryLo1.extractLsb' 6 24 = s.seen.tlb[n].pfn1 ∧ t.cp0.entryLo1.extractLsb' 3 3 = s.seen.tlb[n].c1
      ∧ t.cp0.entryLo1.getLsbD 2 = s.seen.tlb[n].d1 ∧ t.cp0.entryLo1.getLsbD 1 = s.seen.tlb[n].v1
      ∧ t.cp0.entryLo0.getLsbD 0 = s.seen.tlb[n].g ∧ t.cp0.entryLo1.getLsbD 0 = s.seen.tlb[n].g
      ∧ t.cp0 =
          { s.cp0 with
            pageMask := t.cp0.pageMask, entryHi := t.cp0.entryHi, entryLo0 := t.cp0.entryLo0,
            entryLo1 := t.cp0.entryLo1 }
      ∧ OpensWindow s t

/-- TLBP sets Index.P when no entry matches EntryHi, and gives the number of the one that does; two matches have no
next state. Nothing but Index changes, and the state before is what the next CP0_HAZARD instructions may still see
(log 8). -/
def Obligations.TlbProbes : Prop :=
  ∀ (s : State), Cp0Usable s → s.seen.masksLegal = true →
    let hit := fun m : Fin 48 => tlbMatches s.seen.tlb[m] (s.seen.cp0.entryHi.extractLsb' 62 2)
      (s.seen.cp0.entryHi.extractLsb' 13 27) (s.seen.cp0.entryHi.extractLsb' 0 8)
    let probes := fun p : State → Prop => Effects .tlbp s { cp0 := true, window := true } fun t => p t ∧ OpensWindow s t
    ((∀ m, hit m = false) → probes fun t =>
      t.cp0.index.getLsbD 31 = true ∧ t.cp0 = { s.cp0 with index := t.cp0.index })
    ∧ (∀ n, hit n = true → (∀ m, hit m = true → m = n) → probes fun t =>
      t.cp0 = { s.cp0 with index := BitVec.ofNat 32 n.val })
    ∧ (∀ n m, hit n = true → hit m = true → n ≠ m → exec .tlbp s = .fault .multipleTlbMatch)

/-- A mapped address: no matching entry is a TLB Refill; with one match an invalid page is TLB Invalid, a store to a
clean page TLB Modified, and otherwise the address is the page frame with the offset; two matches, and
any lookup while an entry's Mask is not one of the table's, have no next state, and a mapped access before every entry
has been written is refused (70_reset_and_hazards R704). An entry matches when R is equal, the
VPN2 bits outside the Mask are equal, and the entry is global or the ASID is equal; the Masks of the table are seven. -/
def Obligations.TlbTranslates : Prop :=
  (∀ (e : TlbEntry) (r : BitVec 2) (vpn2 : BitVec 27) (asid : BitVec 8), tlbMatches e r vpn2 asid = true ↔
    e.r = r ∧ (∀ n, e.mask.getLsbD n = false → e.vpn2.getLsbD n = vpn2.getLsbD n) ∧ (e.g = true ∨ e.asid = asid))
  ∧ (∀ (mask : BitVec 12) (k : Nat), pageLog mask = some k ↔
    (mask.toNat, k) ∈ [(0x000, 0), (0x003, 1), (0x00F, 2), (0x03F, 3), (0x0FF, 4), (0x3FF, 5), (0xFFF, 6)])
  ∧ (∀ s : State, (s.masksLegal = true ↔ ∀ n : Fin 48, ∃ k, pageLog s.tlb[n].mask = some k)
      ∧ (s.tlbReady = true ↔ ∀ n : Fin 48, s.tlb[n].written = true))
  ∧ ∀ (s : State) (acc : Access) (va : Word),
    (s.tlbReady = false → translateMapped s acc va = .error (.refuse .tlbNotInitialised))
    ∧ (s.tlbReady = true → s.masksLegal = false → translateMapped s acc va = .error (.fault .illegalPageMask))
    ∧ (s.tlbReady = true → s.masksLegal = true →
    let hit := fun m : Fin 48 => tlbMatches s.tlb[m] (va.extractLsb' 62 2) (va.extractLsb' 13 27)
      (s.cp0.entryHi.extractLsb' 0 8)
    ((∀ m, hit m = false) → translateMapped s acc va = .error (.exc (.tlbRefill (acc == .store) va)))
    ∧ (∀ n m, hit n = true → hit m = true → n ≠ m → translateMapped s acc va = .error (.fault .multipleTlbMatch))
    ∧ ∀ n k, hit n = true → (∀ m, hit m = true → m = n) → pageLog s.tlb[n].mask = some k →
      let odd := va.getLsbD (12 + 2 * k)
      let valid := if odd then s.tlb[n].v1 else s.tlb[n].v0
      let dirty := if odd then s.tlb[n].d1 else s.tlb[n].d0
      let pfn := if odd then s.tlb[n].pfn1 else s.tlb[n].pfn0
      (valid = false → translateMapped s acc va = .error (.exc (.tlbInvalid (acc == .store) va)))
      ∧ (valid = true → acc = .store → dirty = false → translateMapped s acc va = .error (.exc (.tlbModified va)))
      ∧ (valid = true → (acc = .store → dirty = true) → pfn.toNat % 4 ^ k = 0 → ∃ pa : PAddr,
          translateMapped s acc va = .ok (pa, if odd then s.tlb[n].c1 else s.tlb[n].c0)
          ∧ pa.toNat = pfn.toNat * 4096 + va.toNat % (4096 * 4 ^ k)))

/-- Every address in every mode: the unmapped segments of Kernel mode, the addresses of each mode that go through the
TLB, and those that are an Address Error. -/
def Obligations.Segments : Prop :=
  ∀ (s : State) (acc : Access) (va : Word),
    let a := va.toNat
    let mapped : Prop := translate s acc va = (translateMapped s acc va >>= checkAttr)
    let denied : Prop := translate s acc va = .error (.exc (.addressError (acc == .store) va))
    let wide : Prop := a < 2 ^ 40 ∨ (2 ^ 62 ≤ a ∧ a < 2 ^ 62 + 2 ^ 40)
    let xkseg : Prop := 0xC000000000000000 ≤ a ∧ a ≤ 0xC00000FF7FFFFFFF
    (KernelMode s → 0xFFFFFFFF80000000 ≤ va.toNat → va.toNat ≤ 0xFFFFFFFF9FFFFFFF → s.k0.toNat < 4 →
      ∃ pa : PAddr, translate s acc va = .ok (pa, s.k0) ∧ pa.toNat = va.toNat - 0xFFFFFFFF80000000)
    ∧ (KernelMode s → 0xFFFFFFFFA0000000 ≤ va.toNat → va.toNat ≤ 0xFFFFFFFFBFFFFFFF →
      ∃ pa : PAddr, translate s acc va = .ok (pa, 2#3) ∧ pa.toNat = va.toNat - 0xFFFFFFFFA0000000)
    ∧ (s.erl = true → va.toNat < 2 ^ 31 →
      ∃ pa : PAddr, translate s acc va = .ok (pa, 2#3) ∧ pa.toNat = va.toNat)
    ∧ (KernelMode s → s.kx = true → 2 ^ 63 ≤ va.toNat → va.toNat < 2 ^ 63 + 2 ^ 62 →
      (va.toNat / 2 ^ 36 % 2 ^ 23 ≠ 0 → translate s acc va = .error (.exc (.addressError (acc == .store) va)))
      ∧ (va.toNat / 2 ^ 36 % 2 ^ 23 = 0 → (va.extractLsb' 59 3).toNat < 4 →
        ∃ pa : PAddr, translate s acc va = .ok (pa, va.extractLsb' 59 3) ∧ pa.toNat = va.toNat % 2 ^ 36)
      ∧ (va.toNat / 2 ^ 36 % 2 ^ 23 = 0 → 4 ≤ (va.extractLsb' 59 3).toNat →
        translate s acc va = .error (.fault .reservedCacheAttribute)))
    ∧ (KernelMode s →
      ((a < 2 ^ 31 ∧ s.erl = false) ∨ 0xFFFFFFFFC0000000 ≤ a ∨ (s.kx = true ∧ 2 ^ 31 ≤ a ∧ (wide ∨ xkseg)) → mapped)
      ∧ (2 ^ 31 ≤ a → a < 0xFFFFFFFF80000000 →
          (s.kx = true → ¬wide ∧ ¬xkseg ∧ ¬(2 ^ 63 ≤ a ∧ a < 2 ^ 63 + 2 ^ 62)) → denied))
    ∧ (BelowKernel s → s.ksu = 1#2 →
      let inside : Prop := (0xFFFFFFFFC0000000 ≤ a ∧ a ≤ 0xFFFFFFFFDFFFFFFF) ∨ (if s.sx then wide else a < 2 ^ 31)
      (inside → mapped) ∧ (¬inside → denied))
    ∧ (BelowKernel s → s.ksu = 2#2 →
      (a < (if s.ux then 2 ^ 40 else 2 ^ 31) → mapped) ∧ ((if s.ux then 2 ^ 40 else 2 ^ 31) ≤ a → denied))

/-- ERET outside a delay slot goes to ErrorEPC and clears ERL, or goes to EPC and clears EXL, by ERL and the registers
as they are seen (log 8; as they are, with no recent CP0 write); it clears LLbit, ends a loop between LL and SC, has no
delay slot and changes nothing else, in every mode in which CP0 is usable; the cleared level is seen at once. -/
def Obligations.ExceptionReturn : Prop :=
  ∀ s : State, (s.recent = [] → s.seen = s) ∧ (Cp0Usable s → s.next = none →
    Completes (exec .eret s) fun t =>
      t.pc = (if s.seen.erl then s.seen.cp0.errorEpc else s.seen.cp0.epc) ∧ t.next = none ∧ t.llbit = false
      ∧ ChangesCp0 (fun c => { c with status := c.status &&& ~~~(if s.seen.erl then 0x4#32 else 0x2#32) }) s t
      ∧ t.link = s.linkBroken ∧ Keeps { cp0 := true, llbit := true, link := true } s t)

/-- A CACHE operation of the table on a translated cached address completes: of CP0 only Status.CH, TagLo and ECC can
change, of memory only bytes of a line it discards, which a fetch may still see as they were, and nothing else. A
write-back takes the line out of MaybeDirty and out of the data cache, its bytes and what memory may still have of
them into the write buffer; after Hit Write Back and then Hit Invalidate of the instruction cache no older byte of the
line can be fetched through a cached attribute; Create Dirty Exclusive puts its line in MaybeDirty. The state before an
Index Load Tag is what the next CP0_HAZARD instructions may still see. This in every mode in which CP0 is usable. An
operation outside the table, one through an uncached attribute, one of an absent secondary cache and a page invalidate
that is not page aligned stop by name. The ghost state of the caches and what the
operations do to it are the model's choice (logs 22, 23, 44, 45, 46, 47, 48). -/
def Obligations.CacheOperations : Prop :=
  ∀ (s : State) (base : Reg) (op5 : BitVec 5) (offset : BitVec 16) (pa : PAddr) (attr : BitVec 3), Cp0Usable s →
    translate s.seen .load (s.ea base offset) = .ok (pa, attr) → NoCacheError s →
    s.pins.dataBusError = false →
    (attr ≠ 2#3 → op5.toNat ∈ [0x00, 0x04, 0x08, 0x10, 0x14, 0x18, 0x01, 0x05, 0x09, 0x0D, 0x11, 0x15, 0x19]
        ∨ (op5.toNat ∈ [0x03, 0x07, 0x0B] ∧ s.ss ≠ 3#2)
        ∨ (op5.toNat = 0x17 ∧ s.ss ≠ 3#2 ∧ (s.ea base offset).extractLsb' 0 12 = 0#12) →
      Completes (exec (.cache base op5 offset) s) fun t =>
        let line := pa.toNat / 32
        let loadsTag : Bool := op5.toNat ∈ [0x04, 0x05, 0x07]
        Keeps { cp0 := true, stores := true, caches := true, buffer := true, window := loadsTag } { s with mem := t.mem } t
        ∧ (loadsTag = true → OpensWindow s t)
        ∧ t.deviceStores = s.deviceStores
        ∧ (∀ a, memRead t.mem a ≠ memRead s.mem a → memRead s.mem a ∈ t.oldBytes 3#3 a)
        ∧ (op5.toNat ∉ [0x0D, 0x10, 0x11, 0x19, 0x09, 0x03, 0x17] → t.stale = s.stale)
        ∧ (op5.toNat ∉ [0x0D, 0x15, 0x19] → t.unwritten = s.unwritten)
        ∧ (op5.toNat ∉ [0x15, 0x19] ∨ line ∉ s.maybeDirty → t.writeBuffer = s.writeBuffer)
        ∧ (op5.toNat ∈ [0x15, 0x19] → (∀ c, c ∈ t.unwritten ↔ c ∈ s.unwritten ∧ c.1 / 32 ≠ line)
          ∧ (line ∈ s.maybeDirty → ∃ b, t.writeBuffer = b :: s.writeBuffer ∧ b.after = 0
            ∧ (∀ a, a ∈ b.bytes ↔ a / 32 = line) ∧ (∀ c, c ∈ b.olds ↔ c ∈ s.unwritten ∧ c.1 / 32 = line)))
        ∧ (op5.toNat = 0x0D → (∀ l, l ∈ t.maybeDirty ↔ l ∈ s.maybeDirty ∨ l = line)
          ∧ ∀ a, a / 32 = line → memRead s.mem a ∈ t.oldBytes 2#3 a)
        ∧ (∀ a, memRead t.mem a ≠ memRead s.mem a →
            (op5.toNat ∈ [0x0D, 0x11] ∧ a / 32 = line)
            ∨ (op5.toNat ∈ [0x09, 0x03, 0x17] ∧ a / 32 ∈ s.maybeDirty))
        ∧ t.cp0 = { s.cp0 with status := t.cp0.status, tagLo := t.cp0.tagLo, ecc := t.cp0.ecc }
        ∧ t.cp0.status &&& ~~~0x00040000#32 = s.cp0.status &&& ~~~0x00040000#32
        ∧ (op5.toNat ∉ [0x04, 0x05, 0x07] → t.cp0.tagLo = s.cp0.tagLo ∧ t.cp0.ecc = s.cp0.ecc)
        ∧ (op5.toNat ∈ [0x15, 0x19] → ∀ l, l ∈ t.maybeDirty ↔ l ∈ s.maybeDirty ∧ l ≠ line)
        ∧ (op5.toNat ∉ [0x0D, 0x15, 0x19] → t.maybeDirty = s.maybeDirty)
        ∧ (op5.toNat = 0x19 → ∀ e ∈ t.stale, e.addr / 32 = line → e.held = [])
        ∧ (op5.toNat = 0x10 → (∀ e ∈ s.stale, e.addr / 32 = line → e.held = []) →
            ∀ a c, a / 32 = line → c ≠ 2#3 → t.oldBytes c a = [])
        ∧ (op5.toNat ∉ [0x08, 0x09, 0x03, 0x0B, 0x17] → t.caches = s.caches) ∧ StepsOn s t)
    ∧ (attr = 2#3 ∨ cacheOpListed op5 = false ∨ (op5.toNat ∈ [0x03, 0x07, 0x0B, 0x17] ∧ s.ss = 3#2)
        ∨ (op5.toNat = 0x17 ∧ (s.ea base offset).extractLsb' 0 12 ≠ 0#12) →
      exec (.cache base op5 offset) s = .refused .cacheOpUndefined)

/-! ### Exceptions and events (60_exceptions) -/

/-- Taking any exception but Cache Error: EPC and BD name the instruction or the branch before it unless EXL was set,
Cause has the code of its kind, EXL is set, the pc is the vector, and nothing else changes but the address registers,
which only a TLB exception and an Address Error write. The vector of a TLB Refill is that of a 64-bit address space
by UX, SX or KX, whichever is that of the region of the address (log 44), as they are seen (log 8). No instruction sees
EXL and EPC as they were before (log 8). -/
def Obligations.GeneralExceptionEntry : Prop :=
  (∀ (s : State) (va : Word), s.xtlb va =
    if va.toNat < 2 ^ 62 then s.ux
    else if va.toNat < 2 ^ 63 ∨ (0xFFFFFFFFC0000000 ≤ va.toNat ∧ va.toNat ≤ 0xFFFFFFFFDFFFFFFF) then s.sx
    else s.kx)
  ∧ ∀ (s : State) (e : Exc), (∀ f, e ≠ .cacheError f) →
    let t := takeException e s
    t.next = none ∧ t.cp0.status = s.cp0.status ||| 0x2#32
    ∧ t.cp0.cause.extractLsb' 2 5 = (match e with
      | .interrupt => 0#5
      | .tlbModified _ => 1#5
      | .tlbRefill store _ | .tlbInvalid store _ => if store then 3#5 else 2#5
      | .addressError store _ => if store then 5#5 else 4#5
      | .busErrorFetch => 6#5
      | .busErrorData => 7#5
      | .syscall => 8#5
      | .breakpoint => 9#5
      | .reservedInstruction => 10#5
      | .coprocessorUnusable _ => 11#5
      | .overflow => 12#5
      | .trap => 13#5
      | .floatingPoint => 15#5
      | .cacheError _ => t.cp0.cause.extractLsb' 2 5)
    ∧ (∀ u, e = .coprocessorUnusable u → t.cp0.cause.extractLsb' 28 2 = u)
    ∧ (s.exl = true → t.cp0.epc = s.cp0.epc)
    ∧ (s.exl = false → t.cp0.epc = (if s.next.isSome then s.pc - 4#64 else s.pc)
        ∧ t.cp0.cause.getLsbD 31 = s.next.isSome)
    ∧ t.ip = s.ip
    ∧ t.pc = (if s.bev then 0xFFFFFFFFBFC00200#64 else 0xFFFFFFFF80000000#64)
        + (match e with
          | .tlbRefill _ va => if s.exl then 0x180#64 else if s.seen.xtlb va then 0x80#64 else 0#64
          | _ => 0x180#64)
    ∧ t.cp0 =
        { s.cp0 with
          status := t.cp0.status, cause := t.cp0.cause, epc := t.cp0.epc, badVAddr := t.cp0.badVAddr,
          context := t.cp0.context, xcontext := t.cp0.xcontext, entryHi := t.cp0.entryHi,
          entryLo0 := t.cp0.entryLo0, entryLo1 := t.cp0.entryLo1 }
    ∧ (match e with
      | .tlbModified _ | .tlbRefill _ _ | .tlbInvalid _ _ | .addressError _ _ => True
      | _ => t.cp0.badVAddr = s.cp0.badVAddr ∧ t.cp0.context = s.cp0.context ∧ t.cp0.xcontext = s.cp0.xcontext
          ∧ t.cp0.entryHi = s.cp0.entryHi ∧ t.cp0.entryLo0 = s.cp0.entryLo0 ∧ t.cp0.entryLo1 = s.cp0.entryLo1)
    ∧ (∀ o ∈ t.recent, ∃ p ∈ s.recent, o.left = p.left ∧ o.cp0.status = p.cp0.status ||| 0x2#32
        ∧ o.cp0.epc = if s.exl then p.cp0.epc else t.cp0.epc)
    ∧ t = { s with pc := t.pc, next := none, cp0 := t.cp0, recent := t.recent, link := s.linkBroken }
    ∧ Keeps { cp0 := true, link := true } s t

/-- What a TLB exception records of the address: BadVAddr, Context, XContext and EntryHi, the ASID kept; an Address
Error records BadVAddr. -/
def Obligations.TlbExceptionRecords : Prop :=
  (∀ (s : State) (va : Word) (st : Bool), (takeException (.addressError st va) s).cp0.badVAddr = va)
  ∧ ∀ (s : State) (va : Word) (e : Exc), (e = .tlbModified va ∨ ∃ st, e = .tlbRefill st va ∨ e = .tlbInvalid st va) →
    let t := takeException e s
    t.cp0.badVAddr = va ∧ t.cp0.context.extractLsb' 4 19 = va.extractLsb' 13 19
    ∧ t.cp0.xcontext.extractLsb' 4 27 = va.extractLsb' 13 27
    ∧ t.cp0.xcontext.extractLsb' 31 2 = va.extractLsb' 62 2
    ∧ t.cp0.entryHi.extractLsb' 13 27 = va.extractLsb' 13 27
    ∧ t.cp0.entryHi.extractLsb' 62 2 = va.extractLsb' 62 2
    ∧ t.cp0.entryHi.extractLsb' 0 8 = s.cp0.entryHi.extractLsb' 0 8
    ∧ t.cp0.context.extractLsb' 23 41 = s.cp0.context.extractLsb' 23 41
    ∧ t.cp0.xcontext.extractLsb' 33 31 = s.cp0.xcontext.extractLsb' 33 31

/-- Taking a Cache Error: ErrorEPC is the restart address, CacheErr has the error's fields in the layout of 60_exceptions
R625, its EC always the one value 0 that is not reserved (10_state R91), ERL is set, the pc is the uncached vector, and Cause, EPC, EXL and everything else are kept, a loop between LL and SC apart (log 21). -/
def Obligations.CacheErrorEntry : Prop :=
  ∀ (s : State) (e : CacheError),
    let t := takeException (.cacheError e) s
    t.cp0 =
        { s.cp0 with
          status := s.cp0.status ||| 0x4#32, cacheErr := t.cp0.cacheErr,
          errorEpc := if s.next.isSome then s.pc - 4#64 else s.pc }
      ∧ (let w := t.cp0.cacheErr
         w.getLsbD 31 = e.er ∧ w.getLsbD 30 = false ∧ w.getLsbD 29 = e.ed ∧ w.getLsbD 28 = e.et
          ∧ w.getLsbD 27 = e.es ∧ w.getLsbD 26 = e.ee ∧ w.getLsbD 25 = e.eb ∧ w.extractLsb' 0 25 = 0#25)
      ∧ t.next = none ∧ t.pc = (if s.bev then 0xFFFFFFFFBFC00300#64 else 0xFFFFFFFFA0000100#64)
      ∧ t = { s with pc := t.pc, next := none, cp0 := t.cp0, recent := t.recent, link := t.link }
      ∧ Keeps { cp0 := true, link := true } s t

/-- Soft Reset, NMI and cold Reset: ErrorEPC, ERL, BEV and the reset vector; a Soft Reset and an NMI set SR, keep
every other register and come before the instruction at the pc, a cold Reset before them and with SR clear. An NMI
keeps memory, a Soft Reset all but lines that may be dirty and stores that may be in the write buffer; both resets
leave the caches to be initialised, a cold Reset the TLB too. Which registers a cold Reset leaves open (log 17), and
that a Soft Reset keeps the rest of memory (log 18), is the model's choice. -/
def Obligations.ErrorLevelEntries : Prop :=
  ∀ s : State,
    (∀ t, t = takeNmi s ∨ t = takeSoftReset s →
      t.pc = 0xFFFFFFFFBFC00000#64 ∧ t.next = none ∧ t.bev = true ∧ t.erl = true
      ∧ t.cp0.status.getLsbD 20 = true ∧ t.cp0.status.getLsbD 21 = false
      ∧ t.cp0.status &&& ~~~0x00700004#32 = s.cp0.status &&& ~~~0x00700004#32
      ∧ t.cp0.errorEpc = (if s.next.isSome then s.pc - 4#64 else s.pc)
      ∧ t.cp0 = { s.cp0 with status := t.cp0.status, errorEpc := t.cp0.errorEpc } ∧ t.link = s.linkBroken
      ∧ Keeps { cp0 := true, link := true, caches := true, stores := true, buffer := true }
          { s with pins := t.pins, mem := t.mem } t)
    ∧ (s.pins.coldReset = true → step s = .next (tick s (takeColdReset s)))
    ∧ (s.pins.coldReset = false → s.pins.reset = true → step s = .next (tick s (takeSoftReset s)))
    ∧ (s.pins.coldReset = false → s.pins.reset = false → s.pins.nmi = true → step s = .next (tick s (takeNmi s)))
    ∧ (takeNmi s).mem = s.mem ∧ (takeNmi s).pins = { s.pins with nmi := false }
    ∧ Keeps { cp0 := true, link := true } { s with pins := (takeNmi s).pins } (takeNmi s)
    ∧ (takeSoftReset s).pins = { s.pins with reset := false }
    ∧ (∀ a, memRead (takeSoftReset s).mem a ≠ memRead s.mem a →
        a / 32 ∈ s.maybeDirty ∨ ∃ b ∈ s.writeBuffer, a ∈ b.bytes)
    ∧ (takeSoftReset s).caches = CacheInit.none
    ∧ (let t := takeColdReset s
       t.pc = 0xFFFFFFFFBFC00000#64 ∧ t.next = none ∧ t.bev = true ∧ t.erl = true
        ∧ t.cp0.status.getLsbD 20 = false ∧ t.cp0.status.getLsbD 21 = false ∧ t.cp0.random = 47#6
        ∧ t.cp0.wired = 0#32 ∧ t.cp0.errorEpc = s.pc ∧ t.se = false ∧ t.caches = CacheInit.none
        ∧ ∀ n : Fin 48, t.tlb[n].written = false)

/-- A step takes a pending enabled interrupt exactly when IE is set, EXL and ERL are clear, and a bit of Cause.IP
meets a bit of Status.IM, as the step sees them: as they are, with no recent CP0 write (log 8). Its entry is that of
the interrupt exception, with ExcCode 0. Cause.IP is the timer latch or Int[5], Int[4:0] and the software bits. That
it comes before the instruction at the pc is the model's choice (log 13). -/
def Obligations.InterruptsTaken : Prop :=
  ∀ s : State,
    let v := s.view true
    (s.pins.coldReset = false → s.pins.reset = false → s.pins.nmi = false →
      (v.ie = true → v.exl = false → v.erl = false → (∃ n, v.ip.getLsbD n = true ∧ v.im.getLsbD n = true) →
        step s = .next (tick s (takeInterrupt s)))
      ∧ (v.ie = false ∨ v.exl = true ∨ v.erl = true ∨ (∀ n, (v.ip.getLsbD n && v.im.getLsbD n) = false) →
        takeEvent s = none))
    ∧ (s.recent = [] → v = s)
    ∧ (s.exl = false → takeInterrupt s = takeException .interrupt s)
    ∧ (takeInterrupt s).cp0.cause.extractLsb' 2 5 = 0#5
    ∧ (∀ n, n < 5 → s.ip.getLsbD (n + 2) = s.pins.int.getLsbD n)
    ∧ s.ip.getLsbD 7 = (if s.timerIntOnIP7 then s.timerLatch else s.pins.int.getLsbD 5)
    ∧ (∀ n, n < 2 → s.ip.getLsbD n = s.cp0.cause.getLsbD (8 + n))

/-- A word that is no instruction: a reserved encoding takes Reserved Instruction, a reserved FPU encoding the
Floating-Point exception with Cause E, each of them Coprocessor Unusable where it belongs to a unit that is not usable;
RECIP, RSQRT and a compare with a condition code other than 0 are gated as MIPS IV before their format is looked at. A
coprocessor 2 word is Coprocessor Unusable with unit 2, and a word with a must-be-zero field that is not zero is refused
once its unit is usable (log 29). -/
def Obligations.ReservedWords : Prop :=
  (∀ (w : BitVec 32) (s : State),
    let takes := fun e : Exc => execWord w s = .next (takeException e s)
    let unimplemented : Prop := execWord w s = .next (takeException .floatingPoint (setFcrCause 0x20#6 s))
    (decode w = .error (.reserved none) → takes .reservedInstruction)
    ∧ (decode w = .error (.mustBeZero none) → execWord w s = .refused .mustBeZeroField)
    ∧ (∀ u, decode w = .error (.reserved (some u)) ∨ decode w = .error (.mustBeZero (some u)) →
        s.cu u.toNat = false → (u = 0#2 → BelowKernel s.seen) → takes (.coprocessorUnusable u))
    ∧ (∀ u, s.cu u.toNat = true ∨ (u = 0#2 ∧ KernelMode s.seen) →
        (decode w = .error (.reserved (some u)) → takes .reservedInstruction)
        ∧ (decode w = .error (.mustBeZero (some u)) → execWord w s = .refused .mustBeZeroField))
    ∧ (decode w = .error .reservedFp → (s.cu 1 = true → unimplemented)
        ∧ (s.cu 1 = false → takes (.coprocessorUnusable 1#2)))
    ∧ (decode w = .error .reservedFp4 → (s.cu 1 = false → takes (.coprocessorUnusable 1#2))
        ∧ (s.cu 1 = true → s.cu 3 = true → unimplemented)
        ∧ (s.cu 1 = true → s.cu 3 = false →
          (BelowKernel s.seen → s.seen.ksu = 2#2 → takes .reservedInstruction)
          ∧ (KernelMode s.seen ∨ (BelowKernel s.seen ∧ s.seen.ksu = 1#2) →
              execWord w s = .refused .mips4NotEnabled)))
    ∧ (decode w = .error .coprocessor2 → (s.cu 2 = false → takes (.coprocessorUnusable 2#2))
        ∧ (s.cu 2 = true → execWord w s = .refused .coprocessor2)))
  ∧ decode 0x00000005#32 = .error (.reserved none) ∧ decode 0x46801106#32 = .error .reservedFp
  ∧ decode 0x48000000#32 = .error .coprocessor2 ∧ decode 0x42000020#32 = .error (.reserved (some 0#2))
  ∧ decode 0x44600000#32 = .error (.reserved (some 1#2)) ∧ decode 0x4C000002#32 = .error (.reserved (some 1#2))
  ∧ decode 0x46841130#32 = .error .reservedFp4 ∧ decode 0x46801095#32 = .error .reservedFp4
  ∧ decode 0x46841030#32 = .error .reservedFp ∧ decode 0x00851060#32 = .error (.mustBeZero none)
  ∧ decode 0x42000058#32 = .error (.mustBeZero (some 0#2))

/-! ### Loads and stores (40_load_store) -/

/-- The aligned integer loads: the bytes at the translated address in the CPU's order, sign- or zero-extended. An
uncached load from a device completes with a value of the device's (log 6), and the stores before it have left the write
buffer; the value is kept to its width, whatever it is. -/
def Obligations.AlignedLoads : Prop :=
  ∀ (s : State) (base rt : Reg) (offset : BitVec 16) (pa : PAddr),
    (Loads s (s.ea base offset) 1 pa →
      LoadsGpr (.lb base rt offset) s rt ((BitVec.ofNat 8 (s.valueAt pa.toNat 1)).signExtend 64)
      ∧ LoadsGpr (.lbu base rt offset) s rt (BitVec.ofNat 64 (s.valueAt pa.toNat 1)))
    ∧ (Loads s (s.ea base offset) 2 pa →
      LoadsGpr (.lh base rt offset) s rt ((BitVec.ofNat 16 (s.valueAt pa.toNat 2)).signExtend 64)
      ∧ LoadsGpr (.lhu base rt offset) s rt (BitVec.ofNat 64 (s.valueAt pa.toNat 2)))
    ∧ (Loads s (s.ea base offset) 4 pa →
      LoadsGpr (.lw base rt offset) s rt ((BitVec.ofNat 32 (s.valueAt pa.toNat 4)).signExtend 64)
      ∧ (Enabled64 s.seen → LoadsGpr (.lwu base rt offset) s rt (BitVec.ofNat 64 (s.valueAt pa.toNat 4))))
    ∧ (Loads s (s.ea base offset) 8 pa → Enabled64 s.seen →
      LoadsGpr (.ld base rt offset) s rt (BitVec.ofNat 64 (s.valueAt pa.toNat 8)))
    ∧ (∀ p ∈ [(Instr.lb base rt offset, 1), (.lbu base rt offset, 1), (.lh base rt offset, 2), (.lhu base rt offset, 2),
          (.lw base rt offset, 4), (.lwu base rt offset, 4), (.ld base rt offset, 8)],
        AsksDevice s .load (s.ea base offset) p.2 pa → (needs64 p.1 = true → Enabled64 s.seen) →
        s.pins.dataBusError = false →
        LoadsGprWith AccessesDevice p.1 s rt fun v => (p.2 = 4 → needs64 p.1 = false → HoldsWord v)
          ∧ (p.1 = .lb base rt offset → -2 ^ 7 ≤ v.toInt ∧ v.toInt < 2 ^ 7)
          ∧ (p.1 = .lh base rt offset → -2 ^ 15 ≤ v.toInt ∧ v.toInt < 2 ^ 15)
          ∧ (p.1 = .lwu base rt offset → v.toNat < 2 ^ 32) ∧ (p.1 = .lhu base rt offset → v.toNat < 2 ^ 16)
          ∧ (p.1 = .lbu base rt offset → v.toNat < 2 ^ 8))

/-- The aligned stores, integer and floating-point: the low bytes of the register at the translated address in the
CPU's order, every other byte of memory unchanged; what the stored bytes were is on record for the fetches that may
still see it, with the line that may be dirty or the store that may be in the write buffer, whose order and length of
stay are the model's choice (logs 22, 48). An uncached store to a device completes, leaves memory as it is, and stands
in the write buffer among the stores the device may not have seen; a store where nothing or ROM answers is dropped.
Neither raises a Bus Error (log 6). -/
def Obligations.AlignedStores : Prop :=
  ∀ (s : State) (base rt : Reg) (offset : BitVec 16) (pa : PAddr) (attr : BitVec 3) (n : Nat),
    let each := fun stores : Instr → Word → Prop =>
      (n = 1 → stores (.sb base rt offset) (s.gpr rt))
      ∧ (n = 2 → stores (.sh base rt offset) (s.gpr rt))
      ∧ (n = 4 → stores (.sw base rt offset) (s.gpr rt)
        ∧ (s.cu 1 = true → stores (.swc1 base rt offset) ((s.fpr32 rt).setWidth 64)))
      ∧ (n = 8 → (Enabled64 s.seen → stores (.sd base rt offset) (s.gpr rt))
        ∧ (FpReady s [rt] → stores (.sdc1 base rt offset) (s.fpr64 rt)))
    (Stores s (s.ea base offset) n pa attr → each fun i v => StoresAt i s attr pa.toNat n v)
    ∧ (AsksDevice s .store (s.ea base offset) n pa → each fun i _ => SendsToDevice i s pa.toNat n)
    ∧ (Dropped s (s.ea base offset) n pa → each fun i _ => DropsStore i s)

/-- What a load or store takes before its access is made, in this order, once the checks of its unit and its operation
have passed: Address Error for a misaligned address, with the address recorded, the exception of its translation, a
Cache Error injected and not masked by DE, and, for a load, a Bus Error injected or of an address at which nothing
answers. A store conditional checks its address whether or not it stores, and takes a Cache Error only where it goes on
with its store. CACHE takes, once its unit is usable, the exceptions of a translation as a load, of any alignment, and
with a cached address the Cache Error and the Bus Error that accompany it. CacheErr gets ER = 1 and EB = 0 from the
Cache Error of such an access, the latter by inference (log 41). -/
def Obligations.AccessExceptions : Prop :=
  ∀ (s : State) (base rt index : Reg) (offset : BitVec 16),
    let va := s.ea base offset
    let vx := s.gpr base + s.gpr index
    let conditional := fun (i : Instr) (n : Nat) => ∀ pa attr p, va.toNat % n = 0 →
      translate s.seen .store va = .ok (pa, attr) → s.cacheReady attr = true → s.pins.dataCacheError = some p →
      s.de = false → StoresOrFails i s rt attr pa (Takes i s (.cacheError p.onData))
    (∀ p : ParityError, p.onData = { er := true, ed := p.ed, et := p.et, es := p.es, ee := p.ee, eb := false })
    ∧ (∀ p ∈ [(Instr.lb base rt offset, 1), (.lbu base rt offset, 1), (.lh base rt offset, 2), (.lhu base rt offset, 2),
        (.lw base rt offset, 4), (.ll base rt offset, 4)],
      AccessTraps p.1 s .load va p.2 ∧ ErrorTraps p.1 s .load va p.2 0)
    ∧ (∀ p ∈ [(Instr.sb base rt offset, 1), (.sh base rt offset, 2), (.sw base rt offset, 4)],
      AccessTraps p.1 s .store va p.2 ∧ ErrorTraps p.1 s .store va p.2 0)
    ∧ AccessTraps (.sc base rt offset) s .store va 4 ∧ conditional (.sc base rt offset) 4
    ∧ (Cp0Usable s → ∀ op5 : BitVec 5, AccessTraps (.cache base op5 offset) s .load va 1
      ∧ ∀ pa attr, translate s.seen .load va = .ok (pa, attr) → attr ≠ 2#3 →
        (∀ p, s.pins.dataCacheError = some p → s.de = false →
          Takes (.cache base op5 offset) s (.cacheError p.onData))
        ∧ (NoCacheError s → s.pins.dataBusError = true → Takes (.cache base op5 offset) s .busErrorData))
    ∧ (∀ p ∈ [(Instr.lwl base rt offset, true), (.lwr base rt offset, false)],
      AccessTraps p.1 s .load va 1 ∧ ErrorTraps p.1 s .load va 1 (partSpan s p.2 4 (va.toNat % 4)).2)
    ∧ (∀ i ∈ [Instr.swl base rt offset, .swr base rt offset], AccessTraps i s .store va 1 ∧ ErrorTraps i s .store va 1 0)
    ∧ (Enabled64 s.seen →
      (∀ p ∈ [(Instr.lwu base rt offset, 4), (.ld base rt offset, 8), (.lld base rt offset, 8)],
        AccessTraps p.1 s .load va p.2 ∧ ErrorTraps p.1 s .load va p.2 0)
      ∧ AccessTraps (.sd base rt offset) s .store va 8 ∧ ErrorTraps (.sd base rt offset) s .store va 8 0
      ∧ AccessTraps (.scd base rt offset) s .store va 8 ∧ conditional (.scd base rt offset) 8
      ∧ (∀ p ∈ [(Instr.ldl base rt offset, true), (.ldr base rt offset, false)],
        AccessTraps p.1 s .load va 1 ∧ ErrorTraps p.1 s .load va 1 (partSpan s p.2 8 (va.toNat % 8)).2)
      ∧ ∀ i ∈ [Instr.sdl base rt offset, .sdr base rt offset],
        AccessTraps i s .store va 1 ∧ ErrorTraps i s .store va 1 0)
    ∧ (s.cu 1 = true →
      (AccessTraps (.lwc1 base rt offset) s .load va 4 ∧ ErrorTraps (.lwc1 base rt offset) s .load va 4 0)
      ∧ (AccessTraps (.swc1 base rt offset) s .store va 4 ∧ ErrorTraps (.swc1 base rt offset) s .store va 4 0)
      ∧ (AccessTraps (.ldc1 base rt offset) s .load va 8 ∧ ErrorTraps (.ldc1 base rt offset) s .load va 8 0)
      ∧ (s.fprOk rt = true →
        AccessTraps (.sdc1 base rt offset) s .store va 8 ∧ ErrorTraps (.sdc1 base rt offset) s .store va 8 0)
      ∧ (s.cu 3 = true → vx.extractLsb' 62 2 = (s.gpr base).extractLsb' 62 2 →
        (AccessTraps (.lwxc1 base index rt) s .load vx 4 ∧ ErrorTraps (.lwxc1 base index rt) s .load vx 4 0)
        ∧ (AccessTraps (.swxc1 base index rt) s .store vx 4 ∧ ErrorTraps (.swxc1 base index rt) s .store vx 4 0)
        ∧ (AccessTraps (.ldxc1 base index rt) s .load vx 8 ∧ ErrorTraps (.ldxc1 base index rt) s .load vx 8 0)
        ∧ (s.fprOk rt = true →
          AccessTraps (.sdxc1 base index rt) s .store vx 8 ∧ ErrorTraps (.sdxc1 base index rt) s .store vx 8 0)))

/-- LWL, LWR, LDL, LDR: the bytes of the aligned word or doubleword on one side of the address replace the matching
end of the register; where a device answers they are some bytes of the device's (log 6), and the stores before the load
have left the write buffer. -/
def Obligations.LeftRightLoads : Prop :=
  ∀ (s : State) (base rt : Reg) (offset : BitVec 16) (pa : PAddr) (w k : Nat) (left : Bool),
    k = (s.ea base offset).toNat % w →
    let c := if left == s.bigEndianCpu then w - k else k + 1
    let d := if left == s.bigEndianCpu then 0 else k
    let old := (s.gpr rt).toNat
    let merges := fun (loads : LoadShape) (m : Nat) =>
      (w = 4 → left = true → LoadsGprWith loads (.lwl base rt offset) s rt fun v =>
        v = (BitVec.ofNat 32 (m * 256 ^ (4 - c) + old % 256 ^ (4 - c))).signExtend 64)
      ∧ (w = 4 → left = false → LoadsGprWith loads (.lwr base rt offset) s rt fun v =>
        v.extractLsb' 0 32 = BitVec.ofNat 32 (old / 256 ^ c * 256 ^ c + m)
        ∧ (c = 4 ∨ HoldsWord (s.gpr rt) → HoldsWord v))
      ∧ (w = 8 → Enabled64 s.seen → left = true → LoadsGprWith loads (.ldl base rt offset) s rt fun v =>
        v = BitVec.ofNat 64 (m * 256 ^ (8 - c) + old % 256 ^ (8 - c)))
      ∧ (w = 8 → Enabled64 s.seen → left = false → LoadsGprWith loads (.ldr base rt offset) s rt fun v =>
        v = BitVec.ofNat 64 (old / 256 ^ c * 256 ^ c + m))
    (LoadsPart s (s.ea base offset) pa d → merges Accesses (s.valueAt (pa - BitVec.ofNat 36 d).toNat c))
    ∧ (AsksDevicePart s .load (s.ea base offset) pa d → s.pins.dataBusError = false →
        ∃ m, m < 256 ^ c ∧ merges AccessesDevice m)

/-- SWL, SWR, SDL, SDR: one end of the register in the bytes of the aligned word or doubleword on one side of the
address, every other byte unchanged; to a device, and where nothing or ROM answers, as the aligned stores. -/
def Obligations.LeftRightStores : Prop :=
  ∀ (s : State) (base rt : Reg) (offset : BitVec 16) (pa : PAddr) (w k : Nat) (left : Bool) (attr : BitVec 3),
    k = (s.ea base offset).toNat % w →
    let c := if left == s.bigEndianCpu then w - k else k + 1
    let d := if left == s.bigEndianCpu then 0 else k
    let start := (pa - BitVec.ofNat 36 d).toNat
    let each := fun stores : Instr → Word → Prop =>
      (w = 4 → left = true → stores (.swl base rt offset)
        (BitVec.ofNat 64 ((s.gpr rt).toNat % 2 ^ 32 / 256 ^ (4 - c))))
      ∧ (w = 4 → left = false → stores (.swr base rt offset) (s.gpr rt))
      ∧ (w = 8 → Enabled64 s.seen → left = true → stores (.sdl base rt offset)
        (BitVec.ofNat 64 ((s.gpr rt).toNat / 256 ^ (8 - c))))
      ∧ (w = 8 → Enabled64 s.seen → left = false → stores (.sdr base rt offset) (s.gpr rt))
    (StoresPart s (s.ea base offset) pa d attr → each fun i v => StoresAt i s attr start c v)
    ∧ (AsksDevicePart s .store (s.ea base offset) pa d → each fun i _ => SendsToDevice i s start c)
    ∧ (DroppedPart s (s.ea base offset) pa d → each fun i _ => DropsStore i s)

/-- LL and LLD load as LW and LD do, from a device too, set LLbit and put the address in LLAddr. SC and SCD store (to
memory, to a device, or where nothing or ROM answers with the store dropped) and write 1, or store nothing and write 0;
with LLbit clear they always fail; LLbit is not changed. A loop of LL and SC on one cached address
with no other load, store, exception or ERET between the LL and the SC is not failed for ever: its failures are counted,
and once they reach a bound nothing is known of, the SC succeeds. A load, store or exception after a failed SC and
before the next LL leaves the count, and a loop that mixes LL with SCD or LLD with SC counts as well: both are the
model's choice (log 21). -/
def Obligations.LinkedAccesses : Prop :=
  (∀ (s : State) (base rt : Reg) (offset : BitVec 16) (pa : PAddr) (attr : BitVec 3) (i : Instr) (n : Nat),
    (i = .ll base rt offset ∧ n = 4) ∨ (i = .lld base rt offset ∧ n = 8 ∧ Enabled64 s.seen) →
    let links := fun (w : Touched) (p : State → Prop) =>
      Effects i s { w with gprs := [rt], cp0 := true, llbit := true, link := true } fun t =>
        (rt = 0#5 → t.gpr rt = 0#64) ∧ (rt ≠ 0#5 → p t) ∧ t.llbit = true
        ∧ ChangesCp0 (fun c => { c with llAddr := pa.extractLsb' 4 32 }) s t
        ∧ t.link = (if attr = 2#3 then s.noLink else if s.link.addr = some pa then { s.link with armed := true }
            else { addr := some pa, armed := true, start := s.draws, fails := 0 })
        ∧ (w.buffer = true → Drained t)
    (Loads s (s.ea base offset) n pa → translate s.seen .load (s.ea base offset) = .ok (pa, attr) →
      links {} fun t => t.gpr rt = (if n = 4 then (BitVec.ofNat 32 (s.valueAt pa.toNat 4)).signExtend 64
        else BitVec.ofNat 64 (s.valueAt pa.toNat 8)))
    ∧ (AsksDevice s .load (s.ea base offset) n pa → attr = 2#3 → s.pins.dataBusError = false →
      links { buffer := true } fun t => n = 4 → HoldsWord (t.gpr rt)))
  ∧ (∀ (s : State) (base rt : Reg) (offset : BitVec 16) (pa : PAddr) (attr : BitVec 3) (n : Nat) (i : Instr),
    (i = .sc base rt offset ∧ n = 4 ∨ i = .scd base rt offset ∧ n = 8 ∧ Enabled64 s.seen) →
    let va := s.ea base offset
    (Stores s va n pa attr →
      StoresOrFails i s rt attr pa (SucceedsStore i s rt (.ofStore (s.fieldBytes pa.toNat n)) fun t =>
        t.valueAt pa.toNat n = (s.gpr rt).toNat % 256 ^ n ∧ Records s t attr pa.toNat n))
    ∧ (AsksDevice s .store va n pa →
      StoresOrFails i s rt 2#3 pa (SucceedsStore i s rt { buffer := true } fun t => Posts s t pa.toNat n))
    ∧ (Dropped s va n pa → translate s.seen .store va = .ok (pa, attr) →
      StoresOrFails i s rt attr pa (SucceedsStore i s rt {} fun _ => True))
    ∧ (s.llbit = false → va.toNat % n = 0 → translate s.seen .store va = .ok (pa, attr) → FailsStore i s rt attr pa))
  ∧ ∀ s : State,
    (∀ e, (takeException e s).link = s.linkBroken)
    ∧ ∀ (base rt : Reg) (offset : BitVec 16) (t : State),
      ∀ i ∈ [Instr.lb base rt offset, .lbu base rt offset, .lh base rt offset, .lhu base rt offset, .lw base rt offset,
          .lwu base rt offset, .ld base rt offset, .lwl base rt offset, .lwr base rt offset, .ldl base rt offset,
          .ldr base rt offset, .sb base rt offset, .sh base rt offset, .sw base rt offset, .sd base rt offset,
          .swl base rt offset, .swr base rt offset, .sdl base rt offset, .sdr base rt offset, .lwc1 base rt offset,
          .ldc1 base rt offset, .swc1 base rt offset, .sdc1 base rt offset],
        exec i s = .next t → t.link = s.linkBroken

/-- The floating-point loads: a word to the low half of an FGR, a doubleword to an FPR; the indexed loads and stores at
base + index, and their Address Error when the sum leaves the region of the base. From and to a device, and where
nothing or ROM answers a store, as the aligned loads and stores. -/
def Obligations.FloatingLoadsAndIndexed : Prop :=
  (∀ (s : State) (base index f : Reg) (offset : BitVec 16) (pa : PAddr) (va : Word) (word double : Instr), s.cu 1 = true →
    (word = .lwc1 base f offset ∧ double = .ldc1 base f offset ∧ va = s.ea base offset)
      ∨ (word = .lwxc1 base index f ∧ double = .ldxc1 base index f ∧ va = s.gpr base + s.gpr index
        ∧ s.cu 3 = true ∧ va.extractLsb' 62 2 = (s.gpr base).extractLsb' 62 2) →
    (Loads s va 4 pa → LoadsFgrLow word s f (BitVec.ofNat 32 (s.valueAt pa.toNat 4)))
    ∧ (Loads s va 8 pa → s.fprOk f = true → LoadsFpr64 double s f (BitVec.ofNat 64 (s.valueAt pa.toNat 8)))
    ∧ (s.pins.dataBusError = false →
      (AsksDevice s .load va 4 pa → AccessesDevice word s { fgrs := [f] } fun _ => True)
      ∧ (AsksDevice s .load va 8 pa → s.fprOk f = true → AccessesDevice double s { fgrs := s.pairOf f } fun _ => True)))
  ∧ (∀ (s : State) (base index f : Reg) (pa : PAddr) (attr : BitVec 3) (n : Nat), s.cu 1 = true → s.cu 3 = true →
    let va := s.gpr base + s.gpr index
    let each := fun stores : Instr → Word → Prop =>
      (n = 4 → stores (.swxc1 base index f) ((s.fpr32 f).setWidth 64))
      ∧ (n = 8 → s.fprOk f = true → stores (.sdxc1 base index f) (s.fpr64 f))
    (va.extractLsb' 62 2 = (s.gpr base).extractLsb' 62 2 →
      (Stores s va n pa attr → each fun i v => StoresAt i s attr pa.toNat n v)
      ∧ (AsksDevice s .store va n pa → each fun i _ => SendsToDevice i s pa.toNat n)
      ∧ (Dropped s va n pa → each fun i _ => DropsStore i s))
    ∧ (va.extractLsb' 62 2 ≠ (s.gpr base).extractLsb' 62 2 →
      Takes (.lwxc1 base index f) s (.addressError false va) ∧ Takes (.ldxc1 base index f) s (.addressError false va)
      ∧ Takes (.swxc1 base index f) s (.addressError true va)
      ∧ Takes (.sdxc1 base index f) s (.addressError true va)))

/-- Memory: a field of up to 8 bytes reads back as written, in either byte order, a byte outside it is as before, and
canonical memories that read the same are equal. -/
def Obligations.MemoryLaws : Prop :=
  (∀ (s : State) (attr : BitVec 3) (pa n : Nat) (v : Word), n ≤ 8 →
    ((s.setField attr pa n v).fieldAt pa n).toNat = v.toNat % 256 ^ n
    ∧ (∀ b, b ∉ s.fieldBytes pa n → memRead (s.setField attr pa n v).mem b = memRead s.mem b))
  ∧ ∀ m m' : List Host.Cell, Memory.wf m = true → Memory.wf m' = true →
    (∀ c, memRead m c = memRead m' c) → m = m'

/-! ### FPU moves (47_fpu_move) -/

/-- The transfers between general and FPU registers and the reads of FCR0 and FCR31. CTC1 to FCR31 writes every bit but
22:18, which become 0, then takes the Floating-Point exception if E or an enabled Cause bit is set; CTC1 to another
control register stops by name (log 40). -/
def Obligations.FpuTransfers : Prop :=
  (∀ (s : State) (rt fs : Reg), s.cu 1 = true →
    WritesGpr (.mfc1 rt fs) s rt ((s.fpr32 fs).signExtend 64)
    ∧ WritesFgrLow (.mtc1 rt fs) s fs ((s.gpr rt).extractLsb' 0 32)
    ∧ WritesGpr (.cfc1 rt 31#5) s rt ((s.fcr31 &&& 0xFF83FFFF#32).signExtend 64)
    ∧ WritesGpr (.cfc1 rt 0#5) s rt ((s.fcr0 &&& 0xFFFF#32).signExtend 64)
    ∧ WritesGprWith (.cfc1 rt fs) s rt (fun _ => True)
    ∧ (Enabled64 s.seen → s.fprOk fs = true →
      WritesGpr (.dmfc1 rt fs) s rt (s.fpr64 fs) ∧ WritesFpr64 (.dmtc1 rt fs) s fs (s.gpr rt)))
  ∧ (∀ (s : State) (rt fs : Reg), s.cu 1 = true →
    let v := (s.gpr rt).extractLsb' 0 32 &&& 0xFF83FFFF#32
    let traps : Prop := v.getLsbD 17 = true ∨ v.extractLsb' 12 5 &&& v.extractLsb' 7 5 ≠ 0#5
    (traps → exec (.ctc1 rt 31#5) s = .next (takeException .floatingPoint { s with fcr31 := v }))
    ∧ (¬traps → Effects (.ctc1 rt 31#5) s { fcr31 := true } fun t => t.fcr31 = v)
    ∧ (fs ≠ 31#5 → exec (.ctc1 rt fs) s = .refused .reservedFcrWrite))

/-- MOV.fmt and the conditional FPR moves copy the bits and never touch FCR31; a move whose condition fails accesses no
FPR, whatever numbers it names. -/
def Obligations.FprMoves : Prop :=
  ∀ (s : State) (rt fs fd : Reg) (cc : BitVec 3), s.cu 1 = true →
    (FpReady s [fs, fd] →
      WritesFpr (.movS fs fd) s .s fd (s.fpr .s fs) ∧ WritesFpr (.movD fs fd) s .d fd (s.fpr .d fs))
    ∧ (s.cu 3 = true →
      ∀ p ∈ [(Instr.movfS cc fs fd, Instr.movfD cc fs fd, !s.fcc cc), (.movtS cc fs fd, .movtD cc fs fd, s.fcc cc),
          (.movnS rt fs fd, .movnD rt fs fd, s.gpr rt != 0#64), (.movzS rt fs fd, .movzD rt fs fd, s.gpr rt == 0#64)],
        (p.2.2 = true → FpReady s [fs, fd] →
          WritesFpr p.1 s .s fd (s.fpr .s fs) ∧ WritesFpr p.2.1 s .d fd (s.fpr .d fs))
        ∧ (p.2.2 = false → ChangesNothing p.1 s ∧ ChangesNothing p.2.1 s))

/-! ### FPU arithmetic, compares, conversions (48_fpu_arith, 49_fpu_convert) -/

/-- ADD, SUB, MUL, DIV, SQRT, ABS, NEG in both formats: the screened exact result, delivered or trapped, with FCR31 as
the completion rule says and every register but the destination kept. Screening: a denormalized or quiet NaN operand is
Unimplemented; otherwise a signaling NaN is Invalid, with the default quiet NaN; otherwise the result stands. -/
def Obligations.FpArithmetic : Prop :=
  (∀ (s : State) (ft fs fd : Reg) (f : FpFmt), FpReady s [fs, fd] →
    let a := s.fpVal f fs
    let b := s.fpVal f ft
    let two := fun g => binaryResult f s.fpMode g a b
    let one := fun g => unaryResult f s.fpMode g a
    (s.fprOk ft = true →
      FinishesFp (match f with | .s => .addS ft fs fd | .d => .addD ft fs fd) s f fd (two (exactAdd s.rounding))
      ∧ FinishesFp (match f with | .s => .subS ft fs fd | .d => .subD ft fs fd) s f fd (two (exactSub s.rounding))
      ∧ FinishesFp (match f with | .s => .mulS ft fs fd | .d => .mulD ft fs fd) s f fd (two exactMul)
      ∧ FinishesFp (match f with | .s => .divS ft fs fd | .d => .divD ft fs fd) s f fd (two exactDiv))
    ∧ FinishesFp (match f with | .s => .sqrtS fs fd | .d => .sqrtD fs fd) s f fd (one exactSqrt)
    ∧ FinishesFp (match f with | .s => .absS fs fd | .d => .absD fs fd) s f fd (one exactAbs)
    ∧ FinishesFp (match f with | .s => .negS fs fd | .d => .negD fs fd) s f fd (one exactNeg))
  ∧ (∀ (f : FpFmt) (md : FpMode) (g : FpVal → FpVal → Exact) (h : FpVal → Exact) (a b : FpVal),
    binaryResult f md g a b = screened f md [a, b] (deliver f md (g a b))
    ∧ unaryResult f md h a = screened f md [a] (deliver f md (h a)))
  ∧ ∀ (f : FpFmt) (md : FpMode) (ops : List FpVal) (r : BitVec 6 × Word),
    let unimplemented : Prop := ∃ v ∈ ops, v = .qnan ∨ ∃ n m e, v = .finite true n m e
    (unimplemented → (screened f md ops r).1 = causeE)
    ∧ (¬unimplemented → FpVal.snan ∈ ops → screened f md ops r = (causeV, md.qnan f))
    ∧ (¬unimplemented → FpVal.snan ∉ ops → screened f md ops r = r)

/-- The multiply-add family: the operands screened; the product of fs and ft as MUL delivers it, with a trap if its
Cause set alone traps and the default quiet NaN if it is Invalid; then the sum of that product and fr, or their
difference, as ADD or SUB delivers it; the union of the two Cause sets; the sign inverted in the N forms unless the
result is a NaN. -/
def Obligations.MultiplyAdd : Prop :=
  ∀ (s : State) (fr ft fs fd : Reg) (f : FpFmt), FpReady s [fr, fs, ft, fd] → s.cu 3 = true →
    let md := s.fpMode
    let p := binaryResult f md exactMul (s.fpVal f fs) (s.fpVal f ft)
    let sum := fun sub : Bool =>
      binaryResult f md (if sub then exactSub s.rounding else exactAdd s.rounding) (unpack f p.2) (s.fpVal f fr)
    let inverted := fun w : Word => if isNan (unpack f w) then w else w ^^^ (1#64 <<< fpSignBit f)
    let r := fun sub neg : Bool =>
      screened f md [s.fpVal f fr, s.fpVal f fs, s.fpVal f ft] <|
        if fcrTraps p.1 s then p
        else if p.1 = causeV then (causeV, md.qnan f)
        else (p.1 ||| (sum sub).1, if neg then inverted (sum sub).2 else (sum sub).2)
    FinishesFp (match f with | .s => .maddS fr ft fs fd | .d => .maddD fr ft fs fd) s f fd (r false false)
    ∧ FinishesFp (match f with | .s => .msubS fr ft fs fd | .d => .msubD fr ft fs fd) s f fd (r true false)
    ∧ FinishesFp (match f with | .s => .nmaddS fr ft fs fd | .d => .nmaddD fr ft fs fd) s f fd (r false true)
    ∧ FinishesFp (match f with | .s => .nmsubS fr ft fs fd | .d => .nmsubD fr ft fs fd) s f fd (r true true)

/-- RECIP and RSQRT: a zero is Division by Zero, an infinity gives a zero, a negative number under RSQRT is Invalid. A
normal operand whose exact result is neither tiny nor out of range gives some normalized number, exact or Inexact, that
nothing more is known of (log 28); one whose result is tiny is delivered as a tiny result. A signaling NaN is Invalid, a
quiet NaN and a denormalized number Unimplemented. -/
def Obligations.Approximations : Prop :=
  ∀ (s : State) (fs fd : Reg) (f : FpFmt), FpReady s [fs, fd] → s.cu 3 = true →
    let recip : Instr := match f with | .s => .recipS fs fd | .d => .recipD fs fd
    let rsqrt : Instr := match f with | .s => .rsqrtS fs fd | .d => .rsqrtD fs fd
    let md := s.fpMode
    let a := s.fpVal f fs
    let somehow := fun (i : Instr) (exact : Exact) =>
      ((deliver f md exact).1 = 0#6 ∨ (deliver f md exact).1 = causeI →
        ∃ c v, (c = 0#6 ∨ c = causeI) ∧ isNormal (unpack f v) = true ∧ FinishesFp i s f fd (c, v))
      ∧ ((deliver f md exact).1 ≠ 0#6 → (deliver f md exact).1 ≠ causeI → FinishesFp i s f fd (deliver f md exact))
    FinishesFp recip s f fd (recipResult f md (s.fpr f fs)) ∧ FinishesFp rsqrt s f fd (rsqrtResult f md (s.fpr f fs))
    ∧ (∀ n, a = .zero n → FinishesFp recip s f fd (causeZ, packInf f n) ∧ FinishesFp rsqrt s f fd (causeZ, packInf f n))
    ∧ (∀ n, a = .inf n → FinishesFp recip s f fd (0#6, packZero f n)
        ∧ FinishesFp rsqrt s f fd (if n then (causeV, md.qnan f) else (0#6, packZero f false)))
    ∧ (∀ m e, a = .finite false true m e → FinishesFp rsqrt s f fd (causeV, md.qnan f))
    ∧ (a = .snan → FinishesFp recip s f fd (causeV, md.qnan f) ∧ FinishesFp rsqrt s f fd (causeV, md.qnan f))
    ∧ (a = .qnan ∨ (∃ n m e, a = .finite true n m e) → TrapsFp recip s causeE ∧ TrapsFp rsqrt s causeE)
    ∧ (isNormal a = true → somehow recip (exactDiv (.finite false false 1 0) a) ∧ somehow rsqrt (exactRsqrt a))

/-- The 32 compares: the condition's truth of the operands' relation, Invalid for a signaling NaN or, under the last
eight conditions, for unordered operands. -/
def Obligations.Compares : Prop :=
  ∀ (s : State) (ft fs : Reg) (cc : BitVec 3), FpReady s [fs, ft] → (cc = 0#3 ∨ s.cu 3 = true) →
    (∀ p ∈ [(Instr.cFS ft fs cc, 0#4), (.cUnS ft fs cc, 1#4), (.cEqS ft fs cc, 2#4), (.cUeqS ft fs cc, 3#4),
        (.cOltS ft fs cc, 4#4), (.cUltS ft fs cc, 5#4), (.cOleS ft fs cc, 6#4), (.cUleS ft fs cc, 7#4),
        (.cSfS ft fs cc, 8#4), (.cNgleS ft fs cc, 9#4), (.cSeqS ft fs cc, 10#4), (.cNglS ft fs cc, 11#4),
        (.cLtS ft fs cc, 12#4), (.cNgeS ft fs cc, 13#4), (.cLeS ft fs cc, 14#4), (.cNgtS ft fs cc, 15#4)],
      ComparesAs p.1 s p.2 (s.fpVal .s fs) (s.fpVal .s ft) cc)
    ∧ (∀ p ∈ [(Instr.cFD ft fs cc, 0#4), (.cUnD ft fs cc, 1#4), (.cEqD ft fs cc, 2#4), (.cUeqD ft fs cc, 3#4),
        (.cOltD ft fs cc, 4#4), (.cUltD ft fs cc, 5#4), (.cOleD ft fs cc, 6#4), (.cUleD ft fs cc, 7#4),
        (.cSfD ft fs cc, 8#4), (.cNgleD ft fs cc, 9#4), (.cSeqD ft fs cc, 10#4), (.cNglD ft fs cc, 11#4),
        (.cLtD ft fs cc, 12#4), (.cNgeD ft fs cc, 13#4), (.cLeD ft fs cc, 14#4), (.cNgtD ft fs cc, 15#4)],
      ComparesAs p.1 s p.2 (s.fpVal .d fs) (s.fpVal .d ft) cc)

/-- The conversions to fixed point, CVT in the current rounding mode, ROUND, TRUNC, CEIL and FLOOR in their own; the
conversions to floating point, a 64-bit integer outside 52 bits and a sign being Unimplemented. What a conversion to
fixed point gives of each class of value: Unimplemented for a quiet NaN, a denormalized number, an infinity and an
integer out of range, the largest integer for a signaling NaN, otherwise the rounded integer. -/
def Obligations.Conversions : Prop :=
  (∀ (s : State) (fs fd : Reg), FpReady s [fs, fd] →
    let a := s.fpVal .s fs
    let b := s.fpVal .d fs
    (∀ p ∈ [(Instr.cvtWS fs fd, Instr.cvtLS fs fd, s.rounding), (.roundWS fs fd, .roundLS fs fd, .rn),
        (.truncWS fs fd, .truncLS fs fd, .rz), (.ceilWS fs fd, .ceilLS fs fd, .rp),
        (.floorWS fs fd, .floorLS fs fd, .rm)],
      FinishesInt p.1 s .w fd (toInt .w p.2.2 a) ∧ FinishesInt p.2.1 s .l fd (toInt .l p.2.2 a))
    ∧ (∀ p ∈ [(Instr.cvtWD fs fd, Instr.cvtLD fs fd, s.rounding), (.roundWD fs fd, .roundLD fs fd, .rn),
        (.truncWD fs fd, .truncLD fs fd, .rz), (.ceilWD fs fd, .ceilLD fs fd, .rp),
        (.floorWD fs fd, .floorLD fs fd, .rm)],
      FinishesInt p.1 s .w fd (toInt .w p.2.2 b) ∧ FinishesInt p.2.1 s .l fd (toInt .l p.2.2 b)))
  ∧ (∀ (s : State) (fs fd : Reg), FpReady s [fs, fd] →
    FinishesFp (.cvtSD fs fd) s .s fd (screened .s s.fpMode [s.fpVal .d fs] (deliver .s s.fpMode (exactOf (s.fpVal .d fs))))
    ∧ FinishesFp (.cvtDS fs fd) s .d fd (screened .d s.fpMode [s.fpVal .s fs] (deliver .d s.fpMode (exactOf (s.fpVal .s fs))))
    ∧ FinishesFp (.cvtSW fs fd) s .s fd (deliver .s s.fpMode (exactFromInt (s.fpr32 fs).toInt))
    ∧ FinishesFp (.cvtDW fs fd) s .d fd (deliver .d s.fpMode (exactFromInt (s.fpr32 fs).toInt))
    ∧ (let n := (s.fpr64 fs).toInt
       if -2 ^ 52 ≤ n ∧ n < 2 ^ 52 then
         FinishesFp (.cvtSL fs fd) s .s fd (deliver .s s.fpMode (exactFromInt n))
         ∧ FinishesFp (.cvtDL fs fd) s .d fd (deliver .d s.fpMode (exactFromInt n))
       else TrapsFp (.cvtSL fs fd) s causeE ∧ TrapsFp (.cvtDL fs fd) s causeE))
  ∧ ∀ (dst : IntFmt) (mode : Rounding),
    let largest : Word := match dst with | .w => 0x7FFFFFFF#64 | .l => 0x7FFFFFFFFFFFFFFF#64
    let bound : Int := match dst with | .w => 2 ^ 31 | .l => 2 ^ 53
    (toInt dst mode .qnan).1 = causeE ∧ toInt dst mode .snan = (causeV, largest)
    ∧ (∀ n, (toInt dst mode (.inf n)).1 = causeE ∧ toInt dst mode (.zero n) = (0#6, 0#64))
    ∧ (∀ n m e, (toInt dst mode (.finite true n m e)).1 = causeE)
    ∧ ∀ n m e,
      let r := roundInt mode n m e
      (-bound ≤ r.1 ∧ r.1 ≤ bound - 1 →
        toInt dst mode (.finite false n m e) = (if r.2 then causeI else 0#6, BitVec.ofInt 64 r.1))
      ∧ (¬(-bound ≤ r.1 ∧ r.1 ≤ bound - 1) → (toInt dst mode (.finite false n m e)).1 = causeE)

/-- The exact operations stand for the sum, difference, product and quotient of the numbers, the comparison for their
order, the square root for the root of a positive number, and the reciprocal square root for the number whose square
times it is 1; a quotient or root that is not exact has more bits than either format. The special values: of infinities,
zeros and the sign of an exact zero, and what is invalid or a division by zero. -/
def Obligations.ExactOperations : Prop :=
  (∀ (mode : Rounding) (a b : FpVal), a.isNumber → b.isNumber →
    (exactAdd mode a b).Denotes (a.number + b.number) ∧ (exactSub mode a b).Denotes (a.number - b.number)
    ∧ (exactMul a b).Denotes (a.number * b.number)
    ∧ (b.number ≠ 0 → (∀ d n m e, b = .finite d n m e → m < 2 ^ 120) → (exactDiv a b).Denotes (a.number / b.number))
    ∧ (∀ d n m e, b = .finite d n m e → m < 2 ^ 53 → ∀ n' m' e', exactDiv a b = .real n' m' e' true → 2 ^ 53 < m')
    ∧ fpOrder a b = (decide (a.number < b.number), decide (a.number = b.number))
    ∧ (a.number + b.number = 0 → exactAdd mode a b = .zero
        (if a = .zero true ∧ b = .zero true then true else if a = .zero false ∧ b = .zero false then false
          else mode == .rm))
    ∧ (a.number - b.number = 0 → exactSub mode a b = .zero
        (if a = .zero true ∧ b = .zero false then true else if a = .zero false ∧ b = .zero true then false
          else mode == .rm))
    ∧ (a.number * b.number = 0 → exactMul a b = .zero (a.negative != b.negative))
    ∧ (a.number = 0 → b.number ≠ 0 → exactDiv a b = .zero (a.negative != b.negative))
    ∧ (a.number ≠ 0 → b.number = 0 → exactDiv a b = .divByZero (a.negative != b.negative))
    ∧ (a.number = 0 → b.number = 0 → exactDiv a b = .invalid))
  ∧ (∀ (mode : Rounding) (n k : Bool) (a : FpVal), a.isNumber →
    exactAdd mode (.inf n) a = .inf n ∧ exactAdd mode a (.inf n) = .inf n
    ∧ exactSub mode (.inf n) a = .inf n ∧ exactSub mode a (.inf n) = .inf (!n)
    ∧ exactAdd mode (.inf n) (.inf k) = (if n = k then .inf n else .invalid)
    ∧ exactSub mode (.inf n) (.inf k) = (if n = k then .invalid else .inf n)
    ∧ exactMul (.inf n) (.inf k) = .inf (n != k)
    ∧ exactMul (.inf n) a = (if a.number = 0 then .invalid else .inf (n != a.negative))
    ∧ exactMul a (.inf n) = (if a.number = 0 then .invalid else .inf (n != a.negative))
    ∧ exactDiv (.inf n) (.inf k) = .invalid ∧ exactDiv (.inf n) a = .inf (n != a.negative)
    ∧ exactDiv a (.inf n) = .zero (a.negative != n)
    ∧ fpOrder (.inf n) (.inf k) = (n && !k, n == k) ∧ fpOrder (.inf n) a = (n, false) ∧ fpOrder a (.inf n) = (!n, false))
  ∧ (∀ (d : Bool) (m : Nat) (e : Int), 0 < m →
    exactSqrt (.finite d true m e) = .invalid
    ∧ (m < 2 ^ 79 → ∃ q k sticky, exactSqrt (.finite d false m e) = .real false q k sticky ∧ 2 ^ 53 < q
      ∧ (sticky = false → scaled false q k ^ 2 = scaled false m e)
      ∧ (sticky = true → scaled false q k ^ 2 < scaled false m e ∧ scaled false m e < scaled false (q + 1) k ^ 2)))
  ∧ (∀ n : Bool, exactSqrt (.zero n) = .zero n ∧ exactSqrt (.inf n) = (if n then .invalid else .inf false))
  ∧ (∀ (d : Bool) (m : Nat) (e : Int), 0 < m →
    exactRsqrt (.finite d true m e) = .invalid
    ∧ ∃ q k sticky, exactRsqrt (.finite d false m e) = .real false q k sticky ∧ (m < 2 ^ 53 → 2 ^ 53 < q)
      ∧ (sticky = false → scaled false q k ^ 2 * scaled false m e = 1)
      ∧ (sticky = true → scaled false q k ^ 2 * scaled false m e < 1
        ∧ 1 < scaled false (q + 1) k ^ 2 * scaled false m e))
  ∧ (∀ n : Bool, exactRsqrt (.zero n) = .divByZero n ∧ exactRsqrt (.inf n) = if n then .invalid else .zero false)
  ∧ ∀ n : Nat, n < 2 ^ 200 → natSqrt n * natSqrt n ≤ n ∧ n < (natSqrt n + 1) * (natSqrt n + 1)

/-- Rounding to p bits of the number x that an exact result stands for: it is kept where it has p bits; otherwise the
rounded number lies within one unit of x's last place, on the side the mode names, and in the nearest mode within half
a unit, to even when halfway. A result known only to lie between two neighbours (a quotient, a root) is rounded so
whatever it is between them, and is inexact. The same of rounding to an integer. -/
def Obligations.RoundingIsCorrect : Prop :=
  (∀ (p : Nat) (mode : Rounding) (neg : Bool) (m : Nat) (e : Int) (sticky : Bool) (x : Rat), 2 ≤ p →
    (Exact.real neg m e sticky).Denotes x → (sticky = true → 2 ^ p ≤ m) →
    let r := roundTo p mode neg m e sticky
    let y := scaled neg r.1 r.2.1
    let u : Rat := (2 : Rat) ^ (if r.1 = 2 ^ (p - 1) ∧ |x| < |y| then r.2.1 - 1 else r.2.1)
    2 ^ (p - 1) ≤ r.1 ∧ r.1 < 2 ^ p ∧ (r.2.2 = false ↔ x = y) ∧ (sticky = true → r.2.2 = true)
    ∧ (match mode with
      | .rn => 2 * |x - y| ≤ u ∧ (2 * |x - y| = u → r.1 % 2 = 0)
      | .rz => |y| ≤ |x| ∧ |x| < |y| + u
      | .rp => x ≤ y ∧ y < x + u
      | .rm => y ≤ x ∧ x < y + u))
  ∧ ∀ (mode : Rounding) (neg : Bool) (m : Nat) (e : Int),
    let r := roundInt mode neg m e
    let x := scaled neg m e
    let y : Rat := (r.1 : Rat)
    (r.2 = false ↔ x = y)
    ∧ (match mode with
      | .rn => 2 * |x - y| ≤ 1 ∧ (2 * |x - y| = 1 → r.1 % 2 = 0)
      | .rz => |y| ≤ |x| ∧ |x| < |y| + 1
      | .rp => x ≤ y ∧ y < x + 1
      | .rm => y ≤ x ∧ x < y + 1)

/-- What is delivered. An overflow is Overflow and Inexact, with an infinity or the largest finite number by rounding
mode and sign; a tiny result is Unimplemented, or with FS set and U, I not enabled Underflow and Inexact with a zero or
the smallest normalized number; any other real result is the rounded number, Inexact if it differs; special results
have their infinity, zero or default quiet NaN. A normal number, a zero or an infinity delivered in its own format is
the same bits, so ABS and NEG change the sign bit only. And what the bits stand for: sign, exponent and fraction of 1, 8
and 23 bits with bias 127, or of 1, 11 and 52 bits with bias 1023. -/
def Obligations.DeliverOfUnpack : Prop :=
  (∀ w : Word, StandsFor .s w 31 8 23 127 ∧ StandsFor .d w 63 11 52 1023)
  ∧ (∀ (f : FpFmt) (md : FpMode) (w : Word), (f = .s → w.toNat < 2 ^ 32) →
    (isNormal (unpack f w) = true ∨ (∃ n, unpack f w = .zero n) ∨ ∃ n, unpack f w = .inf n) →
    deliver f md (exactOf (unpack f w)) = (0#6, w)
    ∧ deliver f md (exactNeg (unpack f w)) = (0#6, w ^^^ (1#64 <<< fpSignBit f))
    ∧ deliver f md (exactAbs (unpack f w)) = (0#6, w &&& ~~~(1#64 <<< fpSignBit f)))
  ∧ (∀ (f : FpFmt) (md : FpMode) (neg : Bool) (m : Nat) (e : Int) (sticky : Bool), 0 < m →
    let r := roundTo (fpPrec f) md.rounding neg m e sticky
    let d := deliver f md (.real neg m e sticky)
    let ex : Int := r.2.1 + fpPrec f - 1
    let away : Prop := (md.rounding = .rp ∧ neg = false) ∨ (md.rounding = .rm ∧ neg = true)
    (fpEmax f < ex → d.1 = causeOI
      ∧ (md.rounding = .rn ∨ away → unpack f d.2 = .inf neg)
      ∧ (¬(md.rounding = .rn ∨ away) → unpack f d.2 = .finite false neg (2 ^ fpPrec f - 1) (fpEmax f - fpPrec f + 1)))
    ∧ (ex < 1 - (fpEmax f : Int) →
      (md.uiEnabled = true ∨ md.fs = false → d.1 = causeE)
      ∧ (md.uiEnabled = false → md.fs = true → d.1 = causeUI
        ∧ (away → unpack f d.2 = .finite false neg (2 ^ (fpPrec f - 1)) (2 - (fpEmax f : Int) - fpPrec f))
        ∧ (¬away → unpack f d.2 = .zero neg)))
    ∧ (1 - (fpEmax f : Int) ≤ ex → ex ≤ fpEmax f →
      d.1 = (if r.2.2 then causeI else 0#6) ∧ unpack f d.2 = .finite false neg r.1 r.2.1))
  ∧ ∀ (f : FpFmt) (md : FpMode),
    deliver f md .invalid = (causeV, md.qnan f)
    ∧ ∀ n, (deliver f md (.divByZero n)).1 = causeZ ∧ unpack f (deliver f md (.divByZero n)).2 = .inf n
      ∧ (deliver f md (.zero n)).1 = 0#6 ∧ unpack f (deliver f md (.zero n)).2 = .zero n
      ∧ (deliver f md (.inf n)).1 = 0#6 ∧ unpack f (deliver f md (.inf n)).2 = .inf n
end

