-- ==== Sys2Proof/Laws/Memory.lean ====
section
/-! SUPPORT. The laws of memory: what a write leaves everywhere, and that every operation keeps the canonical form. -/

namespace Sys2Proof.Machine

set_option Elab.async false

/-! ### One byte -/

theorem memRead_memInsert (c : Host.Cell) (m : List Host.Cell) (b : Nat) (h : ∀ d ∈ m, d.1 ≠ c.1) :
    memRead (memInsert c m) b = if c.1 = b then c.2 else memRead m b := by
  induction m with
  | nil => rfl
  | cons d m ih =>
    have hd : d.1 ≠ c.1 := h d (by simp)
    unfold memInsert
    split
    · rfl
    · simp only [memRead, ih fun x hx => h x (by simp [hx])]
      by_cases h1 : d.1 = b
      · have : c.1 ≠ b := fun e => hd (h1.trans e.symm)
        simp [h1, this]
      · simp [h1]

theorem memRead_filter (m : List Host.Cell) (a b : Nat) :
    memRead (m.filter fun c => decide (c.1 ≠ a)) b = if b = a then unlistedByte else memRead m b := by
  induction m with
  | nil => simp [memRead]
  | cons d m ih =>
    by_cases h : d.1 = a
    · rw [List.filter_cons_of_neg (by simp [h]), ih]
      by_cases hb : b = a
      · simp [hb]
      · have : d.1 ≠ b := fun e => hb (e.symm.trans h)
        simp [hb, memRead, this]
    · rw [List.filter_cons_of_pos (by simp [h])]
      simp only [memRead, ih]
      by_cases h1 : d.1 = b
      · have : b ≠ a := fun e => h (h1.trans e)
        simp [h1, this]
      · simp [h1]

/-- What one write leaves at every address. -/
theorem memRead_memWrite (m : List Host.Cell) (a b : Nat) (v : Byte) :
    memRead (memWrite m a v) b = if b = a then v else memRead m b := by
  unfold memWrite
  dsimp only
  split
  · rename_i h
    rw [memRead_filter, h]
  · rw [memRead_memInsert _ _ _ (by intro d hd; simpa using (List.mem_filter.1 hd).2), memRead_filter]
    by_cases h : a = b
    · simp [h]
    · simp [h, Ne.symm h]

@[simp] theorem memRead_memWrite_same (m : List Host.Cell) (a : Nat) (v : Byte) : memRead (memWrite m a v) a = v := by
  simp [memRead_memWrite]

theorem memRead_memWrite_other (m : List Host.Cell) (a b : Nat) (v : Byte) (h : b ≠ a) :
    memRead (memWrite m a v) b = memRead m b := by simp [memRead_memWrite, h]

/-! ### The canonical form -/

theorem memAbove_iff (a : Nat) (m : List Host.Cell) : memAbove a m = true ↔ ∀ c ∈ m, a < c.1 := by
  simp [memAbove]

theorem wf_cons (c : Host.Cell) (m : List Host.Cell) :
    Memory.wf (c :: m) = true ↔ (∀ d ∈ m, c.1 < d.1) ∧ c.2 ≠ unlistedByte ∧ Memory.wf m = true := by
  simp [Memory.wf, memAbove_iff, and_assoc]

theorem wf_filter (p : Host.Cell → Bool) (m : List Host.Cell) (h : Memory.wf m = true) :
    Memory.wf (m.filter p) = true := by
  induction m with
  | nil => rfl
  | cons d m ih =>
    obtain ⟨h1, h2, h3⟩ := (wf_cons d m).1 h
    by_cases hp : p d = true
    · rw [List.filter_cons_of_pos hp, wf_cons]
      exact ⟨fun e he => h1 e (List.mem_filter.1 he).1, h2, ih h3⟩
    · rw [List.filter_cons_of_neg hp]; exact ih h3

theorem mem_memInsert (c d : Host.Cell) (m : List Host.Cell) : d ∈ memInsert c m ↔ d = c ∨ d ∈ m := by
  induction m with
  | nil => simp [memInsert]
  | cons e m ih =>
    unfold memInsert
    split
    · simp
    · simp only [List.mem_cons, ih]; tauto

theorem wf_memInsert (c : Host.Cell) (m : List Host.Cell) (h : Memory.wf m = true) (hc : c.2 ≠ unlistedByte)
    (ha : ∀ d ∈ m, d.1 ≠ c.1) : Memory.wf (memInsert c m) = true := by
  induction m with
  | nil => simp [memInsert, Memory.wf, memAbove, hc]
  | cons d m ih =>
    obtain ⟨h1, h2, h3⟩ := (wf_cons d m).1 h
    have hd : d.1 ≠ c.1 := ha d (by simp)
    unfold memInsert
    split
    · rename_i hlt
      refine (wf_cons _ _).2 ⟨fun e he => ?_, hc, h⟩
      rcases List.mem_cons.1 he with rfl | he
      · exact hlt
      · exact lt_trans hlt (h1 e he)
    · rename_i hlt
      refine (wf_cons _ _).2 ⟨fun e he => ?_, h2, ih h3 fun x hx => ha x (by simp [hx])⟩
      rcases (mem_memInsert c e m).1 he with rfl | he
      · omega
      · exact h1 e he

/-- A write keeps the canonical form. -/
theorem wf_memWrite (m : List Host.Cell) (a : Nat) (v : Byte) (h : Memory.wf m = true) :
    Memory.wf (memWrite m a v) = true := by
  unfold memWrite
  dsimp only
  split
  · exact wf_filter _ m h
  · exact wf_memInsert _ _ (wf_filter _ m h) ‹_› (by intro d hd; simpa using (List.mem_filter.1 hd).2)

/-! ### Several bytes -/

/-- Writing several bytes keeps the canonical form. -/
theorem wf_memWriteAll (lane : Nat → Nat) (m : List Host.Cell) (a : Nat) (vs : List Byte)
    (h : Memory.wf m = true) : Memory.wf (memWriteAll lane m a vs) = true := by
  induction vs generalizing m a with
  | nil => exact h
  | cons v vs ih => exact ih _ _ (wf_memWrite m _ _ h)

/-- Bytes outside the field are as before. -/
theorem memRead_memWriteAll_outside (lane : Nat → Nat) (m : List Host.Cell) (a b : Nat) (vs : List Byte)
    (h : ∀ k < vs.length, b ≠ lane (a + k)) : memRead (memWriteAll lane m a vs) b = memRead m b := by
  induction vs generalizing m a with
  | nil => rfl
  | cons v vs ih =>
    rw [memWriteAll, ih _ _ fun k hk => by have := h (k + 1) (by simpa using hk); rwa [show a + 1 + k = a + (k + 1) by omega],
      memRead_memWrite_other _ _ _ _ (by simpa using h 0 (by simp))]

/-- Byte k of the field is the k-th value written, if the lanes differ. -/
theorem memRead_memWriteAll_inside (lane : Nat → Nat) (hl : ∀ x y, lane x = lane y → x = y) (m : List Host.Cell)
    (a k : Nat) (vs : List Byte) (h : k < vs.length) :
    memRead (memWriteAll lane m a vs) (lane (a + k)) = vs[k] := by
  induction vs generalizing m a k with
  | nil => exact absurd h (Nat.not_lt_zero k)
  | cons v vs ih =>
    cases k with
    | zero =>
      rw [memWriteAll, memRead_memWriteAll_outside _ _ _ _ _ fun j _ e => by have := hl _ _ e; omega]
      simp
    | succ k =>
      have := ih (memWrite m (lane a) v) (a + 1) k (by simpa using h)
      rw [memWriteAll, show a + (k + 1) = a + 1 + k by omega, this]
      rfl

theorem wf_scrambleLine (s : State) (line : Nat) (m : List Host.Cell) (h : Memory.wf m = true) :
    Memory.wf (scrambleLine s line m) = true := wf_memWriteAll _ _ _ _ h

theorem wf_setField (s : State) (attr : BitVec 3) (pa n : Nat) (v : Word) (h : Memory.wf s.mem = true) :
    Memory.wf (s.setField attr pa n v).mem = true := by
  have e : (s.setField attr pa n v).mem
      = memWriteAll s.lane s.mem pa (if s.bigEndianCpu then splitBytes v n else (splitBytes v n).reverse) := by
    unfold State.setField recordStore; dsimp only; split <;> rfl
  exact e ▸ wf_memWriteAll _ _ _ _ h

theorem wf_scrambleDirty (s : State) (h : Memory.wf s.mem = true) : Memory.wf (scrambleDirty s).mem = true := by
  unfold scrambleDirty
  dsimp only
  generalize s.maybeDirty = ls
  generalize hm : s.mem = m at h
  clear hm
  induction ls generalizing m with
  | nil => exact h
  | cons l ls ih => exact ih _ (wf_scrambleLine s l m h)

theorem wf_discardLine (line : Nat) (s : State) (h : Memory.wf s.mem = true) :
    Memory.wf (discardLine line s).mem = true := by
  unfold discardLine
  split
  · exact wf_scrambleLine s line s.mem h
  · exact h

theorem wf_scrambleBytes (s : State) (as : List Nat) (m : List Host.Cell) (h : Memory.wf m = true) :
    Memory.wf (scrambleBytes s as m) = true := by
  unfold scrambleBytes
  induction as generalizing m with
  | nil => exact h
  | cons a as ih => exact ih _ (wf_memWrite m _ _ h)

/-- A Soft Reset keeps the canonical form. -/
theorem wf_takeSoftReset (s : State) (h : Memory.wf s.mem = true) : Memory.wf (takeSoftReset s).mem = true :=
  wf_scrambleBytes _ _ _ (wf_scrambleDirty s h)

theorem wf_claimLine (line : Nat) (s : State) (h : Memory.wf s.mem = true) :
    Memory.wf (claimLine line s).mem = true := wf_scrambleLine s line s.mem h

/-! ### The record of stored bytes (20_memory R194) -/

/-- What a mark on one byte leaves of the record: the byte's entry gains its contents, every other entry stays. -/
theorem find_staleMark (st : List StaleByte) (x a : Nat) (old : Byte) :
    (staleMark st x old).find? (fun e => e.addr == a) =
      if a = x then
        some (match st.find? (fun e => e.addr == a) with
          | some e => { e with olds := e.olds.insert old, held := e.held.insert old }
          | none => { addr := x, olds := [old], held := [old] })
      else st.find? (fun e => e.addr == a) := by
  unfold staleMark
  split
  · rename_i hx
    have hp : ((fun e : StaleByte => e.addr == a) ∘ fun e =>
        if e.addr = x then { e with olds := e.olds.insert old, held := e.held.insert old } else e)
        = fun e => e.addr == a := by
      funext e
      by_cases he : e.addr = x <;> simp [he]
    rw [List.find?_map, hp]
    cases hf : st.find? (fun e => e.addr == a) with
    | none =>
      split
      · rename_i hax
        subst hax
        obtain ⟨e, he, hea⟩ := List.any_eq_true.1 hx
        simpa [hea] using List.find?_eq_none.1 hf e he
      · rfl
    | some e =>
      have hea : e.addr = a := by simpa using List.find?_some hf
      by_cases hax : a = x <;> simp [hea, hax]
  · rename_i hx
    by_cases hax : a = x
    · subst hax
      have hn : st.find? (fun e => e.addr == a) = none :=
        List.find?_eq_none.2 fun e he hea => hx (List.any_eq_true.2 ⟨e, he, hea⟩)
      simp [hn]
    · have : ¬x = a := fun h => hax h.symm
      simp [hax, this]

theorem mem_staleOlds_staleMark (st : List StaleByte) (x a : Nat) (old v : Byte) :
    v ∈ staleOlds (staleMark st x old) a ↔ v ∈ staleOlds st a ∨ (a = x ∧ v = old) := by
  unfold staleOlds
  rw [find_staleMark]
  by_cases h : a = x
  · cases st.find? (fun e => e.addr == a) <;> simp [h, or_comm]
  · simp [h]

theorem lanes_succ (lane : Nat → Nat) (pa n : Nat) :
    (List.range (n + 1)).map (fun k => lane (pa + k)) = lane pa :: (List.range n).map (fun k => lane (pa + 1 + k)) := by
  simp [List.range_succ_eq_map, Function.comp_def, Nat.add_comm, Nat.add_left_comm]

/-- A store to n bytes adds their contents to the record, and nothing else. -/
theorem mem_staleOlds_staleMarkAll (lane : Nat → Nat) (m : List Host.Cell) (st : List StaleByte) (pa n a : Nat)
    (v : Byte) :
    v ∈ staleOlds (staleMarkAll lane m st pa n) a
      ↔ v ∈ staleOlds st a ∨ (a ∈ (List.range n).map (fun k => lane (pa + k)) ∧ v = memRead m a) := by
  induction n generalizing st pa with
  | zero => simp [staleMarkAll]
  | succ n ih =>
    rw [staleMarkAll, ih, mem_staleOlds_staleMark, lanes_succ, List.mem_cons]
    constructor
    · rintro ((h | ⟨rfl, rfl⟩) | ⟨h, rfl⟩)
      · exact .inl h
      · exact .inr ⟨.inl rfl, rfl⟩
      · exact .inr ⟨.inr h, rfl⟩
    · rintro (h | ⟨rfl | h, rfl⟩)
      · exact .inl (.inl h)
      · exact .inl (.inr ⟨rfl, rfl⟩)
      · exact .inr ⟨h, rfl⟩

/-- A mark keeps what the instruction cache may be filled with, and adds the contents of its byte. -/
theorem held_staleMark (m : List Host.Cell) (st : List StaleByte) (x : Nat) (Q : Nat → Prop)
    (h : ∀ e ∈ st, Q e.addr → memRead m e.addr ∈ e.held) :
    ∀ e ∈ staleMark st x (memRead m x), Q e.addr ∨ e.addr = x → memRead m e.addr ∈ e.held := by
  intro e he hq
  unfold staleMark at he
  split at he
  · obtain ⟨f, hf, rfl⟩ := List.mem_map.1 he
    by_cases hx : f.addr = x
    · simp [hx]
    · rw [if_neg hx] at hq ⊢
      exact h f hf (hq.resolve_right hx)
  · rename_i hn
    rcases List.mem_cons.1 he with rfl | he
    · simp
    · exact h e he (hq.resolve_right fun hx => hn (List.any_eq_true.2 ⟨e, he, by simpa using hx⟩))

/-- After a store the contents of a stored byte are among what the instruction cache may be filled with. -/
theorem held_staleMarkAll (lane : Nat → Nat) (m : List Host.Cell) (st : List StaleByte) (pa n : Nat) (Q : Nat → Prop)
    (h : ∀ e ∈ st, Q e.addr → memRead m e.addr ∈ e.held) :
    ∀ e ∈ staleMarkAll lane m st pa n, Q e.addr ∨ e.addr ∈ (List.range n).map (fun k => lane (pa + k)) →
      memRead m e.addr ∈ e.held := by
  induction n generalizing st pa Q with
  | zero => simpa [staleMarkAll] using h
  | succ n ih =>
    intro e he hq
    refine ih _ (pa + 1) (fun a => Q a ∨ a = lane pa) (held_staleMark m st (lane pa) Q h) e he ?_
    rw [lanes_succ, List.mem_cons] at hq
    tauto

/-- The placing of a word keeps the canonical form. -/
theorem wf_placeWord (s : State) (w : BitVec 32) (h : Memory.wf s.mem = true) :
    Memory.wf (placeWord s w).mem = true := by
  unfold placeWord
  split
  · exact wf_memWriteAll _ _ _ _ h
  · exact h

/-- Memory after reset is in canonical form. -/
theorem wf_reset : Memory.wf State.reset.mem = true := rfl

/-- The lanes of a field are distinct addresses. -/
theorem lane_injective (s : State) (x y : Nat) (h : s.lane x = s.lane y) : x = y := by
  unfold State.lane at h
  split at h
  · exact Nat.xor_left_injective h
  · exact h

end Sys2Proof.Machine
end

