-- ==== Sys2Proof/Laws/State.lean ====
section
/-! SUPPORT. What each update of the state does to each field, and what the register accessors read after it. -/

namespace Sys2Proof.Machine

set_option Elab.async false

/-! ### setGpr -/

@[simp] theorem setGpr_pc (r : Reg) (v : Word) (s : State) : (setGpr r v s).pc = s.pc := by unfold setGpr; split <;> rfl
@[simp] theorem setGpr_next (r : Reg) (v : Word) (s : State) : (setGpr r v s).next = s.next := by unfold setGpr; split <;> rfl
@[simp] theorem setGpr_hi (r : Reg) (v : Word) (s : State) : (setGpr r v s).hi = s.hi := by unfold setGpr; split <;> rfl
@[simp] theorem setGpr_lo (r : Reg) (v : Word) (s : State) : (setGpr r v s).lo = s.lo := by unfold setGpr; split <;> rfl
@[simp] theorem setGpr_hiTag (r : Reg) (v : Word) (s : State) : (setGpr r v s).hiTag = s.hiTag := by unfold setGpr; split <;> rfl
@[simp] theorem setGpr_loTag (r : Reg) (v : Word) (s : State) : (setGpr r v s).loTag = s.loTag := by unfold setGpr; split <;> rfl
@[simp] theorem setGpr_hiGuard (r : Reg) (v : Word) (s : State) : (setGpr r v s).hiGuard = s.hiGuard := by unfold setGpr; split <;> rfl
@[simp] theorem setGpr_loGuard (r : Reg) (v : Word) (s : State) : (setGpr r v s).loGuard = s.loGuard := by unfold setGpr; split <;> rfl
@[simp] theorem setGpr_llbit (r : Reg) (v : Word) (s : State) : (setGpr r v s).llbit = s.llbit := by unfold setGpr; split <;> rfl
@[simp] theorem setGpr_link (r : Reg) (v : Word) (s : State) : (setGpr r v s).link = s.link := by unfold setGpr; split <;> rfl
@[simp] theorem setGpr_fgr (r : Reg) (v : Word) (s : State) : (setGpr r v s).fgr = s.fgr := by unfold setGpr; split <;> rfl
@[simp] theorem setGpr_fcr0 (r : Reg) (v : Word) (s : State) : (setGpr r v s).fcr0 = s.fcr0 := by unfold setGpr; split <;> rfl
@[simp] theorem setGpr_fcr31 (r : Reg) (v : Word) (s : State) : (setGpr r v s).fcr31 = s.fcr31 := by unfold setGpr; split <;> rfl
@[simp] theorem setGpr_fccPrev (r : Reg) (v : Word) (s : State) : (setGpr r v s).fccPrev = s.fccPrev := by unfold setGpr; split <;> rfl
@[simp] theorem setGpr_cp0 (r : Reg) (v : Word) (s : State) : (setGpr r v s).cp0 = s.cp0 := by unfold setGpr; split <;> rfl
@[simp] theorem setGpr_timerLatch (r : Reg) (v : Word) (s : State) : (setGpr r v s).timerLatch = s.timerLatch := by unfold setGpr; split <;> rfl
@[simp] theorem setGpr_randomHold (r : Reg) (v : Word) (s : State) : (setGpr r v s).randomHold = s.randomHold := by unfold setGpr; split <;> rfl
@[simp] theorem setGpr_tlb (r : Reg) (v : Word) (s : State) : (setGpr r v s).tlb = s.tlb := by unfold setGpr; split <;> rfl
@[simp] theorem setGpr_recent (r : Reg) (v : Word) (s : State) : (setGpr r v s).recent = s.recent := by unfold setGpr; split <;> rfl
@[simp] theorem setGpr_mem (r : Reg) (v : Word) (s : State) : (setGpr r v s).mem = s.mem := by unfold setGpr; split <;> rfl
@[simp] theorem setGpr_stale (r : Reg) (v : Word) (s : State) : (setGpr r v s).stale = s.stale := by unfold setGpr; split <;> rfl
@[simp] theorem setGpr_maybeDirty (r : Reg) (v : Word) (s : State) : (setGpr r v s).maybeDirty = s.maybeDirty := by unfold setGpr; split <;> rfl
@[simp] theorem setGpr_unwritten (r : Reg) (v : Word) (s : State) : (setGpr r v s).unwritten = s.unwritten := by unfold setGpr; split <;> rfl
@[simp] theorem setGpr_writeBuffer (r : Reg) (v : Word) (s : State) : (setGpr r v s).writeBuffer = s.writeBuffer := by unfold setGpr; split <;> rfl
@[simp] theorem setGpr_deviceStores (r : Reg) (v : Word) (s : State) : (setGpr r v s).deviceStores = s.deviceStores := by unfold setGpr; split <;> rfl
@[simp] theorem setGpr_caches (r : Reg) (v : Word) (s : State) : (setGpr r v s).caches = s.caches := by unfold setGpr; split <;> rfl
@[simp] theorem setGpr_physMap (r : Reg) (v : Word) (s : State) : (setGpr r v s).physMap = s.physMap := by unfold setGpr; split <;> rfl
@[simp] theorem setGpr_timerIntOnIP7 (r : Reg) (v : Word) (s : State) : (setGpr r v s).timerIntOnIP7 = s.timerIntOnIP7 := by unfold setGpr; split <;> rfl
@[simp] theorem setGpr_hiloHazard (r : Reg) (v : Word) (s : State) : (setGpr r v s).hiloHazard = s.hiloHazard := by unfold setGpr; split <;> rfl
@[simp] theorem setGpr_cp0Hazard (r : Reg) (v : Word) (s : State) : (setGpr r v s).cp0Hazard = s.cp0Hazard := by unfold setGpr; split <;> rfl
@[simp] theorem setGpr_qnanS (r : Reg) (v : Word) (s : State) : (setGpr r v s).qnanS = s.qnanS := by unfold setGpr; split <;> rfl
@[simp] theorem setGpr_qnanD (r : Reg) (v : Word) (s : State) : (setGpr r v s).qnanD = s.qnanD := by unfold setGpr; split <;> rfl
@[simp] theorem setGpr_pins (r : Reg) (v : Word) (s : State) : (setGpr r v s).pins = s.pins := by unfold setGpr; split <;> rfl
@[simp] theorem setGpr_draws (r : Reg) (v : Word) (s : State) : (setGpr r v s).draws = s.draws := by unfold setGpr; split <;> rfl
@[simp] theorem setGpr_fgrRead (r : Reg) (v : Word) (s : State) (k : Reg) : (setGpr r v s).fgrRead k = s.fgrRead k := by simp [State.fgrRead]
@[simp] theorem setGpr_statusSeen (r : Reg) (v : Word) (s : State) : (setGpr r v s).statusSeen = s.statusSeen := by simp [State.statusSeen, State.pickOld, State.pick, State.free]
@[simp] theorem setGpr_fr (r : Reg) (v : Word) (s : State) : (setGpr r v s).fr = s.fr := by simp [State.fr]
@[simp] theorem setGpr_cu (r : Reg) (v : Word) (s : State) (z : Nat) : (setGpr r v s).cu z = s.cu z := by simp [State.cu]

/-! ### setFgr -/

@[simp] theorem setFgr_pc (i : Reg) (v : Word) (s : State) : (setFgr i v s).pc = s.pc := rfl
@[simp] theorem setFgr_next (i : Reg) (v : Word) (s : State) : (setFgr i v s).next = s.next := rfl
@[simp] theorem setFgr_regs (i : Reg) (v : Word) (s : State) : (setFgr i v s).regs = s.regs := rfl
@[simp] theorem setFgr_hi (i : Reg) (v : Word) (s : State) : (setFgr i v s).hi = s.hi := rfl
@[simp] theorem setFgr_lo (i : Reg) (v : Word) (s : State) : (setFgr i v s).lo = s.lo := rfl
@[simp] theorem setFgr_hiTag (i : Reg) (v : Word) (s : State) : (setFgr i v s).hiTag = s.hiTag := rfl
@[simp] theorem setFgr_loTag (i : Reg) (v : Word) (s : State) : (setFgr i v s).loTag = s.loTag := rfl
@[simp] theorem setFgr_hiGuard (i : Reg) (v : Word) (s : State) : (setFgr i v s).hiGuard = s.hiGuard := rfl
@[simp] theorem setFgr_loGuard (i : Reg) (v : Word) (s : State) : (setFgr i v s).loGuard = s.loGuard := rfl
@[simp] theorem setFgr_llbit (i : Reg) (v : Word) (s : State) : (setFgr i v s).llbit = s.llbit := rfl
@[simp] theorem setFgr_link (i : Reg) (v : Word) (s : State) : (setFgr i v s).link = s.link := rfl
@[simp] theorem setFgr_fgr (i : Reg) (v : Word) (s : State) : (setFgr i v s).fgr = s.fgr.set i.toNat v i.isLt := rfl
@[simp] theorem setFgr_fcr0 (i : Reg) (v : Word) (s : State) : (setFgr i v s).fcr0 = s.fcr0 := rfl
@[simp] theorem setFgr_fcr31 (i : Reg) (v : Word) (s : State) : (setFgr i v s).fcr31 = s.fcr31 := rfl
@[simp] theorem setFgr_fccPrev (i : Reg) (v : Word) (s : State) : (setFgr i v s).fccPrev = s.fccPrev := rfl
@[simp] theorem setFgr_cp0 (i : Reg) (v : Word) (s : State) : (setFgr i v s).cp0 = s.cp0 := rfl
@[simp] theorem setFgr_timerLatch (i : Reg) (v : Word) (s : State) : (setFgr i v s).timerLatch = s.timerLatch := rfl
@[simp] theorem setFgr_randomHold (i : Reg) (v : Word) (s : State) : (setFgr i v s).randomHold = s.randomHold := rfl
@[simp] theorem setFgr_tlb (i : Reg) (v : Word) (s : State) : (setFgr i v s).tlb = s.tlb := rfl
@[simp] theorem setFgr_recent (i : Reg) (v : Word) (s : State) : (setFgr i v s).recent = s.recent := rfl
@[simp] theorem setFgr_mem (i : Reg) (v : Word) (s : State) : (setFgr i v s).mem = s.mem := rfl
@[simp] theorem setFgr_stale (i : Reg) (v : Word) (s : State) : (setFgr i v s).stale = s.stale := rfl
@[simp] theorem setFgr_maybeDirty (i : Reg) (v : Word) (s : State) : (setFgr i v s).maybeDirty = s.maybeDirty := rfl
@[simp] theorem setFgr_unwritten (i : Reg) (v : Word) (s : State) : (setFgr i v s).unwritten = s.unwritten := rfl
@[simp] theorem setFgr_writeBuffer (i : Reg) (v : Word) (s : State) : (setFgr i v s).writeBuffer = s.writeBuffer := rfl
@[simp] theorem setFgr_deviceStores (i : Reg) (v : Word) (s : State) : (setFgr i v s).deviceStores = s.deviceStores := rfl
@[simp] theorem setFgr_caches (i : Reg) (v : Word) (s : State) : (setFgr i v s).caches = s.caches := rfl
@[simp] theorem setFgr_physMap (i : Reg) (v : Word) (s : State) : (setFgr i v s).physMap = s.physMap := rfl
@[simp] theorem setFgr_timerIntOnIP7 (i : Reg) (v : Word) (s : State) : (setFgr i v s).timerIntOnIP7 = s.timerIntOnIP7 := rfl
@[simp] theorem setFgr_hiloHazard (i : Reg) (v : Word) (s : State) : (setFgr i v s).hiloHazard = s.hiloHazard := rfl
@[simp] theorem setFgr_cp0Hazard (i : Reg) (v : Word) (s : State) : (setFgr i v s).cp0Hazard = s.cp0Hazard := rfl
@[simp] theorem setFgr_qnanS (i : Reg) (v : Word) (s : State) : (setFgr i v s).qnanS = s.qnanS := rfl
@[simp] theorem setFgr_qnanD (i : Reg) (v : Word) (s : State) : (setFgr i v s).qnanD = s.qnanD := rfl
@[simp] theorem setFgr_pins (i : Reg) (v : Word) (s : State) : (setFgr i v s).pins = s.pins := rfl
@[simp] theorem setFgr_draws (i : Reg) (v : Word) (s : State) : (setFgr i v s).draws = s.draws := rfl
@[simp] theorem setFgr_gpr (i : Reg) (v : Word) (s : State) (k : Reg) : (setFgr i v s).gpr k = s.gpr k := by simp [State.gpr]
@[simp] theorem setFgr_statusSeen (i : Reg) (v : Word) (s : State) : (setFgr i v s).statusSeen = s.statusSeen := rfl
@[simp] theorem setFgr_fr (i : Reg) (v : Word) (s : State) : (setFgr i v s).fr = s.fr := by simp [State.fr]
@[simp] theorem setFgr_cu (i : Reg) (v : Word) (s : State) (z : Nat) : (setFgr i v s).cu z = s.cu z := by simp [State.cu]

/-! ### setFgrLow -/

@[simp] theorem setFgrLow_pc (i : Reg) (v : BitVec 32) (s : State) : (setFgrLow i v s).pc = s.pc := rfl
@[simp] theorem setFgrLow_next (i : Reg) (v : BitVec 32) (s : State) : (setFgrLow i v s).next = s.next := rfl
@[simp] theorem setFgrLow_regs (i : Reg) (v : BitVec 32) (s : State) : (setFgrLow i v s).regs = s.regs := rfl
@[simp] theorem setFgrLow_hi (i : Reg) (v : BitVec 32) (s : State) : (setFgrLow i v s).hi = s.hi := rfl
@[simp] theorem setFgrLow_lo (i : Reg) (v : BitVec 32) (s : State) : (setFgrLow i v s).lo = s.lo := rfl
@[simp] theorem setFgrLow_hiTag (i : Reg) (v : BitVec 32) (s : State) : (setFgrLow i v s).hiTag = s.hiTag := rfl
@[simp] theorem setFgrLow_loTag (i : Reg) (v : BitVec 32) (s : State) : (setFgrLow i v s).loTag = s.loTag := rfl
@[simp] theorem setFgrLow_hiGuard (i : Reg) (v : BitVec 32) (s : State) : (setFgrLow i v s).hiGuard = s.hiGuard := rfl
@[simp] theorem setFgrLow_loGuard (i : Reg) (v : BitVec 32) (s : State) : (setFgrLow i v s).loGuard = s.loGuard := rfl
@[simp] theorem setFgrLow_llbit (i : Reg) (v : BitVec 32) (s : State) : (setFgrLow i v s).llbit = s.llbit := rfl
@[simp] theorem setFgrLow_link (i : Reg) (v : BitVec 32) (s : State) : (setFgrLow i v s).link = s.link := rfl
@[simp] theorem setFgrLow_fcr0 (i : Reg) (v : BitVec 32) (s : State) : (setFgrLow i v s).fcr0 = s.fcr0 := rfl
@[simp] theorem setFgrLow_fcr31 (i : Reg) (v : BitVec 32) (s : State) : (setFgrLow i v s).fcr31 = s.fcr31 := rfl
@[simp] theorem setFgrLow_fccPrev (i : Reg) (v : BitVec 32) (s : State) : (setFgrLow i v s).fccPrev = s.fccPrev := rfl
@[simp] theorem setFgrLow_cp0 (i : Reg) (v : BitVec 32) (s : State) : (setFgrLow i v s).cp0 = s.cp0 := rfl
@[simp] theorem setFgrLow_timerLatch (i : Reg) (v : BitVec 32) (s : State) : (setFgrLow i v s).timerLatch = s.timerLatch := rfl
@[simp] theorem setFgrLow_randomHold (i : Reg) (v : BitVec 32) (s : State) : (setFgrLow i v s).randomHold = s.randomHold := rfl
@[simp] theorem setFgrLow_tlb (i : Reg) (v : BitVec 32) (s : State) : (setFgrLow i v s).tlb = s.tlb := rfl
@[simp] theorem setFgrLow_recent (i : Reg) (v : BitVec 32) (s : State) : (setFgrLow i v s).recent = s.recent := rfl
@[simp] theorem setFgrLow_mem (i : Reg) (v : BitVec 32) (s : State) : (setFgrLow i v s).mem = s.mem := rfl
@[simp] theorem setFgrLow_stale (i : Reg) (v : BitVec 32) (s : State) : (setFgrLow i v s).stale = s.stale := rfl
@[simp] theorem setFgrLow_maybeDirty (i : Reg) (v : BitVec 32) (s : State) : (setFgrLow i v s).maybeDirty = s.maybeDirty := rfl
@[simp] theorem setFgrLow_unwritten (i : Reg) (v : BitVec 32) (s : State) : (setFgrLow i v s).unwritten = s.unwritten := rfl
@[simp] theorem setFgrLow_writeBuffer (i : Reg) (v : BitVec 32) (s : State) : (setFgrLow i v s).writeBuffer = s.writeBuffer := rfl
@[simp] theorem setFgrLow_deviceStores (i : Reg) (v : BitVec 32) (s : State) : (setFgrLow i v s).deviceStores = s.deviceStores := rfl
@[simp] theorem setFgrLow_caches (i : Reg) (v : BitVec 32) (s : State) : (setFgrLow i v s).caches = s.caches := rfl
@[simp] theorem setFgrLow_physMap (i : Reg) (v : BitVec 32) (s : State) : (setFgrLow i v s).physMap = s.physMap := rfl
@[simp] theorem setFgrLow_timerIntOnIP7 (i : Reg) (v : BitVec 32) (s : State) : (setFgrLow i v s).timerIntOnIP7 = s.timerIntOnIP7 := rfl
@[simp] theorem setFgrLow_hiloHazard (i : Reg) (v : BitVec 32) (s : State) : (setFgrLow i v s).hiloHazard = s.hiloHazard := rfl
@[simp] theorem setFgrLow_cp0Hazard (i : Reg) (v : BitVec 32) (s : State) : (setFgrLow i v s).cp0Hazard = s.cp0Hazard := rfl
@[simp] theorem setFgrLow_qnanS (i : Reg) (v : BitVec 32) (s : State) : (setFgrLow i v s).qnanS = s.qnanS := rfl
@[simp] theorem setFgrLow_qnanD (i : Reg) (v : BitVec 32) (s : State) : (setFgrLow i v s).qnanD = s.qnanD := rfl
@[simp] theorem setFgrLow_pins (i : Reg) (v : BitVec 32) (s : State) : (setFgrLow i v s).pins = s.pins := rfl
@[simp] theorem setFgrLow_draws (i : Reg) (v : BitVec 32) (s : State) : (setFgrLow i v s).draws = s.draws := rfl
@[simp] theorem setFgrLow_gpr (i : Reg) (v : BitVec 32) (s : State) (k : Reg) : (setFgrLow i v s).gpr k = s.gpr k := by simp [State.gpr]
@[simp] theorem setFgrLow_statusSeen (i : Reg) (v : BitVec 32) (s : State) : (setFgrLow i v s).statusSeen = s.statusSeen := rfl
@[simp] theorem setFgrLow_fr (i : Reg) (v : BitVec 32) (s : State) : (setFgrLow i v s).fr = s.fr := by simp [State.fr]
@[simp] theorem setFgrLow_cu (i : Reg) (v : BitVec 32) (s : State) (z : Nat) : (setFgrLow i v s).cu z = s.cu z := by simp [State.cu]

/-! ### setFpr64 -/

@[simp] theorem setFpr64_pc (i : Reg) (v : Word) (s : State) : (setFpr64 i v s).pc = s.pc := by unfold setFpr64; split <;> rfl
@[simp] theorem setFpr64_next (i : Reg) (v : Word) (s : State) : (setFpr64 i v s).next = s.next := by unfold setFpr64; split <;> rfl
@[simp] theorem setFpr64_regs (i : Reg) (v : Word) (s : State) : (setFpr64 i v s).regs = s.regs := by unfold setFpr64; split <;> rfl
@[simp] theorem setFpr64_hi (i : Reg) (v : Word) (s : State) : (setFpr64 i v s).hi = s.hi := by unfold setFpr64; split <;> rfl
@[simp] theorem setFpr64_lo (i : Reg) (v : Word) (s : State) : (setFpr64 i v s).lo = s.lo := by unfold setFpr64; split <;> rfl
@[simp] theorem setFpr64_hiTag (i : Reg) (v : Word) (s : State) : (setFpr64 i v s).hiTag = s.hiTag := by unfold setFpr64; split <;> rfl
@[simp] theorem setFpr64_loTag (i : Reg) (v : Word) (s : State) : (setFpr64 i v s).loTag = s.loTag := by unfold setFpr64; split <;> rfl
@[simp] theorem setFpr64_hiGuard (i : Reg) (v : Word) (s : State) : (setFpr64 i v s).hiGuard = s.hiGuard := by unfold setFpr64; split <;> rfl
@[simp] theorem setFpr64_loGuard (i : Reg) (v : Word) (s : State) : (setFpr64 i v s).loGuard = s.loGuard := by unfold setFpr64; split <;> rfl
@[simp] theorem setFpr64_llbit (i : Reg) (v : Word) (s : State) : (setFpr64 i v s).llbit = s.llbit := by unfold setFpr64; split <;> rfl
@[simp] theorem setFpr64_link (i : Reg) (v : Word) (s : State) : (setFpr64 i v s).link = s.link := by unfold setFpr64; split <;> rfl
@[simp] theorem setFpr64_fcr0 (i : Reg) (v : Word) (s : State) : (setFpr64 i v s).fcr0 = s.fcr0 := by unfold setFpr64; split <;> rfl
@[simp] theorem setFpr64_fcr31 (i : Reg) (v : Word) (s : State) : (setFpr64 i v s).fcr31 = s.fcr31 := by unfold setFpr64; split <;> rfl
@[simp] theorem setFpr64_fccPrev (i : Reg) (v : Word) (s : State) : (setFpr64 i v s).fccPrev = s.fccPrev := by unfold setFpr64; split <;> rfl
@[simp] theorem setFpr64_cp0 (i : Reg) (v : Word) (s : State) : (setFpr64 i v s).cp0 = s.cp0 := by unfold setFpr64; split <;> rfl
@[simp] theorem setFpr64_timerLatch (i : Reg) (v : Word) (s : State) : (setFpr64 i v s).timerLatch = s.timerLatch := by unfold setFpr64; split <;> rfl
@[simp] theorem setFpr64_randomHold (i : Reg) (v : Word) (s : State) : (setFpr64 i v s).randomHold = s.randomHold := by unfold setFpr64; split <;> rfl
@[simp] theorem setFpr64_tlb (i : Reg) (v : Word) (s : State) : (setFpr64 i v s).tlb = s.tlb := by unfold setFpr64; split <;> rfl
@[simp] theorem setFpr64_recent (i : Reg) (v : Word) (s : State) : (setFpr64 i v s).recent = s.recent := by unfold setFpr64; split <;> rfl
@[simp] theorem setFpr64_mem (i : Reg) (v : Word) (s : State) : (setFpr64 i v s).mem = s.mem := by unfold setFpr64; split <;> rfl
@[simp] theorem setFpr64_stale (i : Reg) (v : Word) (s : State) : (setFpr64 i v s).stale = s.stale := by unfold setFpr64; split <;> rfl
@[simp] theorem setFpr64_maybeDirty (i : Reg) (v : Word) (s : State) : (setFpr64 i v s).maybeDirty = s.maybeDirty := by unfold setFpr64; split <;> rfl
@[simp] theorem setFpr64_unwritten (i : Reg) (v : Word) (s : State) : (setFpr64 i v s).unwritten = s.unwritten := by unfold setFpr64; split <;> rfl
@[simp] theorem setFpr64_writeBuffer (i : Reg) (v : Word) (s : State) : (setFpr64 i v s).writeBuffer = s.writeBuffer := by unfold setFpr64; split <;> rfl
@[simp] theorem setFpr64_deviceStores (i : Reg) (v : Word) (s : State) : (setFpr64 i v s).deviceStores = s.deviceStores := by unfold setFpr64; split <;> rfl
@[simp] theorem setFpr64_caches (i : Reg) (v : Word) (s : State) : (setFpr64 i v s).caches = s.caches := by unfold setFpr64; split <;> rfl
@[simp] theorem setFpr64_physMap (i : Reg) (v : Word) (s : State) : (setFpr64 i v s).physMap = s.physMap := by unfold setFpr64; split <;> rfl
@[simp] theorem setFpr64_timerIntOnIP7 (i : Reg) (v : Word) (s : State) : (setFpr64 i v s).timerIntOnIP7 = s.timerIntOnIP7 := by unfold setFpr64; split <;> rfl
@[simp] theorem setFpr64_hiloHazard (i : Reg) (v : Word) (s : State) : (setFpr64 i v s).hiloHazard = s.hiloHazard := by unfold setFpr64; split <;> rfl
@[simp] theorem setFpr64_cp0Hazard (i : Reg) (v : Word) (s : State) : (setFpr64 i v s).cp0Hazard = s.cp0Hazard := by unfold setFpr64; split <;> rfl
@[simp] theorem setFpr64_qnanS (i : Reg) (v : Word) (s : State) : (setFpr64 i v s).qnanS = s.qnanS := by unfold setFpr64; split <;> rfl
@[simp] theorem setFpr64_qnanD (i : Reg) (v : Word) (s : State) : (setFpr64 i v s).qnanD = s.qnanD := by unfold setFpr64; split <;> rfl
@[simp] theorem setFpr64_pins (i : Reg) (v : Word) (s : State) : (setFpr64 i v s).pins = s.pins := by unfold setFpr64; split <;> rfl
@[simp] theorem setFpr64_draws (i : Reg) (v : Word) (s : State) : (setFpr64 i v s).draws = s.draws := by unfold setFpr64; split <;> rfl
@[simp] theorem setFpr64_gpr (i : Reg) (v : Word) (s : State) (k : Reg) : (setFpr64 i v s).gpr k = s.gpr k := by simp [State.gpr]
@[simp] theorem setFpr64_statusSeen (i : Reg) (v : Word) (s : State) : (setFpr64 i v s).statusSeen = s.statusSeen := by simp [State.statusSeen, State.pickOld, State.pick, State.free]
@[simp] theorem setFpr64_fr (i : Reg) (v : Word) (s : State) : (setFpr64 i v s).fr = s.fr := by simp [State.fr]
@[simp] theorem setFpr64_cu (i : Reg) (v : Word) (s : State) (z : Nat) : (setFpr64 i v s).cu z = s.cu z := by simp [State.cu]

/-! ### retire -/

@[simp] theorem retire_pc (s : State) : (retire s).pc = s.pc := rfl
@[simp] theorem retire_next (s : State) : (retire s).next = s.next := rfl
@[simp] theorem retire_regs (s : State) : (retire s).regs = s.regs := rfl
@[simp] theorem retire_hi (s : State) : (retire s).hi = s.hi := rfl
@[simp] theorem retire_lo (s : State) : (retire s).lo = s.lo := rfl
@[simp] theorem retire_hiTag (s : State) : (retire s).hiTag = s.hiTag := rfl
@[simp] theorem retire_loTag (s : State) : (retire s).loTag = s.loTag := rfl
@[simp] theorem retire_hiGuard (s : State) : (retire s).hiGuard = s.hiGuard - 1 := rfl
@[simp] theorem retire_loGuard (s : State) : (retire s).loGuard = s.loGuard - 1 := rfl
@[simp] theorem retire_llbit (s : State) : (retire s).llbit = s.llbit := rfl
@[simp] theorem retire_link (s : State) : (retire s).link = s.link := rfl
@[simp] theorem retire_fgr (s : State) : (retire s).fgr = s.fgr := rfl
@[simp] theorem retire_fcr0 (s : State) : (retire s).fcr0 = s.fcr0 := rfl
@[simp] theorem retire_fcr31 (s : State) : (retire s).fcr31 = s.fcr31 := rfl
@[simp] theorem retire_fccPrev (s : State) : (retire s).fccPrev = s.fccPrev := rfl
@[simp] theorem retire_cp0 (s : State) : (retire s).cp0 = s.cp0 := rfl
@[simp] theorem retire_timerLatch (s : State) : (retire s).timerLatch = s.timerLatch := rfl
@[simp] theorem retire_randomHold (s : State) : (retire s).randomHold = s.randomHold := rfl
@[simp] theorem retire_tlb (s : State) : (retire s).tlb = s.tlb := rfl
@[simp] theorem retire_recent (s : State) : (retire s).recent = s.recent := rfl
@[simp] theorem retire_mem (s : State) : (retire s).mem = s.mem := rfl
@[simp] theorem retire_stale (s : State) : (retire s).stale = s.stale := rfl
@[simp] theorem retire_maybeDirty (s : State) : (retire s).maybeDirty = s.maybeDirty := rfl
@[simp] theorem retire_unwritten (s : State) : (retire s).unwritten = s.unwritten := rfl
@[simp] theorem retire_writeBuffer (s : State) : (retire s).writeBuffer = s.writeBuffer := rfl
@[simp] theorem retire_deviceStores (s : State) : (retire s).deviceStores = s.deviceStores := rfl
@[simp] theorem retire_caches (s : State) : (retire s).caches = s.caches := rfl
@[simp] theorem retire_physMap (s : State) : (retire s).physMap = s.physMap := rfl
@[simp] theorem retire_timerIntOnIP7 (s : State) : (retire s).timerIntOnIP7 = s.timerIntOnIP7 := rfl
@[simp] theorem retire_hiloHazard (s : State) : (retire s).hiloHazard = s.hiloHazard := rfl
@[simp] theorem retire_cp0Hazard (s : State) : (retire s).cp0Hazard = s.cp0Hazard := rfl
@[simp] theorem retire_qnanS (s : State) : (retire s).qnanS = s.qnanS := rfl
@[simp] theorem retire_qnanD (s : State) : (retire s).qnanD = s.qnanD := rfl
@[simp] theorem retire_pins (s : State) : (retire s).pins = s.pins := rfl
@[simp] theorem retire_draws (s : State) : (retire s).draws = s.draws := rfl
@[simp] theorem retire_gpr (s : State) (k : Reg) : (retire s).gpr k = s.gpr k := by simp [State.gpr]
@[simp] theorem retire_fgrRead (s : State) (k : Reg) : (retire s).fgrRead k = s.fgrRead k := by simp [State.fgrRead]
@[simp] theorem retire_statusSeen (s : State) : (retire s).statusSeen = s.statusSeen := rfl
@[simp] theorem retire_fr (s : State) : (retire s).fr = s.fr := by simp [State.fr]
@[simp] theorem retire_cu (s : State) (z : Nat) : (retire s).cu z = s.cu z := by simp [State.cu]

/-! ### advance -/

@[simp] theorem advance_next (s : State) : (advance s).next = none := by
  unfold advance; split
  · rfl
  · assumption
@[simp] theorem advance_regs (s : State) : (advance s).regs = s.regs := by unfold advance; split <;> rfl
@[simp] theorem advance_hi (s : State) : (advance s).hi = s.hi := by unfold advance; split <;> rfl
@[simp] theorem advance_lo (s : State) : (advance s).lo = s.lo := by unfold advance; split <;> rfl
@[simp] theorem advance_hiTag (s : State) : (advance s).hiTag = s.hiTag := by unfold advance; split <;> rfl
@[simp] theorem advance_loTag (s : State) : (advance s).loTag = s.loTag := by unfold advance; split <;> rfl
@[simp] theorem advance_hiGuard (s : State) : (advance s).hiGuard = s.hiGuard - 1 := by unfold advance; split <;> rfl
@[simp] theorem advance_loGuard (s : State) : (advance s).loGuard = s.loGuard - 1 := by unfold advance; split <;> rfl
@[simp] theorem advance_llbit (s : State) : (advance s).llbit = s.llbit := by unfold advance; split <;> rfl
@[simp] theorem advance_link (s : State) : (advance s).link = s.link := by unfold advance; split <;> rfl
@[simp] theorem advance_fgr (s : State) : (advance s).fgr = s.fgr := by unfold advance; split <;> rfl
@[simp] theorem advance_fcr0 (s : State) : (advance s).fcr0 = s.fcr0 := by unfold advance; split <;> rfl
@[simp] theorem advance_fcr31 (s : State) : (advance s).fcr31 = s.fcr31 := by unfold advance; split <;> rfl
@[simp] theorem advance_fccPrev (s : State) : (advance s).fccPrev = s.fccPrev := by unfold advance; split <;> rfl
@[simp] theorem advance_cp0 (s : State) : (advance s).cp0 = s.cp0 := by unfold advance; split <;> rfl
@[simp] theorem advance_timerLatch (s : State) : (advance s).timerLatch = s.timerLatch := by unfold advance; split <;> rfl
@[simp] theorem advance_randomHold (s : State) : (advance s).randomHold = s.randomHold := by unfold advance; split <;> rfl
@[simp] theorem advance_tlb (s : State) : (advance s).tlb = s.tlb := by unfold advance; split <;> rfl
@[simp] theorem advance_recent (s : State) : (advance s).recent = s.recent := by unfold advance; split <;> rfl
@[simp] theorem advance_mem (s : State) : (advance s).mem = s.mem := by unfold advance; split <;> rfl
@[simp] theorem advance_stale (s : State) : (advance s).stale = s.stale := by unfold advance; split <;> rfl
@[simp] theorem advance_maybeDirty (s : State) : (advance s).maybeDirty = s.maybeDirty := by unfold advance; split <;> rfl
@[simp] theorem advance_unwritten (s : State) : (advance s).unwritten = s.unwritten := by unfold advance; split <;> rfl
@[simp] theorem advance_writeBuffer (s : State) : (advance s).writeBuffer = s.writeBuffer := by unfold advance; split <;> rfl
@[simp] theorem advance_deviceStores (s : State) : (advance s).deviceStores = s.deviceStores := by unfold advance; split <;> rfl
@[simp] theorem advance_caches (s : State) : (advance s).caches = s.caches := by unfold advance; split <;> rfl
@[simp] theorem advance_physMap (s : State) : (advance s).physMap = s.physMap := by unfold advance; split <;> rfl
@[simp] theorem advance_timerIntOnIP7 (s : State) : (advance s).timerIntOnIP7 = s.timerIntOnIP7 := by unfold advance; split <;> rfl
@[simp] theorem advance_hiloHazard (s : State) : (advance s).hiloHazard = s.hiloHazard := by unfold advance; split <;> rfl
@[simp] theorem advance_cp0Hazard (s : State) : (advance s).cp0Hazard = s.cp0Hazard := by unfold advance; split <;> rfl
@[simp] theorem advance_qnanS (s : State) : (advance s).qnanS = s.qnanS := by unfold advance; split <;> rfl
@[simp] theorem advance_qnanD (s : State) : (advance s).qnanD = s.qnanD := by unfold advance; split <;> rfl
@[simp] theorem advance_pins (s : State) : (advance s).pins = s.pins := by unfold advance; split <;> rfl
@[simp] theorem advance_draws (s : State) : (advance s).draws = s.draws := by unfold advance; split <;> rfl
@[simp] theorem advance_gpr (s : State) (k : Reg) : (advance s).gpr k = s.gpr k := by simp [State.gpr]
@[simp] theorem advance_fgrRead (s : State) (k : Reg) : (advance s).fgrRead k = s.fgrRead k := by simp [State.fgrRead]
@[simp] theorem advance_statusSeen (s : State) : (advance s).statusSeen = s.statusSeen := by simp [State.statusSeen, State.pickOld, State.pick, State.free]
@[simp] theorem advance_fr (s : State) : (advance s).fr = s.fr := by simp [State.fr]
@[simp] theorem advance_cu (s : State) (z : Nat) : (advance s).cu z = s.cu z := by simp [State.cu]

/-! ### branchTo -/

@[simp] theorem branchTo_pc (x : Word) (s : State) : (branchTo x s).pc = s.seqPc 4 := rfl
@[simp] theorem branchTo_next (x : Word) (s : State) : (branchTo x s).next = some x := rfl
@[simp] theorem branchTo_regs (x : Word) (s : State) : (branchTo x s).regs = s.regs := rfl
@[simp] theorem branchTo_hi (x : Word) (s : State) : (branchTo x s).hi = s.hi := rfl
@[simp] theorem branchTo_lo (x : Word) (s : State) : (branchTo x s).lo = s.lo := rfl
@[simp] theorem branchTo_hiTag (x : Word) (s : State) : (branchTo x s).hiTag = s.hiTag := rfl
@[simp] theorem branchTo_loTag (x : Word) (s : State) : (branchTo x s).loTag = s.loTag := rfl
@[simp] theorem branchTo_hiGuard (x : Word) (s : State) : (branchTo x s).hiGuard = s.hiGuard - 1 := rfl
@[simp] theorem branchTo_loGuard (x : Word) (s : State) : (branchTo x s).loGuard = s.loGuard - 1 := rfl
@[simp] theorem branchTo_llbit (x : Word) (s : State) : (branchTo x s).llbit = s.llbit := rfl
@[simp] theorem branchTo_link (x : Word) (s : State) : (branchTo x s).link = s.link := rfl
@[simp] theorem branchTo_fgr (x : Word) (s : State) : (branchTo x s).fgr = s.fgr := rfl
@[simp] theorem branchTo_fcr0 (x : Word) (s : State) : (branchTo x s).fcr0 = s.fcr0 := rfl
@[simp] theorem branchTo_fcr31 (x : Word) (s : State) : (branchTo x s).fcr31 = s.fcr31 := rfl
@[simp] theorem branchTo_fccPrev (x : Word) (s : State) : (branchTo x s).fccPrev = s.fccPrev := rfl
@[simp] theorem branchTo_cp0 (x : Word) (s : State) : (branchTo x s).cp0 = s.cp0 := rfl
@[simp] theorem branchTo_timerLatch (x : Word) (s : State) : (branchTo x s).timerLatch = s.timerLatch := rfl
@[simp] theorem branchTo_randomHold (x : Word) (s : State) : (branchTo x s).randomHold = s.randomHold := rfl
@[simp] theorem branchTo_tlb (x : Word) (s : State) : (branchTo x s).tlb = s.tlb := rfl
@[simp] theorem branchTo_recent (x : Word) (s : State) : (branchTo x s).recent = s.recent := rfl
@[simp] theorem branchTo_mem (x : Word) (s : State) : (branchTo x s).mem = s.mem := rfl
@[simp] theorem branchTo_stale (x : Word) (s : State) : (branchTo x s).stale = s.stale := rfl
@[simp] theorem branchTo_maybeDirty (x : Word) (s : State) : (branchTo x s).maybeDirty = s.maybeDirty := rfl
@[simp] theorem branchTo_unwritten (x : Word) (s : State) : (branchTo x s).unwritten = s.unwritten := rfl
@[simp] theorem branchTo_writeBuffer (x : Word) (s : State) : (branchTo x s).writeBuffer = s.writeBuffer := rfl
@[simp] theorem branchTo_deviceStores (x : Word) (s : State) : (branchTo x s).deviceStores = s.deviceStores := rfl
@[simp] theorem branchTo_caches (x : Word) (s : State) : (branchTo x s).caches = s.caches := rfl
@[simp] theorem branchTo_physMap (x : Word) (s : State) : (branchTo x s).physMap = s.physMap := rfl
@[simp] theorem branchTo_timerIntOnIP7 (x : Word) (s : State) : (branchTo x s).timerIntOnIP7 = s.timerIntOnIP7 := rfl
@[simp] theorem branchTo_hiloHazard (x : Word) (s : State) : (branchTo x s).hiloHazard = s.hiloHazard := rfl
@[simp] theorem branchTo_cp0Hazard (x : Word) (s : State) : (branchTo x s).cp0Hazard = s.cp0Hazard := rfl
@[simp] theorem branchTo_qnanS (x : Word) (s : State) : (branchTo x s).qnanS = s.qnanS := rfl
@[simp] theorem branchTo_qnanD (x : Word) (s : State) : (branchTo x s).qnanD = s.qnanD := rfl
@[simp] theorem branchTo_pins (x : Word) (s : State) : (branchTo x s).pins = s.pins := rfl
@[simp] theorem branchTo_draws (x : Word) (s : State) : (branchTo x s).draws = s.draws := rfl
@[simp] theorem branchTo_gpr (x : Word) (s : State) (k : Reg) : (branchTo x s).gpr k = s.gpr k := by simp [State.gpr]
@[simp] theorem branchTo_fgrRead (x : Word) (s : State) (k : Reg) : (branchTo x s).fgrRead k = s.fgrRead k := by simp [State.fgrRead]
@[simp] theorem branchTo_statusSeen (x : Word) (s : State) : (branchTo x s).statusSeen = s.statusSeen := rfl
@[simp] theorem branchTo_fr (x : Word) (s : State) : (branchTo x s).fr = s.fr := by simp [State.fr]
@[simp] theorem branchTo_cu (x : Word) (s : State) (z : Nat) : (branchTo x s).cu z = s.cu z := by simp [State.cu]

/-! ### skipSlot -/

@[simp] theorem skipSlot_pc (s : State) : (skipSlot s).pc = s.seqPc 8 := rfl
@[simp] theorem skipSlot_next (s : State) : (skipSlot s).next = none := rfl
@[simp] theorem skipSlot_regs (s : State) : (skipSlot s).regs = s.regs := rfl
@[simp] theorem skipSlot_hi (s : State) : (skipSlot s).hi = s.hi := rfl
@[simp] theorem skipSlot_lo (s : State) : (skipSlot s).lo = s.lo := rfl
@[simp] theorem skipSlot_hiTag (s : State) : (skipSlot s).hiTag = s.hiTag := rfl
@[simp] theorem skipSlot_loTag (s : State) : (skipSlot s).loTag = s.loTag := rfl
@[simp] theorem skipSlot_hiGuard (s : State) : (skipSlot s).hiGuard = s.hiGuard - 1 := rfl
@[simp] theorem skipSlot_loGuard (s : State) : (skipSlot s).loGuard = s.loGuard - 1 := rfl
@[simp] theorem skipSlot_llbit (s : State) : (skipSlot s).llbit = s.llbit := rfl
@[simp] theorem skipSlot_link (s : State) : (skipSlot s).link = s.link := rfl
@[simp] theorem skipSlot_fgr (s : State) : (skipSlot s).fgr = s.fgr := rfl
@[simp] theorem skipSlot_fcr0 (s : State) : (skipSlot s).fcr0 = s.fcr0 := rfl
@[simp] theorem skipSlot_fcr31 (s : State) : (skipSlot s).fcr31 = s.fcr31 := rfl
@[simp] theorem skipSlot_fccPrev (s : State) : (skipSlot s).fccPrev = s.fccPrev := rfl
@[simp] theorem skipSlot_cp0 (s : State) : (skipSlot s).cp0 = s.cp0 := rfl
@[simp] theorem skipSlot_timerLatch (s : State) : (skipSlot s).timerLatch = s.timerLatch := rfl
@[simp] theorem skipSlot_randomHold (s : State) : (skipSlot s).randomHold = s.randomHold := rfl
@[simp] theorem skipSlot_tlb (s : State) : (skipSlot s).tlb = s.tlb := rfl
@[simp] theorem skipSlot_recent (s : State) : (skipSlot s).recent = s.recent := rfl
@[simp] theorem skipSlot_mem (s : State) : (skipSlot s).mem = s.mem := rfl
@[simp] theorem skipSlot_stale (s : State) : (skipSlot s).stale = s.stale := rfl
@[simp] theorem skipSlot_maybeDirty (s : State) : (skipSlot s).maybeDirty = s.maybeDirty := rfl
@[simp] theorem skipSlot_unwritten (s : State) : (skipSlot s).unwritten = s.unwritten := rfl
@[simp] theorem skipSlot_writeBuffer (s : State) : (skipSlot s).writeBuffer = s.writeBuffer := rfl
@[simp] theorem skipSlot_deviceStores (s : State) : (skipSlot s).deviceStores = s.deviceStores := rfl
@[simp] theorem skipSlot_caches (s : State) : (skipSlot s).caches = s.caches := rfl
@[simp] theorem skipSlot_physMap (s : State) : (skipSlot s).physMap = s.physMap := rfl
@[simp] theorem skipSlot_timerIntOnIP7 (s : State) : (skipSlot s).timerIntOnIP7 = s.timerIntOnIP7 := rfl
@[simp] theorem skipSlot_hiloHazard (s : State) : (skipSlot s).hiloHazard = s.hiloHazard := rfl
@[simp] theorem skipSlot_cp0Hazard (s : State) : (skipSlot s).cp0Hazard = s.cp0Hazard := rfl
@[simp] theorem skipSlot_qnanS (s : State) : (skipSlot s).qnanS = s.qnanS := rfl
@[simp] theorem skipSlot_qnanD (s : State) : (skipSlot s).qnanD = s.qnanD := rfl
@[simp] theorem skipSlot_pins (s : State) : (skipSlot s).pins = s.pins := rfl
@[simp] theorem skipSlot_draws (s : State) : (skipSlot s).draws = s.draws := rfl
@[simp] theorem skipSlot_gpr (s : State) (k : Reg) : (skipSlot s).gpr k = s.gpr k := by simp [State.gpr]
@[simp] theorem skipSlot_fgrRead (s : State) (k : Reg) : (skipSlot s).fgrRead k = s.fgrRead k := by simp [State.fgrRead]
@[simp] theorem skipSlot_statusSeen (s : State) : (skipSlot s).statusSeen = s.statusSeen := rfl
@[simp] theorem skipSlot_fr (s : State) : (skipSlot s).fr = s.fr := by simp [State.fr]
@[simp] theorem skipSlot_cu (s : State) (z : Nat) : (skipSlot s).cu z = s.cu z := by simp [State.cu]

/-! ### setHiLo -/

@[simp] theorem setHiLo_pc (h l : Word) (s : State) : (setHiLo h l s).pc = s.pc := rfl
@[simp] theorem setHiLo_next (h l : Word) (s : State) : (setHiLo h l s).next = s.next := rfl
@[simp] theorem setHiLo_regs (h l : Word) (s : State) : (setHiLo h l s).regs = s.regs := rfl
@[simp] theorem setHiLo_hi (h l : Word) (s : State) : (setHiLo h l s).hi = h := rfl
@[simp] theorem setHiLo_lo (h l : Word) (s : State) : (setHiLo h l s).lo = l := rfl
@[simp] theorem setHiLo_hiTag (h l : Word) (s : State) : (setHiLo h l s).hiTag = .arith := rfl
@[simp] theorem setHiLo_loTag (h l : Word) (s : State) : (setHiLo h l s).loTag = .arith := rfl
@[simp] theorem setHiLo_hiGuard (h l : Word) (s : State) : (setHiLo h l s).hiGuard = s.hiGuard := rfl
@[simp] theorem setHiLo_loGuard (h l : Word) (s : State) : (setHiLo h l s).loGuard = s.loGuard := rfl
@[simp] theorem setHiLo_llbit (h l : Word) (s : State) : (setHiLo h l s).llbit = s.llbit := rfl
@[simp] theorem setHiLo_link (h l : Word) (s : State) : (setHiLo h l s).link = s.link := rfl
@[simp] theorem setHiLo_fgr (h l : Word) (s : State) : (setHiLo h l s).fgr = s.fgr := rfl
@[simp] theorem setHiLo_fcr0 (h l : Word) (s : State) : (setHiLo h l s).fcr0 = s.fcr0 := rfl
@[simp] theorem setHiLo_fcr31 (h l : Word) (s : State) : (setHiLo h l s).fcr31 = s.fcr31 := rfl
@[simp] theorem setHiLo_fccPrev (h l : Word) (s : State) : (setHiLo h l s).fccPrev = s.fccPrev := rfl
@[simp] theorem setHiLo_cp0 (h l : Word) (s : State) : (setHiLo h l s).cp0 = s.cp0 := rfl
@[simp] theorem setHiLo_timerLatch (h l : Word) (s : State) : (setHiLo h l s).timerLatch = s.timerLatch := rfl
@[simp] theorem setHiLo_randomHold (h l : Word) (s : State) : (setHiLo h l s).randomHold = s.randomHold := rfl
@[simp] theorem setHiLo_tlb (h l : Word) (s : State) : (setHiLo h l s).tlb = s.tlb := rfl
@[simp] theorem setHiLo_recent (h l : Word) (s : State) : (setHiLo h l s).recent = s.recent := rfl
@[simp] theorem setHiLo_mem (h l : Word) (s : State) : (setHiLo h l s).mem = s.mem := rfl
@[simp] theorem setHiLo_stale (h l : Word) (s : State) : (setHiLo h l s).stale = s.stale := rfl
@[simp] theorem setHiLo_maybeDirty (h l : Word) (s : State) : (setHiLo h l s).maybeDirty = s.maybeDirty := rfl
@[simp] theorem setHiLo_unwritten (h l : Word) (s : State) : (setHiLo h l s).unwritten = s.unwritten := rfl
@[simp] theorem setHiLo_writeBuffer (h l : Word) (s : State) : (setHiLo h l s).writeBuffer = s.writeBuffer := rfl
@[simp] theorem setHiLo_deviceStores (h l : Word) (s : State) : (setHiLo h l s).deviceStores = s.deviceStores := rfl
@[simp] theorem setHiLo_caches (h l : Word) (s : State) : (setHiLo h l s).caches = s.caches := rfl
@[simp] theorem setHiLo_physMap (h l : Word) (s : State) : (setHiLo h l s).physMap = s.physMap := rfl
@[simp] theorem setHiLo_timerIntOnIP7 (h l : Word) (s : State) : (setHiLo h l s).timerIntOnIP7 = s.timerIntOnIP7 := rfl
@[simp] theorem setHiLo_hiloHazard (h l : Word) (s : State) : (setHiLo h l s).hiloHazard = s.hiloHazard := rfl
@[simp] theorem setHiLo_cp0Hazard (h l : Word) (s : State) : (setHiLo h l s).cp0Hazard = s.cp0Hazard := rfl
@[simp] theorem setHiLo_qnanS (h l : Word) (s : State) : (setHiLo h l s).qnanS = s.qnanS := rfl
@[simp] theorem setHiLo_qnanD (h l : Word) (s : State) : (setHiLo h l s).qnanD = s.qnanD := rfl
@[simp] theorem setHiLo_pins (h l : Word) (s : State) : (setHiLo h l s).pins = s.pins := rfl
@[simp] theorem setHiLo_draws (h l : Word) (s : State) : (setHiLo h l s).draws = s.draws := rfl
@[simp] theorem setHiLo_gpr (h l : Word) (s : State) (k : Reg) : (setHiLo h l s).gpr k = s.gpr k := by simp [State.gpr]
@[simp] theorem setHiLo_fgrRead (h l : Word) (s : State) (k : Reg) : (setHiLo h l s).fgrRead k = s.fgrRead k := by simp [State.fgrRead]
@[simp] theorem setHiLo_statusSeen (h l : Word) (s : State) : (setHiLo h l s).statusSeen = s.statusSeen := rfl
@[simp] theorem setHiLo_fr (h l : Word) (s : State) : (setHiLo h l s).fr = s.fr := by simp [State.fr]
@[simp] theorem setHiLo_cu (h l : Word) (s : State) (z : Nat) : (setHiLo h l s).cu z = s.cu z := by simp [State.cu]

/-! ### setFcc -/

@[simp] theorem setFcc_pc (n : BitVec 3) (v : Bool) (s : State) : (setFcc n v s).pc = s.pc := rfl
@[simp] theorem setFcc_next (n : BitVec 3) (v : Bool) (s : State) : (setFcc n v s).next = s.next := rfl
@[simp] theorem setFcc_regs (n : BitVec 3) (v : Bool) (s : State) : (setFcc n v s).regs = s.regs := rfl
@[simp] theorem setFcc_hi (n : BitVec 3) (v : Bool) (s : State) : (setFcc n v s).hi = s.hi := rfl
@[simp] theorem setFcc_lo (n : BitVec 3) (v : Bool) (s : State) : (setFcc n v s).lo = s.lo := rfl
@[simp] theorem setFcc_hiTag (n : BitVec 3) (v : Bool) (s : State) : (setFcc n v s).hiTag = s.hiTag := rfl
@[simp] theorem setFcc_loTag (n : BitVec 3) (v : Bool) (s : State) : (setFcc n v s).loTag = s.loTag := rfl
@[simp] theorem setFcc_hiGuard (n : BitVec 3) (v : Bool) (s : State) : (setFcc n v s).hiGuard = s.hiGuard := rfl
@[simp] theorem setFcc_loGuard (n : BitVec 3) (v : Bool) (s : State) : (setFcc n v s).loGuard = s.loGuard := rfl
@[simp] theorem setFcc_llbit (n : BitVec 3) (v : Bool) (s : State) : (setFcc n v s).llbit = s.llbit := rfl
@[simp] theorem setFcc_link (n : BitVec 3) (v : Bool) (s : State) : (setFcc n v s).link = s.link := rfl
@[simp] theorem setFcc_fgr (n : BitVec 3) (v : Bool) (s : State) : (setFcc n v s).fgr = s.fgr := rfl
@[simp] theorem setFcc_fcr0 (n : BitVec 3) (v : Bool) (s : State) : (setFcc n v s).fcr0 = s.fcr0 := rfl
@[simp] theorem setFcc_fcr31 (n : BitVec 3) (v : Bool) (s : State) : (setFcc n v s).fcr31 = putField s.fcr31 (fccBit n) (BitVec.ofBool v) := rfl
@[simp] theorem setFcc_fccPrev (n : BitVec 3) (v : Bool) (s : State) : (setFcc n v s).fccPrev = s.fccPrev := rfl
@[simp] theorem setFcc_cp0 (n : BitVec 3) (v : Bool) (s : State) : (setFcc n v s).cp0 = s.cp0 := rfl
@[simp] theorem setFcc_timerLatch (n : BitVec 3) (v : Bool) (s : State) : (setFcc n v s).timerLatch = s.timerLatch := rfl
@[simp] theorem setFcc_randomHold (n : BitVec 3) (v : Bool) (s : State) : (setFcc n v s).randomHold = s.randomHold := rfl
@[simp] theorem setFcc_tlb (n : BitVec 3) (v : Bool) (s : State) : (setFcc n v s).tlb = s.tlb := rfl
@[simp] theorem setFcc_recent (n : BitVec 3) (v : Bool) (s : State) : (setFcc n v s).recent = s.recent := rfl
@[simp] theorem setFcc_mem (n : BitVec 3) (v : Bool) (s : State) : (setFcc n v s).mem = s.mem := rfl
@[simp] theorem setFcc_stale (n : BitVec 3) (v : Bool) (s : State) : (setFcc n v s).stale = s.stale := rfl
@[simp] theorem setFcc_maybeDirty (n : BitVec 3) (v : Bool) (s : State) : (setFcc n v s).maybeDirty = s.maybeDirty := rfl
@[simp] theorem setFcc_unwritten (n : BitVec 3) (v : Bool) (s : State) : (setFcc n v s).unwritten = s.unwritten := rfl
@[simp] theorem setFcc_writeBuffer (n : BitVec 3) (v : Bool) (s : State) : (setFcc n v s).writeBuffer = s.writeBuffer := rfl
@[simp] theorem setFcc_deviceStores (n : BitVec 3) (v : Bool) (s : State) : (setFcc n v s).deviceStores = s.deviceStores := rfl
@[simp] theorem setFcc_caches (n : BitVec 3) (v : Bool) (s : State) : (setFcc n v s).caches = s.caches := rfl
@[simp] theorem setFcc_physMap (n : BitVec 3) (v : Bool) (s : State) : (setFcc n v s).physMap = s.physMap := rfl
@[simp] theorem setFcc_timerIntOnIP7 (n : BitVec 3) (v : Bool) (s : State) : (setFcc n v s).timerIntOnIP7 = s.timerIntOnIP7 := rfl
@[simp] theorem setFcc_hiloHazard (n : BitVec 3) (v : Bool) (s : State) : (setFcc n v s).hiloHazard = s.hiloHazard := rfl
@[simp] theorem setFcc_cp0Hazard (n : BitVec 3) (v : Bool) (s : State) : (setFcc n v s).cp0Hazard = s.cp0Hazard := rfl
@[simp] theorem setFcc_qnanS (n : BitVec 3) (v : Bool) (s : State) : (setFcc n v s).qnanS = s.qnanS := rfl
@[simp] theorem setFcc_qnanD (n : BitVec 3) (v : Bool) (s : State) : (setFcc n v s).qnanD = s.qnanD := rfl
@[simp] theorem setFcc_pins (n : BitVec 3) (v : Bool) (s : State) : (setFcc n v s).pins = s.pins := rfl
@[simp] theorem setFcc_draws (n : BitVec 3) (v : Bool) (s : State) : (setFcc n v s).draws = s.draws := rfl
@[simp] theorem setFcc_gpr (n : BitVec 3) (v : Bool) (s : State) (k : Reg) : (setFcc n v s).gpr k = s.gpr k := by simp [State.gpr]
@[simp] theorem setFcc_fgrRead (n : BitVec 3) (v : Bool) (s : State) (k : Reg) : (setFcc n v s).fgrRead k = s.fgrRead k := by simp [State.fgrRead]
@[simp] theorem setFcc_statusSeen (n : BitVec 3) (v : Bool) (s : State) : (setFcc n v s).statusSeen = s.statusSeen := rfl
@[simp] theorem setFcc_fr (n : BitVec 3) (v : Bool) (s : State) : (setFcc n v s).fr = s.fr := by simp [State.fr]
@[simp] theorem setFcc_cu (n : BitVec 3) (v : Bool) (s : State) (z : Nat) : (setFcc n v s).cu z = s.cu z := by simp [State.cu]

/-! ### setFcrCause -/

@[simp] theorem setFcrCause_pc (c : BitVec 6) (s : State) : (setFcrCause c s).pc = s.pc := rfl
@[simp] theorem setFcrCause_next (c : BitVec 6) (s : State) : (setFcrCause c s).next = s.next := rfl
@[simp] theorem setFcrCause_regs (c : BitVec 6) (s : State) : (setFcrCause c s).regs = s.regs := rfl
@[simp] theorem setFcrCause_hi (c : BitVec 6) (s : State) : (setFcrCause c s).hi = s.hi := rfl
@[simp] theorem setFcrCause_lo (c : BitVec 6) (s : State) : (setFcrCause c s).lo = s.lo := rfl
@[simp] theorem setFcrCause_hiTag (c : BitVec 6) (s : State) : (setFcrCause c s).hiTag = s.hiTag := rfl
@[simp] theorem setFcrCause_loTag (c : BitVec 6) (s : State) : (setFcrCause c s).loTag = s.loTag := rfl
@[simp] theorem setFcrCause_hiGuard (c : BitVec 6) (s : State) : (setFcrCause c s).hiGuard = s.hiGuard := rfl
@[simp] theorem setFcrCause_loGuard (c : BitVec 6) (s : State) : (setFcrCause c s).loGuard = s.loGuard := rfl
@[simp] theorem setFcrCause_llbit (c : BitVec 6) (s : State) : (setFcrCause c s).llbit = s.llbit := rfl
@[simp] theorem setFcrCause_link (c : BitVec 6) (s : State) : (setFcrCause c s).link = s.link := rfl
@[simp] theorem setFcrCause_fgr (c : BitVec 6) (s : State) : (setFcrCause c s).fgr = s.fgr := rfl
@[simp] theorem setFcrCause_fcr0 (c : BitVec 6) (s : State) : (setFcrCause c s).fcr0 = s.fcr0 := rfl
@[simp] theorem setFcrCause_fcr31 (c : BitVec 6) (s : State) : (setFcrCause c s).fcr31 = putField s.fcr31 12 c := rfl
@[simp] theorem setFcrCause_fccPrev (c : BitVec 6) (s : State) : (setFcrCause c s).fccPrev = s.fccPrev := rfl
@[simp] theorem setFcrCause_cp0 (c : BitVec 6) (s : State) : (setFcrCause c s).cp0 = s.cp0 := rfl
@[simp] theorem setFcrCause_timerLatch (c : BitVec 6) (s : State) : (setFcrCause c s).timerLatch = s.timerLatch := rfl
@[simp] theorem setFcrCause_randomHold (c : BitVec 6) (s : State) : (setFcrCause c s).randomHold = s.randomHold := rfl
@[simp] theorem setFcrCause_tlb (c : BitVec 6) (s : State) : (setFcrCause c s).tlb = s.tlb := rfl
@[simp] theorem setFcrCause_recent (c : BitVec 6) (s : State) : (setFcrCause c s).recent = s.recent := rfl
@[simp] theorem setFcrCause_mem (c : BitVec 6) (s : State) : (setFcrCause c s).mem = s.mem := rfl
@[simp] theorem setFcrCause_stale (c : BitVec 6) (s : State) : (setFcrCause c s).stale = s.stale := rfl
@[simp] theorem setFcrCause_maybeDirty (c : BitVec 6) (s : State) : (setFcrCause c s).maybeDirty = s.maybeDirty := rfl
@[simp] theorem setFcrCause_unwritten (c : BitVec 6) (s : State) : (setFcrCause c s).unwritten = s.unwritten := rfl
@[simp] theorem setFcrCause_writeBuffer (c : BitVec 6) (s : State) : (setFcrCause c s).writeBuffer = s.writeBuffer := rfl
@[simp] theorem setFcrCause_deviceStores (c : BitVec 6) (s : State) : (setFcrCause c s).deviceStores = s.deviceStores := rfl
@[simp] theorem setFcrCause_caches (c : BitVec 6) (s : State) : (setFcrCause c s).caches = s.caches := rfl
@[simp] theorem setFcrCause_physMap (c : BitVec 6) (s : State) : (setFcrCause c s).physMap = s.physMap := rfl
@[simp] theorem setFcrCause_timerIntOnIP7 (c : BitVec 6) (s : State) : (setFcrCause c s).timerIntOnIP7 = s.timerIntOnIP7 := rfl
@[simp] theorem setFcrCause_hiloHazard (c : BitVec 6) (s : State) : (setFcrCause c s).hiloHazard = s.hiloHazard := rfl
@[simp] theorem setFcrCause_cp0Hazard (c : BitVec 6) (s : State) : (setFcrCause c s).cp0Hazard = s.cp0Hazard := rfl
@[simp] theorem setFcrCause_qnanS (c : BitVec 6) (s : State) : (setFcrCause c s).qnanS = s.qnanS := rfl
@[simp] theorem setFcrCause_qnanD (c : BitVec 6) (s : State) : (setFcrCause c s).qnanD = s.qnanD := rfl
@[simp] theorem setFcrCause_pins (c : BitVec 6) (s : State) : (setFcrCause c s).pins = s.pins := rfl
@[simp] theorem setFcrCause_draws (c : BitVec 6) (s : State) : (setFcrCause c s).draws = s.draws := rfl
@[simp] theorem setFcrCause_gpr (c : BitVec 6) (s : State) (k : Reg) : (setFcrCause c s).gpr k = s.gpr k := by simp [State.gpr]
@[simp] theorem setFcrCause_fgrRead (c : BitVec 6) (s : State) (k : Reg) : (setFcrCause c s).fgrRead k = s.fgrRead k := by simp [State.fgrRead]
@[simp] theorem setFcrCause_statusSeen (c : BitVec 6) (s : State) : (setFcrCause c s).statusSeen = s.statusSeen := rfl
@[simp] theorem setFcrCause_fr (c : BitVec 6) (s : State) : (setFcrCause c s).fr = s.fr := by simp [State.fr]
@[simp] theorem setFcrCause_cu (c : BitVec 6) (s : State) (z : Nat) : (setFcrCause c s).cu z = s.cu z := by simp [State.cu]

/-! ### raiseFlags -/

@[simp] theorem raiseFlags_pc (c : BitVec 6) (s : State) : (raiseFlags c s).pc = s.pc := rfl
@[simp] theorem raiseFlags_next (c : BitVec 6) (s : State) : (raiseFlags c s).next = s.next := rfl
@[simp] theorem raiseFlags_regs (c : BitVec 6) (s : State) : (raiseFlags c s).regs = s.regs := rfl
@[simp] theorem raiseFlags_hi (c : BitVec 6) (s : State) : (raiseFlags c s).hi = s.hi := rfl
@[simp] theorem raiseFlags_lo (c : BitVec 6) (s : State) : (raiseFlags c s).lo = s.lo := rfl
@[simp] theorem raiseFlags_hiTag (c : BitVec 6) (s : State) : (raiseFlags c s).hiTag = s.hiTag := rfl
@[simp] theorem raiseFlags_loTag (c : BitVec 6) (s : State) : (raiseFlags c s).loTag = s.loTag := rfl
@[simp] theorem raiseFlags_hiGuard (c : BitVec 6) (s : State) : (raiseFlags c s).hiGuard = s.hiGuard := rfl
@[simp] theorem raiseFlags_loGuard (c : BitVec 6) (s : State) : (raiseFlags c s).loGuard = s.loGuard := rfl
@[simp] theorem raiseFlags_llbit (c : BitVec 6) (s : State) : (raiseFlags c s).llbit = s.llbit := rfl
@[simp] theorem raiseFlags_link (c : BitVec 6) (s : State) : (raiseFlags c s).link = s.link := rfl
@[simp] theorem raiseFlags_fgr (c : BitVec 6) (s : State) : (raiseFlags c s).fgr = s.fgr := rfl
@[simp] theorem raiseFlags_fcr0 (c : BitVec 6) (s : State) : (raiseFlags c s).fcr0 = s.fcr0 := rfl
@[simp] theorem raiseFlags_fcr31 (c : BitVec 6) (s : State) : (raiseFlags c s).fcr31 = s.fcr31 ||| ((c.extractLsb' 0 5).setWidth 32 <<< 2) := rfl
@[simp] theorem raiseFlags_fccPrev (c : BitVec 6) (s : State) : (raiseFlags c s).fccPrev = s.fccPrev := rfl
@[simp] theorem raiseFlags_cp0 (c : BitVec 6) (s : State) : (raiseFlags c s).cp0 = s.cp0 := rfl
@[simp] theorem raiseFlags_timerLatch (c : BitVec 6) (s : State) : (raiseFlags c s).timerLatch = s.timerLatch := rfl
@[simp] theorem raiseFlags_randomHold (c : BitVec 6) (s : State) : (raiseFlags c s).randomHold = s.randomHold := rfl
@[simp] theorem raiseFlags_tlb (c : BitVec 6) (s : State) : (raiseFlags c s).tlb = s.tlb := rfl
@[simp] theorem raiseFlags_recent (c : BitVec 6) (s : State) : (raiseFlags c s).recent = s.recent := rfl
@[simp] theorem raiseFlags_mem (c : BitVec 6) (s : State) : (raiseFlags c s).mem = s.mem := rfl
@[simp] theorem raiseFlags_stale (c : BitVec 6) (s : State) : (raiseFlags c s).stale = s.stale := rfl
@[simp] theorem raiseFlags_maybeDirty (c : BitVec 6) (s : State) : (raiseFlags c s).maybeDirty = s.maybeDirty := rfl
@[simp] theorem raiseFlags_unwritten (c : BitVec 6) (s : State) : (raiseFlags c s).unwritten = s.unwritten := rfl
@[simp] theorem raiseFlags_writeBuffer (c : BitVec 6) (s : State) : (raiseFlags c s).writeBuffer = s.writeBuffer := rfl
@[simp] theorem raiseFlags_deviceStores (c : BitVec 6) (s : State) : (raiseFlags c s).deviceStores = s.deviceStores := rfl
@[simp] theorem raiseFlags_caches (c : BitVec 6) (s : State) : (raiseFlags c s).caches = s.caches := rfl
@[simp] theorem raiseFlags_physMap (c : BitVec 6) (s : State) : (raiseFlags c s).physMap = s.physMap := rfl
@[simp] theorem raiseFlags_timerIntOnIP7 (c : BitVec 6) (s : State) : (raiseFlags c s).timerIntOnIP7 = s.timerIntOnIP7 := rfl
@[simp] theorem raiseFlags_hiloHazard (c : BitVec 6) (s : State) : (raiseFlags c s).hiloHazard = s.hiloHazard := rfl
@[simp] theorem raiseFlags_cp0Hazard (c : BitVec 6) (s : State) : (raiseFlags c s).cp0Hazard = s.cp0Hazard := rfl
@[simp] theorem raiseFlags_qnanS (c : BitVec 6) (s : State) : (raiseFlags c s).qnanS = s.qnanS := rfl
@[simp] theorem raiseFlags_qnanD (c : BitVec 6) (s : State) : (raiseFlags c s).qnanD = s.qnanD := rfl
@[simp] theorem raiseFlags_pins (c : BitVec 6) (s : State) : (raiseFlags c s).pins = s.pins := rfl
@[simp] theorem raiseFlags_draws (c : BitVec 6) (s : State) : (raiseFlags c s).draws = s.draws := rfl
@[simp] theorem raiseFlags_gpr (c : BitVec 6) (s : State) (k : Reg) : (raiseFlags c s).gpr k = s.gpr k := by simp [State.gpr]
@[simp] theorem raiseFlags_fgrRead (c : BitVec 6) (s : State) (k : Reg) : (raiseFlags c s).fgrRead k = s.fgrRead k := by simp [State.fgrRead]
@[simp] theorem raiseFlags_statusSeen (c : BitVec 6) (s : State) : (raiseFlags c s).statusSeen = s.statusSeen := rfl
@[simp] theorem raiseFlags_fr (c : BitVec 6) (s : State) : (raiseFlags c s).fr = s.fr := by simp [State.fr]
@[simp] theorem raiseFlags_cu (c : BitVec 6) (s : State) (z : Nat) : (raiseFlags c s).cu z = s.cu z := by simp [State.cu]

/-! ### pushStore -/

@[simp] theorem pushStore_pc (bs : List Nat) (os : List Host.Cell) (s : State) : (pushStore bs os s).pc = s.pc := rfl
@[simp] theorem pushStore_next (bs : List Nat) (os : List Host.Cell) (s : State) : (pushStore bs os s).next = s.next := rfl
@[simp] theorem pushStore_regs (bs : List Nat) (os : List Host.Cell) (s : State) : (pushStore bs os s).regs = s.regs := rfl
@[simp] theorem pushStore_hi (bs : List Nat) (os : List Host.Cell) (s : State) : (pushStore bs os s).hi = s.hi := rfl
@[simp] theorem pushStore_lo (bs : List Nat) (os : List Host.Cell) (s : State) : (pushStore bs os s).lo = s.lo := rfl
@[simp] theorem pushStore_hiTag (bs : List Nat) (os : List Host.Cell) (s : State) : (pushStore bs os s).hiTag = s.hiTag := rfl
@[simp] theorem pushStore_loTag (bs : List Nat) (os : List Host.Cell) (s : State) : (pushStore bs os s).loTag = s.loTag := rfl
@[simp] theorem pushStore_hiGuard (bs : List Nat) (os : List Host.Cell) (s : State) : (pushStore bs os s).hiGuard = s.hiGuard := rfl
@[simp] theorem pushStore_loGuard (bs : List Nat) (os : List Host.Cell) (s : State) : (pushStore bs os s).loGuard = s.loGuard := rfl
@[simp] theorem pushStore_llbit (bs : List Nat) (os : List Host.Cell) (s : State) : (pushStore bs os s).llbit = s.llbit := rfl
@[simp] theorem pushStore_link (bs : List Nat) (os : List Host.Cell) (s : State) : (pushStore bs os s).link = s.link := rfl
@[simp] theorem pushStore_fgr (bs : List Nat) (os : List Host.Cell) (s : State) : (pushStore bs os s).fgr = s.fgr := rfl
@[simp] theorem pushStore_fcr0 (bs : List Nat) (os : List Host.Cell) (s : State) : (pushStore bs os s).fcr0 = s.fcr0 := rfl
@[simp] theorem pushStore_fcr31 (bs : List Nat) (os : List Host.Cell) (s : State) : (pushStore bs os s).fcr31 = s.fcr31 := rfl
@[simp] theorem pushStore_fccPrev (bs : List Nat) (os : List Host.Cell) (s : State) : (pushStore bs os s).fccPrev = s.fccPrev := rfl
@[simp] theorem pushStore_cp0 (bs : List Nat) (os : List Host.Cell) (s : State) : (pushStore bs os s).cp0 = s.cp0 := rfl
@[simp] theorem pushStore_timerLatch (bs : List Nat) (os : List Host.Cell) (s : State) : (pushStore bs os s).timerLatch = s.timerLatch := rfl
@[simp] theorem pushStore_randomHold (bs : List Nat) (os : List Host.Cell) (s : State) : (pushStore bs os s).randomHold = s.randomHold := rfl
@[simp] theorem pushStore_tlb (bs : List Nat) (os : List Host.Cell) (s : State) : (pushStore bs os s).tlb = s.tlb := rfl
@[simp] theorem pushStore_recent (bs : List Nat) (os : List Host.Cell) (s : State) : (pushStore bs os s).recent = s.recent := rfl
@[simp] theorem pushStore_mem (bs : List Nat) (os : List Host.Cell) (s : State) : (pushStore bs os s).mem = s.mem := rfl
@[simp] theorem pushStore_stale (bs : List Nat) (os : List Host.Cell) (s : State) : (pushStore bs os s).stale = s.stale := rfl
@[simp] theorem pushStore_maybeDirty (bs : List Nat) (os : List Host.Cell) (s : State) : (pushStore bs os s).maybeDirty = s.maybeDirty := rfl
@[simp] theorem pushStore_unwritten (bs : List Nat) (os : List Host.Cell) (s : State) : (pushStore bs os s).unwritten = s.unwritten := rfl
@[simp] theorem pushStore_writeBuffer (bs : List Nat) (os : List Host.Cell) (s : State) : (pushStore bs os s).writeBuffer = { bytes := bs, olds := os, after := 0 } :: agedBuffer s.writeBuffer := rfl
@[simp] theorem pushStore_caches (bs : List Nat) (os : List Host.Cell) (s : State) : (pushStore bs os s).caches = s.caches := rfl
@[simp] theorem pushStore_physMap (bs : List Nat) (os : List Host.Cell) (s : State) : (pushStore bs os s).physMap = s.physMap := rfl
@[simp] theorem pushStore_timerIntOnIP7 (bs : List Nat) (os : List Host.Cell) (s : State) : (pushStore bs os s).timerIntOnIP7 = s.timerIntOnIP7 := rfl
@[simp] theorem pushStore_hiloHazard (bs : List Nat) (os : List Host.Cell) (s : State) : (pushStore bs os s).hiloHazard = s.hiloHazard := rfl
@[simp] theorem pushStore_cp0Hazard (bs : List Nat) (os : List Host.Cell) (s : State) : (pushStore bs os s).cp0Hazard = s.cp0Hazard := rfl
@[simp] theorem pushStore_qnanS (bs : List Nat) (os : List Host.Cell) (s : State) : (pushStore bs os s).qnanS = s.qnanS := rfl
@[simp] theorem pushStore_qnanD (bs : List Nat) (os : List Host.Cell) (s : State) : (pushStore bs os s).qnanD = s.qnanD := rfl
@[simp] theorem pushStore_pins (bs : List Nat) (os : List Host.Cell) (s : State) : (pushStore bs os s).pins = s.pins := rfl
@[simp] theorem pushStore_draws (bs : List Nat) (os : List Host.Cell) (s : State) : (pushStore bs os s).draws = s.draws := rfl
@[simp] theorem pushStore_gpr (bs : List Nat) (os : List Host.Cell) (s : State) (k : Reg) : (pushStore bs os s).gpr k = s.gpr k := by simp [State.gpr]
@[simp] theorem pushStore_fgrRead (bs : List Nat) (os : List Host.Cell) (s : State) (k : Reg) : (pushStore bs os s).fgrRead k = s.fgrRead k := by simp [State.fgrRead]
@[simp] theorem pushStore_statusSeen (bs : List Nat) (os : List Host.Cell) (s : State) : (pushStore bs os s).statusSeen = s.statusSeen := rfl
@[simp] theorem pushStore_fr (bs : List Nat) (os : List Host.Cell) (s : State) : (pushStore bs os s).fr = s.fr := by simp [State.fr]
@[simp] theorem pushStore_cu (bs : List Nat) (os : List Host.Cell) (s : State) (z : Nat) : (pushStore bs os s).cu z = s.cu z := by simp [State.cu]

/-! ### drain -/

@[simp] theorem drain_pc (s : State) : (drain s).pc = s.pc := rfl
@[simp] theorem drain_next (s : State) : (drain s).next = s.next := rfl
@[simp] theorem drain_regs (s : State) : (drain s).regs = s.regs := rfl
@[simp] theorem drain_hi (s : State) : (drain s).hi = s.hi := rfl
@[simp] theorem drain_lo (s : State) : (drain s).lo = s.lo := rfl
@[simp] theorem drain_hiTag (s : State) : (drain s).hiTag = s.hiTag := rfl
@[simp] theorem drain_loTag (s : State) : (drain s).loTag = s.loTag := rfl
@[simp] theorem drain_hiGuard (s : State) : (drain s).hiGuard = s.hiGuard := rfl
@[simp] theorem drain_loGuard (s : State) : (drain s).loGuard = s.loGuard := rfl
@[simp] theorem drain_llbit (s : State) : (drain s).llbit = s.llbit := rfl
@[simp] theorem drain_link (s : State) : (drain s).link = s.link := rfl
@[simp] theorem drain_fgr (s : State) : (drain s).fgr = s.fgr := rfl
@[simp] theorem drain_fcr0 (s : State) : (drain s).fcr0 = s.fcr0 := rfl
@[simp] theorem drain_fcr31 (s : State) : (drain s).fcr31 = s.fcr31 := rfl
@[simp] theorem drain_fccPrev (s : State) : (drain s).fccPrev = s.fccPrev := rfl
@[simp] theorem drain_cp0 (s : State) : (drain s).cp0 = s.cp0 := rfl
@[simp] theorem drain_timerLatch (s : State) : (drain s).timerLatch = s.timerLatch := rfl
@[simp] theorem drain_randomHold (s : State) : (drain s).randomHold = s.randomHold := rfl
@[simp] theorem drain_tlb (s : State) : (drain s).tlb = s.tlb := rfl
@[simp] theorem drain_recent (s : State) : (drain s).recent = s.recent := rfl
@[simp] theorem drain_mem (s : State) : (drain s).mem = s.mem := rfl
@[simp] theorem drain_stale (s : State) : (drain s).stale = s.stale := rfl
@[simp] theorem drain_maybeDirty (s : State) : (drain s).maybeDirty = s.maybeDirty := rfl
@[simp] theorem drain_unwritten (s : State) : (drain s).unwritten = s.unwritten := rfl
@[simp] theorem drain_writeBuffer (s : State) : (drain s).writeBuffer = [] := rfl
@[simp] theorem drain_deviceStores (s : State) : (drain s).deviceStores = [] := rfl
@[simp] theorem drain_caches (s : State) : (drain s).caches = s.caches := rfl
@[simp] theorem drain_physMap (s : State) : (drain s).physMap = s.physMap := rfl
@[simp] theorem drain_timerIntOnIP7 (s : State) : (drain s).timerIntOnIP7 = s.timerIntOnIP7 := rfl
@[simp] theorem drain_hiloHazard (s : State) : (drain s).hiloHazard = s.hiloHazard := rfl
@[simp] theorem drain_cp0Hazard (s : State) : (drain s).cp0Hazard = s.cp0Hazard := rfl
@[simp] theorem drain_qnanS (s : State) : (drain s).qnanS = s.qnanS := rfl
@[simp] theorem drain_qnanD (s : State) : (drain s).qnanD = s.qnanD := rfl
@[simp] theorem drain_pins (s : State) : (drain s).pins = s.pins := rfl
@[simp] theorem drain_draws (s : State) : (drain s).draws = s.draws := rfl
@[simp] theorem drain_gpr (s : State) (k : Reg) : (drain s).gpr k = s.gpr k := by simp [State.gpr]
@[simp] theorem drain_fgrRead (s : State) (k : Reg) : (drain s).fgrRead k = s.fgrRead k := by simp [State.fgrRead]
@[simp] theorem drain_statusSeen (s : State) : (drain s).statusSeen = s.statusSeen := rfl
@[simp] theorem drain_fr (s : State) : (drain s).fr = s.fr := by simp [State.fr]
@[simp] theorem drain_cu (s : State) (z : Nat) : (drain s).cu z = s.cu z := by simp [State.cu]

/-! ### deviceStore -/

@[simp] theorem deviceStore_pc (pa n : Nat) (s : State) : (deviceStore pa n s).pc = s.pc := rfl
@[simp] theorem deviceStore_next (pa n : Nat) (s : State) : (deviceStore pa n s).next = s.next := rfl
@[simp] theorem deviceStore_regs (pa n : Nat) (s : State) : (deviceStore pa n s).regs = s.regs := rfl
@[simp] theorem deviceStore_hi (pa n : Nat) (s : State) : (deviceStore pa n s).hi = s.hi := rfl
@[simp] theorem deviceStore_lo (pa n : Nat) (s : State) : (deviceStore pa n s).lo = s.lo := rfl
@[simp] theorem deviceStore_hiTag (pa n : Nat) (s : State) : (deviceStore pa n s).hiTag = s.hiTag := rfl
@[simp] theorem deviceStore_loTag (pa n : Nat) (s : State) : (deviceStore pa n s).loTag = s.loTag := rfl
@[simp] theorem deviceStore_hiGuard (pa n : Nat) (s : State) : (deviceStore pa n s).hiGuard = s.hiGuard := rfl
@[simp] theorem deviceStore_loGuard (pa n : Nat) (s : State) : (deviceStore pa n s).loGuard = s.loGuard := rfl
@[simp] theorem deviceStore_llbit (pa n : Nat) (s : State) : (deviceStore pa n s).llbit = s.llbit := rfl
@[simp] theorem deviceStore_link (pa n : Nat) (s : State) : (deviceStore pa n s).link = s.link := rfl
@[simp] theorem deviceStore_fgr (pa n : Nat) (s : State) : (deviceStore pa n s).fgr = s.fgr := rfl
@[simp] theorem deviceStore_fcr0 (pa n : Nat) (s : State) : (deviceStore pa n s).fcr0 = s.fcr0 := rfl
@[simp] theorem deviceStore_fcr31 (pa n : Nat) (s : State) : (deviceStore pa n s).fcr31 = s.fcr31 := rfl
@[simp] theorem deviceStore_fccPrev (pa n : Nat) (s : State) : (deviceStore pa n s).fccPrev = s.fccPrev := rfl
@[simp] theorem deviceStore_cp0 (pa n : Nat) (s : State) : (deviceStore pa n s).cp0 = s.cp0 := rfl
@[simp] theorem deviceStore_timerLatch (pa n : Nat) (s : State) : (deviceStore pa n s).timerLatch = s.timerLatch := rfl
@[simp] theorem deviceStore_randomHold (pa n : Nat) (s : State) : (deviceStore pa n s).randomHold = s.randomHold := rfl
@[simp] theorem deviceStore_tlb (pa n : Nat) (s : State) : (deviceStore pa n s).tlb = s.tlb := rfl
@[simp] theorem deviceStore_recent (pa n : Nat) (s : State) : (deviceStore pa n s).recent = s.recent := rfl
@[simp] theorem deviceStore_mem (pa n : Nat) (s : State) : (deviceStore pa n s).mem = s.mem := rfl
@[simp] theorem deviceStore_stale (pa n : Nat) (s : State) : (deviceStore pa n s).stale = s.stale := rfl
@[simp] theorem deviceStore_maybeDirty (pa n : Nat) (s : State) : (deviceStore pa n s).maybeDirty = s.maybeDirty := rfl
@[simp] theorem deviceStore_unwritten (pa n : Nat) (s : State) : (deviceStore pa n s).unwritten = s.unwritten := rfl
@[simp] theorem deviceStore_writeBuffer (pa n : Nat) (s : State) : (deviceStore pa n s).writeBuffer = { bytes := s.fieldBytes pa n, olds := [], after := 0 } :: agedBuffer s.writeBuffer := rfl
@[simp] theorem deviceStore_caches (pa n : Nat) (s : State) : (deviceStore pa n s).caches = s.caches := rfl
@[simp] theorem deviceStore_physMap (pa n : Nat) (s : State) : (deviceStore pa n s).physMap = s.physMap := rfl
@[simp] theorem deviceStore_timerIntOnIP7 (pa n : Nat) (s : State) : (deviceStore pa n s).timerIntOnIP7 = s.timerIntOnIP7 := rfl
@[simp] theorem deviceStore_hiloHazard (pa n : Nat) (s : State) : (deviceStore pa n s).hiloHazard = s.hiloHazard := rfl
@[simp] theorem deviceStore_cp0Hazard (pa n : Nat) (s : State) : (deviceStore pa n s).cp0Hazard = s.cp0Hazard := rfl
@[simp] theorem deviceStore_qnanS (pa n : Nat) (s : State) : (deviceStore pa n s).qnanS = s.qnanS := rfl
@[simp] theorem deviceStore_qnanD (pa n : Nat) (s : State) : (deviceStore pa n s).qnanD = s.qnanD := rfl
@[simp] theorem deviceStore_pins (pa n : Nat) (s : State) : (deviceStore pa n s).pins = s.pins := rfl
@[simp] theorem deviceStore_draws (pa n : Nat) (s : State) : (deviceStore pa n s).draws = s.draws := rfl
@[simp] theorem deviceStore_gpr (pa n : Nat) (s : State) (k : Reg) : (deviceStore pa n s).gpr k = s.gpr k := by simp [State.gpr]
@[simp] theorem deviceStore_fgrRead (pa n : Nat) (s : State) (k : Reg) : (deviceStore pa n s).fgrRead k = s.fgrRead k := by simp [State.fgrRead]
@[simp] theorem deviceStore_statusSeen (pa n : Nat) (s : State) : (deviceStore pa n s).statusSeen = s.statusSeen := rfl
@[simp] theorem deviceStore_fr (pa n : Nat) (s : State) : (deviceStore pa n s).fr = s.fr := by simp [State.fr]
@[simp] theorem deviceStore_cu (pa n : Nat) (s : State) (z : Nat) : (deviceStore pa n s).cu z = s.cu z := by simp [State.cu]

/-! ### recordStore -/

@[simp] theorem recordStore_pc (attr : BitVec 3) (l : Nat) (bs : List Nat) (m : List Host.Cell) (s : State) : (recordStore attr l bs m s).pc = s.pc := by unfold recordStore; split <;> rfl
@[simp] theorem recordStore_next (attr : BitVec 3) (l : Nat) (bs : List Nat) (m : List Host.Cell) (s : State) : (recordStore attr l bs m s).next = s.next := by unfold recordStore; split <;> rfl
@[simp] theorem recordStore_regs (attr : BitVec 3) (l : Nat) (bs : List Nat) (m : List Host.Cell) (s : State) : (recordStore attr l bs m s).regs = s.regs := by unfold recordStore; split <;> rfl
@[simp] theorem recordStore_hi (attr : BitVec 3) (l : Nat) (bs : List Nat) (m : List Host.Cell) (s : State) : (recordStore attr l bs m s).hi = s.hi := by unfold recordStore; split <;> rfl
@[simp] theorem recordStore_lo (attr : BitVec 3) (l : Nat) (bs : List Nat) (m : List Host.Cell) (s : State) : (recordStore attr l bs m s).lo = s.lo := by unfold recordStore; split <;> rfl
@[simp] theorem recordStore_hiTag (attr : BitVec 3) (l : Nat) (bs : List Nat) (m : List Host.Cell) (s : State) : (recordStore attr l bs m s).hiTag = s.hiTag := by unfold recordStore; split <;> rfl
@[simp] theorem recordStore_loTag (attr : BitVec 3) (l : Nat) (bs : List Nat) (m : List Host.Cell) (s : State) : (recordStore attr l bs m s).loTag = s.loTag := by unfold recordStore; split <;> rfl
@[simp] theorem recordStore_hiGuard (attr : BitVec 3) (l : Nat) (bs : List Nat) (m : List Host.Cell) (s : State) : (recordStore attr l bs m s).hiGuard = s.hiGuard := by unfold recordStore; split <;> rfl
@[simp] theorem recordStore_loGuard (attr : BitVec 3) (l : Nat) (bs : List Nat) (m : List Host.Cell) (s : State) : (recordStore attr l bs m s).loGuard = s.loGuard := by unfold recordStore; split <;> rfl
@[simp] theorem recordStore_llbit (attr : BitVec 3) (l : Nat) (bs : List Nat) (m : List Host.Cell) (s : State) : (recordStore attr l bs m s).llbit = s.llbit := by unfold recordStore; split <;> rfl
@[simp] theorem recordStore_link (attr : BitVec 3) (l : Nat) (bs : List Nat) (m : List Host.Cell) (s : State) : (recordStore attr l bs m s).link = s.link := by unfold recordStore; split <;> rfl
@[simp] theorem recordStore_fgr (attr : BitVec 3) (l : Nat) (bs : List Nat) (m : List Host.Cell) (s : State) : (recordStore attr l bs m s).fgr = s.fgr := by unfold recordStore; split <;> rfl
@[simp] theorem recordStore_fcr0 (attr : BitVec 3) (l : Nat) (bs : List Nat) (m : List Host.Cell) (s : State) : (recordStore attr l bs m s).fcr0 = s.fcr0 := by unfold recordStore; split <;> rfl
@[simp] theorem recordStore_fcr31 (attr : BitVec 3) (l : Nat) (bs : List Nat) (m : List Host.Cell) (s : State) : (recordStore attr l bs m s).fcr31 = s.fcr31 := by unfold recordStore; split <;> rfl
@[simp] theorem recordStore_fccPrev (attr : BitVec 3) (l : Nat) (bs : List Nat) (m : List Host.Cell) (s : State) : (recordStore attr l bs m s).fccPrev = s.fccPrev := by unfold recordStore; split <;> rfl
@[simp] theorem recordStore_cp0 (attr : BitVec 3) (l : Nat) (bs : List Nat) (m : List Host.Cell) (s : State) : (recordStore attr l bs m s).cp0 = s.cp0 := by unfold recordStore; split <;> rfl
@[simp] theorem recordStore_timerLatch (attr : BitVec 3) (l : Nat) (bs : List Nat) (m : List Host.Cell) (s : State) : (recordStore attr l bs m s).timerLatch = s.timerLatch := by unfold recordStore; split <;> rfl
@[simp] theorem recordStore_randomHold (attr : BitVec 3) (l : Nat) (bs : List Nat) (m : List Host.Cell) (s : State) : (recordStore attr l bs m s).randomHold = s.randomHold := by unfold recordStore; split <;> rfl
@[simp] theorem recordStore_tlb (attr : BitVec 3) (l : Nat) (bs : List Nat) (m : List Host.Cell) (s : State) : (recordStore attr l bs m s).tlb = s.tlb := by unfold recordStore; split <;> rfl
@[simp] theorem recordStore_recent (attr : BitVec 3) (l : Nat) (bs : List Nat) (m : List Host.Cell) (s : State) : (recordStore attr l bs m s).recent = s.recent := by unfold recordStore; split <;> rfl
@[simp] theorem recordStore_mem (attr : BitVec 3) (l : Nat) (bs : List Nat) (m : List Host.Cell) (s : State) : (recordStore attr l bs m s).mem = s.mem := by unfold recordStore; split <;> rfl
@[simp] theorem recordStore_stale (attr : BitVec 3) (l : Nat) (bs : List Nat) (m : List Host.Cell) (s : State) : (recordStore attr l bs m s).stale = s.stale := by unfold recordStore; split <;> rfl
@[simp] theorem recordStore_maybeDirty (attr : BitVec 3) (l : Nat) (bs : List Nat) (m : List Host.Cell) (s : State) : (recordStore attr l bs m s).maybeDirty = if attr = 3#3 then s.maybeDirty.insert l else s.maybeDirty := by unfold recordStore; split <;> rfl
@[simp] theorem recordStore_caches (attr : BitVec 3) (l : Nat) (bs : List Nat) (m : List Host.Cell) (s : State) : (recordStore attr l bs m s).caches = s.caches := by unfold recordStore; split <;> rfl
@[simp] theorem recordStore_physMap (attr : BitVec 3) (l : Nat) (bs : List Nat) (m : List Host.Cell) (s : State) : (recordStore attr l bs m s).physMap = s.physMap := by unfold recordStore; split <;> rfl
@[simp] theorem recordStore_timerIntOnIP7 (attr : BitVec 3) (l : Nat) (bs : List Nat) (m : List Host.Cell) (s : State) : (recordStore attr l bs m s).timerIntOnIP7 = s.timerIntOnIP7 := by unfold recordStore; split <;> rfl
@[simp] theorem recordStore_hiloHazard (attr : BitVec 3) (l : Nat) (bs : List Nat) (m : List Host.Cell) (s : State) : (recordStore attr l bs m s).hiloHazard = s.hiloHazard := by unfold recordStore; split <;> rfl
@[simp] theorem recordStore_cp0Hazard (attr : BitVec 3) (l : Nat) (bs : List Nat) (m : List Host.Cell) (s : State) : (recordStore attr l bs m s).cp0Hazard = s.cp0Hazard := by unfold recordStore; split <;> rfl
@[simp] theorem recordStore_qnanS (attr : BitVec 3) (l : Nat) (bs : List Nat) (m : List Host.Cell) (s : State) : (recordStore attr l bs m s).qnanS = s.qnanS := by unfold recordStore; split <;> rfl
@[simp] theorem recordStore_qnanD (attr : BitVec 3) (l : Nat) (bs : List Nat) (m : List Host.Cell) (s : State) : (recordStore attr l bs m s).qnanD = s.qnanD := by unfold recordStore; split <;> rfl
@[simp] theorem recordStore_pins (attr : BitVec 3) (l : Nat) (bs : List Nat) (m : List Host.Cell) (s : State) : (recordStore attr l bs m s).pins = s.pins := by unfold recordStore; split <;> rfl
@[simp] theorem recordStore_draws (attr : BitVec 3) (l : Nat) (bs : List Nat) (m : List Host.Cell) (s : State) : (recordStore attr l bs m s).draws = s.draws := by unfold recordStore; split <;> rfl
@[simp] theorem recordStore_gpr (attr : BitVec 3) (l : Nat) (bs : List Nat) (m : List Host.Cell) (s : State) (k : Reg) : (recordStore attr l bs m s).gpr k = s.gpr k := by simp [State.gpr]
@[simp] theorem recordStore_fgrRead (attr : BitVec 3) (l : Nat) (bs : List Nat) (m : List Host.Cell) (s : State) (k : Reg) : (recordStore attr l bs m s).fgrRead k = s.fgrRead k := by simp [State.fgrRead]
@[simp] theorem recordStore_statusSeen (attr : BitVec 3) (l : Nat) (bs : List Nat) (m : List Host.Cell) (s : State) : (recordStore attr l bs m s).statusSeen = s.statusSeen := by simp [State.statusSeen, State.pickOld, State.pick, State.free]
@[simp] theorem recordStore_fr (attr : BitVec 3) (l : Nat) (bs : List Nat) (m : List Host.Cell) (s : State) : (recordStore attr l bs m s).fr = s.fr := by simp [State.fr]
@[simp] theorem recordStore_cu (attr : BitVec 3) (l : Nat) (bs : List Nat) (m : List Host.Cell) (s : State) (z : Nat) : (recordStore attr l bs m s).cu z = s.cu z := by simp [State.cu]

/-! ### loaded -/

@[simp] theorem loaded_pc (pa : PAddr) (s : State) : (loaded pa s).pc = s.pc := by unfold loaded; split <;> rfl
@[simp] theorem loaded_next (pa : PAddr) (s : State) : (loaded pa s).next = s.next := by unfold loaded; split <;> rfl
@[simp] theorem loaded_regs (pa : PAddr) (s : State) : (loaded pa s).regs = s.regs := by unfold loaded; split <;> rfl
@[simp] theorem loaded_hi (pa : PAddr) (s : State) : (loaded pa s).hi = s.hi := by unfold loaded; split <;> rfl
@[simp] theorem loaded_lo (pa : PAddr) (s : State) : (loaded pa s).lo = s.lo := by unfold loaded; split <;> rfl
@[simp] theorem loaded_hiTag (pa : PAddr) (s : State) : (loaded pa s).hiTag = s.hiTag := by unfold loaded; split <;> rfl
@[simp] theorem loaded_loTag (pa : PAddr) (s : State) : (loaded pa s).loTag = s.loTag := by unfold loaded; split <;> rfl
@[simp] theorem loaded_hiGuard (pa : PAddr) (s : State) : (loaded pa s).hiGuard = s.hiGuard := by unfold loaded; split <;> rfl
@[simp] theorem loaded_loGuard (pa : PAddr) (s : State) : (loaded pa s).loGuard = s.loGuard := by unfold loaded; split <;> rfl
@[simp] theorem loaded_llbit (pa : PAddr) (s : State) : (loaded pa s).llbit = s.llbit := by unfold loaded; split <;> rfl
@[simp] theorem loaded_link (pa : PAddr) (s : State) : (loaded pa s).link = s.link := by unfold loaded; split <;> rfl
@[simp] theorem loaded_fgr (pa : PAddr) (s : State) : (loaded pa s).fgr = s.fgr := by unfold loaded; split <;> rfl
@[simp] theorem loaded_fcr0 (pa : PAddr) (s : State) : (loaded pa s).fcr0 = s.fcr0 := by unfold loaded; split <;> rfl
@[simp] theorem loaded_fcr31 (pa : PAddr) (s : State) : (loaded pa s).fcr31 = s.fcr31 := by unfold loaded; split <;> rfl
@[simp] theorem loaded_fccPrev (pa : PAddr) (s : State) : (loaded pa s).fccPrev = s.fccPrev := by unfold loaded; split <;> rfl
@[simp] theorem loaded_cp0 (pa : PAddr) (s : State) : (loaded pa s).cp0 = s.cp0 := by unfold loaded; split <;> rfl
@[simp] theorem loaded_timerLatch (pa : PAddr) (s : State) : (loaded pa s).timerLatch = s.timerLatch := by unfold loaded; split <;> rfl
@[simp] theorem loaded_randomHold (pa : PAddr) (s : State) : (loaded pa s).randomHold = s.randomHold := by unfold loaded; split <;> rfl
@[simp] theorem loaded_tlb (pa : PAddr) (s : State) : (loaded pa s).tlb = s.tlb := by unfold loaded; split <;> rfl
@[simp] theorem loaded_recent (pa : PAddr) (s : State) : (loaded pa s).recent = s.recent := by unfold loaded; split <;> rfl
@[simp] theorem loaded_mem (pa : PAddr) (s : State) : (loaded pa s).mem = s.mem := by unfold loaded; split <;> rfl
@[simp] theorem loaded_stale (pa : PAddr) (s : State) : (loaded pa s).stale = s.stale := by unfold loaded; split <;> rfl
@[simp] theorem loaded_maybeDirty (pa : PAddr) (s : State) : (loaded pa s).maybeDirty = s.maybeDirty := by unfold loaded; split <;> rfl
@[simp] theorem loaded_unwritten (pa : PAddr) (s : State) : (loaded pa s).unwritten = s.unwritten := by unfold loaded; split <;> rfl
@[simp] theorem loaded_caches (pa : PAddr) (s : State) : (loaded pa s).caches = s.caches := by unfold loaded; split <;> rfl
@[simp] theorem loaded_physMap (pa : PAddr) (s : State) : (loaded pa s).physMap = s.physMap := by unfold loaded; split <;> rfl
@[simp] theorem loaded_timerIntOnIP7 (pa : PAddr) (s : State) : (loaded pa s).timerIntOnIP7 = s.timerIntOnIP7 := by unfold loaded; split <;> rfl
@[simp] theorem loaded_hiloHazard (pa : PAddr) (s : State) : (loaded pa s).hiloHazard = s.hiloHazard := by unfold loaded; split <;> rfl
@[simp] theorem loaded_cp0Hazard (pa : PAddr) (s : State) : (loaded pa s).cp0Hazard = s.cp0Hazard := by unfold loaded; split <;> rfl
@[simp] theorem loaded_qnanS (pa : PAddr) (s : State) : (loaded pa s).qnanS = s.qnanS := by unfold loaded; split <;> rfl
@[simp] theorem loaded_qnanD (pa : PAddr) (s : State) : (loaded pa s).qnanD = s.qnanD := by unfold loaded; split <;> rfl
@[simp] theorem loaded_pins (pa : PAddr) (s : State) : (loaded pa s).pins = s.pins := by unfold loaded; split <;> rfl
@[simp] theorem loaded_draws (pa : PAddr) (s : State) : (loaded pa s).draws = s.draws := by unfold loaded; split <;> rfl
@[simp] theorem loaded_gpr (pa : PAddr) (s : State) (k : Reg) : (loaded pa s).gpr k = s.gpr k := by simp [State.gpr]
@[simp] theorem loaded_fgrRead (pa : PAddr) (s : State) (k : Reg) : (loaded pa s).fgrRead k = s.fgrRead k := by simp [State.fgrRead]
@[simp] theorem loaded_statusSeen (pa : PAddr) (s : State) : (loaded pa s).statusSeen = s.statusSeen := by simp [State.statusSeen, State.pickOld, State.pick, State.free]
@[simp] theorem loaded_fr (pa : PAddr) (s : State) : (loaded pa s).fr = s.fr := by simp [State.fr]
@[simp] theorem loaded_cu (pa : PAddr) (s : State) (z : Nat) : (loaded pa s).cu z = s.cu z := by simp [State.cu]

/-! ### setField -/

@[simp] theorem setField_pc (s : State) (attr : BitVec 3) (pa n : Nat) (v : Word) : (s.setField attr pa n v).pc = s.pc := by simp [State.setField]
@[simp] theorem setField_next (s : State) (attr : BitVec 3) (pa n : Nat) (v : Word) : (s.setField attr pa n v).next = s.next := by simp [State.setField]
@[simp] theorem setField_regs (s : State) (attr : BitVec 3) (pa n : Nat) (v : Word) : (s.setField attr pa n v).regs = s.regs := by simp [State.setField]
@[simp] theorem setField_hi (s : State) (attr : BitVec 3) (pa n : Nat) (v : Word) : (s.setField attr pa n v).hi = s.hi := by simp [State.setField]
@[simp] theorem setField_lo (s : State) (attr : BitVec 3) (pa n : Nat) (v : Word) : (s.setField attr pa n v).lo = s.lo := by simp [State.setField]
@[simp] theorem setField_hiTag (s : State) (attr : BitVec 3) (pa n : Nat) (v : Word) : (s.setField attr pa n v).hiTag = s.hiTag := by simp [State.setField]
@[simp] theorem setField_loTag (s : State) (attr : BitVec 3) (pa n : Nat) (v : Word) : (s.setField attr pa n v).loTag = s.loTag := by simp [State.setField]
@[simp] theorem setField_hiGuard (s : State) (attr : BitVec 3) (pa n : Nat) (v : Word) : (s.setField attr pa n v).hiGuard = s.hiGuard := by simp [State.setField]
@[simp] theorem setField_loGuard (s : State) (attr : BitVec 3) (pa n : Nat) (v : Word) : (s.setField attr pa n v).loGuard = s.loGuard := by simp [State.setField]
@[simp] theorem setField_llbit (s : State) (attr : BitVec 3) (pa n : Nat) (v : Word) : (s.setField attr pa n v).llbit = s.llbit := by simp [State.setField]
@[simp] theorem setField_link (s : State) (attr : BitVec 3) (pa n : Nat) (v : Word) : (s.setField attr pa n v).link = s.link := by simp [State.setField]
@[simp] theorem setField_fgr (s : State) (attr : BitVec 3) (pa n : Nat) (v : Word) : (s.setField attr pa n v).fgr = s.fgr := by simp [State.setField]
@[simp] theorem setField_fcr0 (s : State) (attr : BitVec 3) (pa n : Nat) (v : Word) : (s.setField attr pa n v).fcr0 = s.fcr0 := by simp [State.setField]
@[simp] theorem setField_fcr31 (s : State) (attr : BitVec 3) (pa n : Nat) (v : Word) : (s.setField attr pa n v).fcr31 = s.fcr31 := by simp [State.setField]
@[simp] theorem setField_fccPrev (s : State) (attr : BitVec 3) (pa n : Nat) (v : Word) : (s.setField attr pa n v).fccPrev = s.fccPrev := by simp [State.setField]
@[simp] theorem setField_cp0 (s : State) (attr : BitVec 3) (pa n : Nat) (v : Word) : (s.setField attr pa n v).cp0 = s.cp0 := by simp [State.setField]
@[simp] theorem setField_timerLatch (s : State) (attr : BitVec 3) (pa n : Nat) (v : Word) : (s.setField attr pa n v).timerLatch = s.timerLatch := by simp [State.setField]
@[simp] theorem setField_randomHold (s : State) (attr : BitVec 3) (pa n : Nat) (v : Word) : (s.setField attr pa n v).randomHold = s.randomHold := by simp [State.setField]
@[simp] theorem setField_tlb (s : State) (attr : BitVec 3) (pa n : Nat) (v : Word) : (s.setField attr pa n v).tlb = s.tlb := by simp [State.setField]
@[simp] theorem setField_recent (s : State) (attr : BitVec 3) (pa n : Nat) (v : Word) : (s.setField attr pa n v).recent = s.recent := by simp [State.setField]
@[simp] theorem setField_mem (s : State) (attr : BitVec 3) (pa n : Nat) (v : Word) : (s.setField attr pa n v).mem = memWriteAll s.lane s.mem pa (if s.bigEndianCpu then splitBytes v n else (splitBytes v n).reverse) := by simp [State.setField]
@[simp] theorem setField_stale (s : State) (attr : BitVec 3) (pa n : Nat) (v : Word) : (s.setField attr pa n v).stale = staleMarkAll s.lane s.mem s.stale pa n := by simp [State.setField]
@[simp] theorem setField_maybeDirty (s : State) (attr : BitVec 3) (pa n : Nat) (v : Word) : (s.setField attr pa n v).maybeDirty = if attr = 3#3 then s.maybeDirty.insert (lineOf pa) else s.maybeDirty := by simp [State.setField]
@[simp] theorem setField_caches (s : State) (attr : BitVec 3) (pa n : Nat) (v : Word) : (s.setField attr pa n v).caches = s.caches := by simp [State.setField]
@[simp] theorem setField_physMap (s : State) (attr : BitVec 3) (pa n : Nat) (v : Word) : (s.setField attr pa n v).physMap = s.physMap := by simp [State.setField]
@[simp] theorem setField_timerIntOnIP7 (s : State) (attr : BitVec 3) (pa n : Nat) (v : Word) : (s.setField attr pa n v).timerIntOnIP7 = s.timerIntOnIP7 := by simp [State.setField]
@[simp] theorem setField_hiloHazard (s : State) (attr : BitVec 3) (pa n : Nat) (v : Word) : (s.setField attr pa n v).hiloHazard = s.hiloHazard := by simp [State.setField]
@[simp] theorem setField_cp0Hazard (s : State) (attr : BitVec 3) (pa n : Nat) (v : Word) : (s.setField attr pa n v).cp0Hazard = s.cp0Hazard := by simp [State.setField]
@[simp] theorem setField_qnanS (s : State) (attr : BitVec 3) (pa n : Nat) (v : Word) : (s.setField attr pa n v).qnanS = s.qnanS := by simp [State.setField]
@[simp] theorem setField_qnanD (s : State) (attr : BitVec 3) (pa n : Nat) (v : Word) : (s.setField attr pa n v).qnanD = s.qnanD := by simp [State.setField]
@[simp] theorem setField_pins (s : State) (attr : BitVec 3) (pa n : Nat) (v : Word) : (s.setField attr pa n v).pins = s.pins := by simp [State.setField]
@[simp] theorem setField_draws (s : State) (attr : BitVec 3) (pa n : Nat) (v : Word) : (s.setField attr pa n v).draws = s.draws := by simp [State.setField]
@[simp] theorem setField_gpr (s : State) (attr : BitVec 3) (pa n : Nat) (v : Word) (k : Reg) : (s.setField attr pa n v).gpr k = s.gpr k := by simp [State.gpr]
@[simp] theorem setField_fgrRead (s : State) (attr : BitVec 3) (pa n : Nat) (v : Word) (k : Reg) : (s.setField attr pa n v).fgrRead k = s.fgrRead k := by simp [State.fgrRead]
@[simp] theorem setField_statusSeen (s : State) (attr : BitVec 3) (pa n : Nat) (v : Word) : (s.setField attr pa n v).statusSeen = s.statusSeen := by simp [State.statusSeen, State.pickOld, State.pick, State.free]
@[simp] theorem setField_fr (s : State) (attr : BitVec 3) (pa n : Nat) (v : Word) : (s.setField attr pa n v).fr = s.fr := by simp [State.fr]
@[simp] theorem setField_cu (s : State) (attr : BitVec 3) (pa n : Nat) (v : Word) (z : Nat) : (s.setField attr pa n v).cu z = s.cu z := by simp [State.cu]

/-! ### setCacheHit -/

@[simp] theorem setCacheHit_pc (s : State) : (setCacheHit s).pc = s.pc := rfl
@[simp] theorem setCacheHit_next (s : State) : (setCacheHit s).next = s.next := rfl
@[simp] theorem setCacheHit_regs (s : State) : (setCacheHit s).regs = s.regs := rfl
@[simp] theorem setCacheHit_hi (s : State) : (setCacheHit s).hi = s.hi := rfl
@[simp] theorem setCacheHit_lo (s : State) : (setCacheHit s).lo = s.lo := rfl
@[simp] theorem setCacheHit_hiTag (s : State) : (setCacheHit s).hiTag = s.hiTag := rfl
@[simp] theorem setCacheHit_loTag (s : State) : (setCacheHit s).loTag = s.loTag := rfl
@[simp] theorem setCacheHit_hiGuard (s : State) : (setCacheHit s).hiGuard = s.hiGuard := rfl
@[simp] theorem setCacheHit_loGuard (s : State) : (setCacheHit s).loGuard = s.loGuard := rfl
@[simp] theorem setCacheHit_llbit (s : State) : (setCacheHit s).llbit = s.llbit := rfl
@[simp] theorem setCacheHit_link (s : State) : (setCacheHit s).link = s.link := rfl
@[simp] theorem setCacheHit_fgr (s : State) : (setCacheHit s).fgr = s.fgr := rfl
@[simp] theorem setCacheHit_fcr0 (s : State) : (setCacheHit s).fcr0 = s.fcr0 := rfl
@[simp] theorem setCacheHit_fcr31 (s : State) : (setCacheHit s).fcr31 = s.fcr31 := rfl
@[simp] theorem setCacheHit_fccPrev (s : State) : (setCacheHit s).fccPrev = s.fccPrev := rfl
@[simp] theorem setCacheHit_timerLatch (s : State) : (setCacheHit s).timerLatch = s.timerLatch := rfl
@[simp] theorem setCacheHit_randomHold (s : State) : (setCacheHit s).randomHold = s.randomHold := rfl
@[simp] theorem setCacheHit_tlb (s : State) : (setCacheHit s).tlb = s.tlb := rfl
@[simp] theorem setCacheHit_mem (s : State) : (setCacheHit s).mem = s.mem := rfl
@[simp] theorem setCacheHit_stale (s : State) : (setCacheHit s).stale = s.stale := rfl
@[simp] theorem setCacheHit_maybeDirty (s : State) : (setCacheHit s).maybeDirty = s.maybeDirty := rfl
@[simp] theorem setCacheHit_unwritten (s : State) : (setCacheHit s).unwritten = s.unwritten := rfl
@[simp] theorem setCacheHit_writeBuffer (s : State) : (setCacheHit s).writeBuffer = s.writeBuffer := rfl
@[simp] theorem setCacheHit_deviceStores (s : State) : (setCacheHit s).deviceStores = s.deviceStores := rfl
@[simp] theorem setCacheHit_caches (s : State) : (setCacheHit s).caches = s.caches := rfl
@[simp] theorem setCacheHit_physMap (s : State) : (setCacheHit s).physMap = s.physMap := rfl
@[simp] theorem setCacheHit_timerIntOnIP7 (s : State) : (setCacheHit s).timerIntOnIP7 = s.timerIntOnIP7 := rfl
@[simp] theorem setCacheHit_hiloHazard (s : State) : (setCacheHit s).hiloHazard = s.hiloHazard := rfl
@[simp] theorem setCacheHit_cp0Hazard (s : State) : (setCacheHit s).cp0Hazard = s.cp0Hazard := rfl
@[simp] theorem setCacheHit_qnanS (s : State) : (setCacheHit s).qnanS = s.qnanS := rfl
@[simp] theorem setCacheHit_qnanD (s : State) : (setCacheHit s).qnanD = s.qnanD := rfl
@[simp] theorem setCacheHit_pins (s : State) : (setCacheHit s).pins = s.pins := rfl
@[simp] theorem setCacheHit_draws (s : State) : (setCacheHit s).draws = s.draws := rfl
@[simp] theorem setCacheHit_gpr (s : State) (k : Reg) : (setCacheHit s).gpr k = s.gpr k := by simp [State.gpr]
@[simp] theorem setCacheHit_fgrRead (s : State) (k : Reg) : (setCacheHit s).fgrRead k = s.fgrRead k := by simp [State.fgrRead]

/-! ### takeGeneral -/

@[simp] theorem takeGeneral_pc (e : Exc) (s : State) : (takeGeneral e s).pc = s.vectorBase + vectorOffset e s := rfl
@[simp] theorem takeGeneral_next (e : Exc) (s : State) : (takeGeneral e s).next = none := rfl
@[simp] theorem takeGeneral_regs (e : Exc) (s : State) : (takeGeneral e s).regs = s.regs := rfl
@[simp] theorem takeGeneral_hi (e : Exc) (s : State) : (takeGeneral e s).hi = s.hi := rfl
@[simp] theorem takeGeneral_lo (e : Exc) (s : State) : (takeGeneral e s).lo = s.lo := rfl
@[simp] theorem takeGeneral_hiTag (e : Exc) (s : State) : (takeGeneral e s).hiTag = s.hiTag := rfl
@[simp] theorem takeGeneral_loTag (e : Exc) (s : State) : (takeGeneral e s).loTag = s.loTag := rfl
@[simp] theorem takeGeneral_hiGuard (e : Exc) (s : State) : (takeGeneral e s).hiGuard = s.hiGuard := rfl
@[simp] theorem takeGeneral_loGuard (e : Exc) (s : State) : (takeGeneral e s).loGuard = s.loGuard := rfl
@[simp] theorem takeGeneral_llbit (e : Exc) (s : State) : (takeGeneral e s).llbit = s.llbit := rfl
@[simp] theorem takeGeneral_link (e : Exc) (s : State) : (takeGeneral e s).link = (breakLink s).link := rfl
@[simp] theorem takeGeneral_fgr (e : Exc) (s : State) : (takeGeneral e s).fgr = s.fgr := rfl
@[simp] theorem takeGeneral_fcr0 (e : Exc) (s : State) : (takeGeneral e s).fcr0 = s.fcr0 := rfl
@[simp] theorem takeGeneral_fcr31 (e : Exc) (s : State) : (takeGeneral e s).fcr31 = s.fcr31 := rfl
@[simp] theorem takeGeneral_fccPrev (e : Exc) (s : State) : (takeGeneral e s).fccPrev = s.fccPrev := rfl
@[simp] theorem takeGeneral_cp0 (e : Exc) (s : State) : (takeGeneral e s).cp0 = enterGeneral e s s.cp0 := rfl
@[simp] theorem takeGeneral_timerLatch (e : Exc) (s : State) : (takeGeneral e s).timerLatch = s.timerLatch := rfl
@[simp] theorem takeGeneral_randomHold (e : Exc) (s : State) : (takeGeneral e s).randomHold = s.randomHold := rfl
@[simp] theorem takeGeneral_tlb (e : Exc) (s : State) : (takeGeneral e s).tlb = s.tlb := rfl
@[simp] theorem takeGeneral_mem (e : Exc) (s : State) : (takeGeneral e s).mem = s.mem := rfl
@[simp] theorem takeGeneral_stale (e : Exc) (s : State) : (takeGeneral e s).stale = s.stale := rfl
@[simp] theorem takeGeneral_maybeDirty (e : Exc) (s : State) : (takeGeneral e s).maybeDirty = s.maybeDirty := rfl
@[simp] theorem takeGeneral_unwritten (e : Exc) (s : State) : (takeGeneral e s).unwritten = s.unwritten := rfl
@[simp] theorem takeGeneral_writeBuffer (e : Exc) (s : State) : (takeGeneral e s).writeBuffer = s.writeBuffer := rfl
@[simp] theorem takeGeneral_deviceStores (e : Exc) (s : State) : (takeGeneral e s).deviceStores = s.deviceStores := rfl
@[simp] theorem takeGeneral_caches (e : Exc) (s : State) : (takeGeneral e s).caches = s.caches := rfl
@[simp] theorem takeGeneral_physMap (e : Exc) (s : State) : (takeGeneral e s).physMap = s.physMap := rfl
@[simp] theorem takeGeneral_timerIntOnIP7 (e : Exc) (s : State) : (takeGeneral e s).timerIntOnIP7 = s.timerIntOnIP7 := rfl
@[simp] theorem takeGeneral_hiloHazard (e : Exc) (s : State) : (takeGeneral e s).hiloHazard = s.hiloHazard := rfl
@[simp] theorem takeGeneral_cp0Hazard (e : Exc) (s : State) : (takeGeneral e s).cp0Hazard = s.cp0Hazard := rfl
@[simp] theorem takeGeneral_qnanS (e : Exc) (s : State) : (takeGeneral e s).qnanS = s.qnanS := rfl
@[simp] theorem takeGeneral_qnanD (e : Exc) (s : State) : (takeGeneral e s).qnanD = s.qnanD := rfl
@[simp] theorem takeGeneral_pins (e : Exc) (s : State) : (takeGeneral e s).pins = s.pins := rfl
@[simp] theorem takeGeneral_draws (e : Exc) (s : State) : (takeGeneral e s).draws = s.draws := rfl
@[simp] theorem takeGeneral_gpr (e : Exc) (s : State) (k : Reg) : (takeGeneral e s).gpr k = s.gpr k := by simp [State.gpr]
@[simp] theorem takeGeneral_fgrRead (e : Exc) (s : State) (k : Reg) : (takeGeneral e s).fgrRead k = s.fgrRead k := by simp [State.fgrRead]

/-! ### takeCacheError -/

@[simp] theorem takeCacheError_next (f : CacheError) (s : State) : (takeCacheError f s).next = none := rfl
@[simp] theorem takeCacheError_regs (f : CacheError) (s : State) : (takeCacheError f s).regs = s.regs := rfl
@[simp] theorem takeCacheError_hi (f : CacheError) (s : State) : (takeCacheError f s).hi = s.hi := rfl
@[simp] theorem takeCacheError_lo (f : CacheError) (s : State) : (takeCacheError f s).lo = s.lo := rfl
@[simp] theorem takeCacheError_hiTag (f : CacheError) (s : State) : (takeCacheError f s).hiTag = s.hiTag := rfl
@[simp] theorem takeCacheError_loTag (f : CacheError) (s : State) : (takeCacheError f s).loTag = s.loTag := rfl
@[simp] theorem takeCacheError_hiGuard (f : CacheError) (s : State) : (takeCacheError f s).hiGuard = s.hiGuard := rfl
@[simp] theorem takeCacheError_loGuard (f : CacheError) (s : State) : (takeCacheError f s).loGuard = s.loGuard := rfl
@[simp] theorem takeCacheError_llbit (f : CacheError) (s : State) : (takeCacheError f s).llbit = s.llbit := rfl
@[simp] theorem takeCacheError_link (f : CacheError) (s : State) : (takeCacheError f s).link = (breakLink s).link := rfl
@[simp] theorem takeCacheError_fgr (f : CacheError) (s : State) : (takeCacheError f s).fgr = s.fgr := rfl
@[simp] theorem takeCacheError_fcr0 (f : CacheError) (s : State) : (takeCacheError f s).fcr0 = s.fcr0 := rfl
@[simp] theorem takeCacheError_fcr31 (f : CacheError) (s : State) : (takeCacheError f s).fcr31 = s.fcr31 := rfl
@[simp] theorem takeCacheError_fccPrev (f : CacheError) (s : State) : (takeCacheError f s).fccPrev = s.fccPrev := rfl
@[simp] theorem takeCacheError_cp0 (f : CacheError) (s : State) : (takeCacheError f s).cp0 = enterCacheError f s s.cp0 := rfl
@[simp] theorem takeCacheError_timerLatch (f : CacheError) (s : State) : (takeCacheError f s).timerLatch = s.timerLatch := rfl
@[simp] theorem takeCacheError_randomHold (f : CacheError) (s : State) : (takeCacheError f s).randomHold = s.randomHold := rfl
@[simp] theorem takeCacheError_tlb (f : CacheError) (s : State) : (takeCacheError f s).tlb = s.tlb := rfl
@[simp] theorem takeCacheError_mem (f : CacheError) (s : State) : (takeCacheError f s).mem = s.mem := rfl
@[simp] theorem takeCacheError_stale (f : CacheError) (s : State) : (takeCacheError f s).stale = s.stale := rfl
@[simp] theorem takeCacheError_maybeDirty (f : CacheError) (s : State) : (takeCacheError f s).maybeDirty = s.maybeDirty := rfl
@[simp] theorem takeCacheError_unwritten (f : CacheError) (s : State) : (takeCacheError f s).unwritten = s.unwritten := rfl
@[simp] theorem takeCacheError_writeBuffer (f : CacheError) (s : State) : (takeCacheError f s).writeBuffer = s.writeBuffer := rfl
@[simp] theorem takeCacheError_deviceStores (f : CacheError) (s : State) : (takeCacheError f s).deviceStores = s.deviceStores := rfl
@[simp] theorem takeCacheError_caches (f : CacheError) (s : State) : (takeCacheError f s).caches = s.caches := rfl
@[simp] theorem takeCacheError_physMap (f : CacheError) (s : State) : (takeCacheError f s).physMap = s.physMap := rfl
@[simp] theorem takeCacheError_timerIntOnIP7 (f : CacheError) (s : State) : (takeCacheError f s).timerIntOnIP7 = s.timerIntOnIP7 := rfl
@[simp] theorem takeCacheError_hiloHazard (f : CacheError) (s : State) : (takeCacheError f s).hiloHazard = s.hiloHazard := rfl
@[simp] theorem takeCacheError_cp0Hazard (f : CacheError) (s : State) : (takeCacheError f s).cp0Hazard = s.cp0Hazard := rfl
@[simp] theorem takeCacheError_qnanS (f : CacheError) (s : State) : (takeCacheError f s).qnanS = s.qnanS := rfl
@[simp] theorem takeCacheError_qnanD (f : CacheError) (s : State) : (takeCacheError f s).qnanD = s.qnanD := rfl
@[simp] theorem takeCacheError_pins (f : CacheError) (s : State) : (takeCacheError f s).pins = s.pins := rfl
@[simp] theorem takeCacheError_draws (f : CacheError) (s : State) : (takeCacheError f s).draws = s.draws := rfl
@[simp] theorem takeCacheError_gpr (f : CacheError) (s : State) (k : Reg) : (takeCacheError f s).gpr k = s.gpr k := by simp [State.gpr]
@[simp] theorem takeCacheError_fgrRead (f : CacheError) (s : State) (k : Reg) : (takeCacheError f s).fgrRead k = s.fgrRead k := by simp [State.fgrRead]

/-! ### takeException -/

@[simp] theorem takeException_next (e : Exc) (s : State) : (takeException e s).next = none := by cases e <;> rfl
@[simp] theorem takeException_regs (e : Exc) (s : State) : (takeException e s).regs = s.regs := by cases e <;> rfl
@[simp] theorem takeException_hi (e : Exc) (s : State) : (takeException e s).hi = s.hi := by cases e <;> rfl
@[simp] theorem takeException_lo (e : Exc) (s : State) : (takeException e s).lo = s.lo := by cases e <;> rfl
@[simp] theorem takeException_hiTag (e : Exc) (s : State) : (takeException e s).hiTag = s.hiTag := by cases e <;> rfl
@[simp] theorem takeException_loTag (e : Exc) (s : State) : (takeException e s).loTag = s.loTag := by cases e <;> rfl
@[simp] theorem takeException_hiGuard (e : Exc) (s : State) : (takeException e s).hiGuard = s.hiGuard := by cases e <;> rfl
@[simp] theorem takeException_loGuard (e : Exc) (s : State) : (takeException e s).loGuard = s.loGuard := by cases e <;> rfl
@[simp] theorem takeException_llbit (e : Exc) (s : State) : (takeException e s).llbit = s.llbit := by cases e <;> rfl
@[simp] theorem takeException_link (e : Exc) (s : State) : (takeException e s).link = (breakLink s).link := by cases e <;> rfl
@[simp] theorem takeException_fgr (e : Exc) (s : State) : (takeException e s).fgr = s.fgr := by cases e <;> rfl
@[simp] theorem takeException_fcr0 (e : Exc) (s : State) : (takeException e s).fcr0 = s.fcr0 := by cases e <;> rfl
@[simp] theorem takeException_fcr31 (e : Exc) (s : State) : (takeException e s).fcr31 = s.fcr31 := by cases e <;> rfl
@[simp] theorem takeException_fccPrev (e : Exc) (s : State) : (takeException e s).fccPrev = s.fccPrev := by cases e <;> rfl
@[simp] theorem takeException_timerLatch (e : Exc) (s : State) : (takeException e s).timerLatch = s.timerLatch := by cases e <;> rfl
@[simp] theorem takeException_randomHold (e : Exc) (s : State) : (takeException e s).randomHold = s.randomHold := by cases e <;> rfl
@[simp] theorem takeException_tlb (e : Exc) (s : State) : (takeException e s).tlb = s.tlb := by cases e <;> rfl
@[simp] theorem takeException_mem (e : Exc) (s : State) : (takeException e s).mem = s.mem := by cases e <;> rfl
@[simp] theorem takeException_stale (e : Exc) (s : State) : (takeException e s).stale = s.stale := by cases e <;> rfl
@[simp] theorem takeException_maybeDirty (e : Exc) (s : State) : (takeException e s).maybeDirty = s.maybeDirty := by cases e <;> rfl
@[simp] theorem takeException_unwritten (e : Exc) (s : State) : (takeException e s).unwritten = s.unwritten := by cases e <;> rfl
@[simp] theorem takeException_writeBuffer (e : Exc) (s : State) : (takeException e s).writeBuffer = s.writeBuffer := by cases e <;> rfl
@[simp] theorem takeException_deviceStores (e : Exc) (s : State) : (takeException e s).deviceStores = s.deviceStores := by cases e <;> rfl
@[simp] theorem takeException_caches (e : Exc) (s : State) : (takeException e s).caches = s.caches := by cases e <;> rfl
@[simp] theorem takeException_physMap (e : Exc) (s : State) : (takeException e s).physMap = s.physMap := by cases e <;> rfl
@[simp] theorem takeException_timerIntOnIP7 (e : Exc) (s : State) : (takeException e s).timerIntOnIP7 = s.timerIntOnIP7 := by cases e <;> rfl
@[simp] theorem takeException_hiloHazard (e : Exc) (s : State) : (takeException e s).hiloHazard = s.hiloHazard := by cases e <;> rfl
@[simp] theorem takeException_cp0Hazard (e : Exc) (s : State) : (takeException e s).cp0Hazard = s.cp0Hazard := by cases e <;> rfl
@[simp] theorem takeException_qnanS (e : Exc) (s : State) : (takeException e s).qnanS = s.qnanS := by cases e <;> rfl
@[simp] theorem takeException_qnanD (e : Exc) (s : State) : (takeException e s).qnanD = s.qnanD := by cases e <;> rfl
@[simp] theorem takeException_pins (e : Exc) (s : State) : (takeException e s).pins = s.pins := by cases e <;> rfl
@[simp] theorem takeException_draws (e : Exc) (s : State) : (takeException e s).draws = s.draws := by cases e <;> rfl
@[simp] theorem takeException_gpr (e : Exc) (s : State) (k : Reg) : (takeException e s).gpr k = s.gpr k := by simp [State.gpr]
@[simp] theorem takeException_fgrRead (e : Exc) (s : State) (k : Reg) : (takeException e s).fgrRead k = s.fgrRead k := by simp [State.fgrRead]

/-! ### returnFromException -/

@[simp] theorem returnFromException_next (s : State) : (returnFromException s).next = none := rfl
@[simp] theorem returnFromException_regs (s : State) : (returnFromException s).regs = s.regs := rfl
@[simp] theorem returnFromException_hi (s : State) : (returnFromException s).hi = s.hi := rfl
@[simp] theorem returnFromException_lo (s : State) : (returnFromException s).lo = s.lo := rfl
@[simp] theorem returnFromException_hiTag (s : State) : (returnFromException s).hiTag = s.hiTag := rfl
@[simp] theorem returnFromException_loTag (s : State) : (returnFromException s).loTag = s.loTag := rfl
@[simp] theorem returnFromException_hiGuard (s : State) : (returnFromException s).hiGuard = s.hiGuard - 1 := rfl
@[simp] theorem returnFromException_loGuard (s : State) : (returnFromException s).loGuard = s.loGuard - 1 := rfl
@[simp] theorem returnFromException_llbit (s : State) : (returnFromException s).llbit = false := rfl
@[simp] theorem returnFromException_link (s : State) : (returnFromException s).link = (breakLink s).link := rfl
@[simp] theorem returnFromException_fgr (s : State) : (returnFromException s).fgr = s.fgr := rfl
@[simp] theorem returnFromException_fcr0 (s : State) : (returnFromException s).fcr0 = s.fcr0 := rfl
@[simp] theorem returnFromException_fcr31 (s : State) : (returnFromException s).fcr31 = s.fcr31 := rfl
@[simp] theorem returnFromException_fccPrev (s : State) : (returnFromException s).fccPrev = s.fccPrev := rfl
@[simp] theorem returnFromException_timerLatch (s : State) : (returnFromException s).timerLatch = s.timerLatch := rfl
@[simp] theorem returnFromException_randomHold (s : State) : (returnFromException s).randomHold = s.randomHold := rfl
@[simp] theorem returnFromException_tlb (s : State) : (returnFromException s).tlb = s.tlb := rfl
@[simp] theorem returnFromException_mem (s : State) : (returnFromException s).mem = s.mem := rfl
@[simp] theorem returnFromException_stale (s : State) : (returnFromException s).stale = s.stale := rfl
@[simp] theorem returnFromException_maybeDirty (s : State) : (returnFromException s).maybeDirty = s.maybeDirty := rfl
@[simp] theorem returnFromException_unwritten (s : State) : (returnFromException s).unwritten = s.unwritten := rfl
@[simp] theorem returnFromException_writeBuffer (s : State) : (returnFromException s).writeBuffer = s.writeBuffer := rfl
@[simp] theorem returnFromException_deviceStores (s : State) : (returnFromException s).deviceStores = s.deviceStores := rfl
@[simp] theorem returnFromException_caches (s : State) : (returnFromException s).caches = s.caches := rfl
@[simp] theorem returnFromException_physMap (s : State) : (returnFromException s).physMap = s.physMap := rfl
@[simp] theorem returnFromException_timerIntOnIP7 (s : State) : (returnFromException s).timerIntOnIP7 = s.timerIntOnIP7 := rfl
@[simp] theorem returnFromException_hiloHazard (s : State) : (returnFromException s).hiloHazard = s.hiloHazard := rfl
@[simp] theorem returnFromException_cp0Hazard (s : State) : (returnFromException s).cp0Hazard = s.cp0Hazard := rfl
@[simp] theorem returnFromException_qnanS (s : State) : (returnFromException s).qnanS = s.qnanS := rfl
@[simp] theorem returnFromException_qnanD (s : State) : (returnFromException s).qnanD = s.qnanD := rfl
@[simp] theorem returnFromException_pins (s : State) : (returnFromException s).pins = s.pins := rfl
@[simp] theorem returnFromException_draws (s : State) : (returnFromException s).draws = s.draws := rfl
@[simp] theorem returnFromException_gpr (s : State) (k : Reg) : (returnFromException s).gpr k = s.gpr k := by simp [State.gpr]
@[simp] theorem returnFromException_fgrRead (s : State) (k : Reg) : (returnFromException s).fgrRead k = s.fgrRead k := by simp [State.fgrRead]

/-! ### tlbWrite -/

@[simp] theorem tlbWrite_pc (i : Fin 48) (s : State) : (tlbWrite i s).pc = s.pc := rfl
@[simp] theorem tlbWrite_next (i : Fin 48) (s : State) : (tlbWrite i s).next = s.next := rfl
@[simp] theorem tlbWrite_regs (i : Fin 48) (s : State) : (tlbWrite i s).regs = s.regs := rfl
@[simp] theorem tlbWrite_hi (i : Fin 48) (s : State) : (tlbWrite i s).hi = s.hi := rfl
@[simp] theorem tlbWrite_lo (i : Fin 48) (s : State) : (tlbWrite i s).lo = s.lo := rfl
@[simp] theorem tlbWrite_hiTag (i : Fin 48) (s : State) : (tlbWrite i s).hiTag = s.hiTag := rfl
@[simp] theorem tlbWrite_loTag (i : Fin 48) (s : State) : (tlbWrite i s).loTag = s.loTag := rfl
@[simp] theorem tlbWrite_hiGuard (i : Fin 48) (s : State) : (tlbWrite i s).hiGuard = s.hiGuard := rfl
@[simp] theorem tlbWrite_loGuard (i : Fin 48) (s : State) : (tlbWrite i s).loGuard = s.loGuard := rfl
@[simp] theorem tlbWrite_llbit (i : Fin 48) (s : State) : (tlbWrite i s).llbit = s.llbit := rfl
@[simp] theorem tlbWrite_link (i : Fin 48) (s : State) : (tlbWrite i s).link = s.link := rfl
@[simp] theorem tlbWrite_fgr (i : Fin 48) (s : State) : (tlbWrite i s).fgr = s.fgr := rfl
@[simp] theorem tlbWrite_fcr0 (i : Fin 48) (s : State) : (tlbWrite i s).fcr0 = s.fcr0 := rfl
@[simp] theorem tlbWrite_fcr31 (i : Fin 48) (s : State) : (tlbWrite i s).fcr31 = s.fcr31 := rfl
@[simp] theorem tlbWrite_fccPrev (i : Fin 48) (s : State) : (tlbWrite i s).fccPrev = s.fccPrev := rfl
@[simp] theorem tlbWrite_cp0 (i : Fin 48) (s : State) : (tlbWrite i s).cp0 = s.cp0 := rfl
@[simp] theorem tlbWrite_timerLatch (i : Fin 48) (s : State) : (tlbWrite i s).timerLatch = s.timerLatch := rfl
@[simp] theorem tlbWrite_randomHold (i : Fin 48) (s : State) : (tlbWrite i s).randomHold = s.randomHold := rfl
@[simp] theorem tlbWrite_tlb (i : Fin 48) (s : State) : (tlbWrite i s).tlb = s.tlb.set i.val s.seen.tlbEntryNow i.isLt := rfl
@[simp] theorem tlbWrite_recent (i : Fin 48) (s : State) : (tlbWrite i s).recent = s.recent := rfl
@[simp] theorem tlbWrite_mem (i : Fin 48) (s : State) : (tlbWrite i s).mem = s.mem := rfl
@[simp] theorem tlbWrite_stale (i : Fin 48) (s : State) : (tlbWrite i s).stale = s.stale := rfl
@[simp] theorem tlbWrite_maybeDirty (i : Fin 48) (s : State) : (tlbWrite i s).maybeDirty = s.maybeDirty := rfl
@[simp] theorem tlbWrite_unwritten (i : Fin 48) (s : State) : (tlbWrite i s).unwritten = s.unwritten := rfl
@[simp] theorem tlbWrite_writeBuffer (i : Fin 48) (s : State) : (tlbWrite i s).writeBuffer = s.writeBuffer := rfl
@[simp] theorem tlbWrite_deviceStores (i : Fin 48) (s : State) : (tlbWrite i s).deviceStores = s.deviceStores := rfl
@[simp] theorem tlbWrite_caches (i : Fin 48) (s : State) : (tlbWrite i s).caches = s.caches := rfl
@[simp] theorem tlbWrite_physMap (i : Fin 48) (s : State) : (tlbWrite i s).physMap = s.physMap := rfl
@[simp] theorem tlbWrite_timerIntOnIP7 (i : Fin 48) (s : State) : (tlbWrite i s).timerIntOnIP7 = s.timerIntOnIP7 := rfl
@[simp] theorem tlbWrite_hiloHazard (i : Fin 48) (s : State) : (tlbWrite i s).hiloHazard = s.hiloHazard := rfl
@[simp] theorem tlbWrite_cp0Hazard (i : Fin 48) (s : State) : (tlbWrite i s).cp0Hazard = s.cp0Hazard := rfl
@[simp] theorem tlbWrite_qnanS (i : Fin 48) (s : State) : (tlbWrite i s).qnanS = s.qnanS := rfl
@[simp] theorem tlbWrite_qnanD (i : Fin 48) (s : State) : (tlbWrite i s).qnanD = s.qnanD := rfl
@[simp] theorem tlbWrite_pins (i : Fin 48) (s : State) : (tlbWrite i s).pins = s.pins := rfl
@[simp] theorem tlbWrite_draws (i : Fin 48) (s : State) : (tlbWrite i s).draws = s.draws := rfl
@[simp] theorem tlbWrite_gpr (i : Fin 48) (s : State) (k : Reg) : (tlbWrite i s).gpr k = s.gpr k := by simp [State.gpr]
@[simp] theorem tlbWrite_fgrRead (i : Fin 48) (s : State) (k : Reg) : (tlbWrite i s).fgrRead k = s.fgrRead k := by simp [State.fgrRead]
@[simp] theorem tlbWrite_statusSeen (i : Fin 48) (s : State) : (tlbWrite i s).statusSeen = s.statusSeen := rfl
@[simp] theorem tlbWrite_fr (i : Fin 48) (s : State) : (tlbWrite i s).fr = s.fr := by simp [State.fr]
@[simp] theorem tlbWrite_cu (i : Fin 48) (s : State) (z : Nat) : (tlbWrite i s).cu z = s.cu z := by simp [State.cu]

/-! ### tlbRead -/

@[simp] theorem tlbRead_pc (i : Fin 48) (s : State) : (tlbRead i s).pc = s.pc := rfl
@[simp] theorem tlbRead_next (i : Fin 48) (s : State) : (tlbRead i s).next = s.next := rfl
@[simp] theorem tlbRead_regs (i : Fin 48) (s : State) : (tlbRead i s).regs = s.regs := rfl
@[simp] theorem tlbRead_hi (i : Fin 48) (s : State) : (tlbRead i s).hi = s.hi := rfl
@[simp] theorem tlbRead_lo (i : Fin 48) (s : State) : (tlbRead i s).lo = s.lo := rfl
@[simp] theorem tlbRead_hiTag (i : Fin 48) (s : State) : (tlbRead i s).hiTag = s.hiTag := rfl
@[simp] theorem tlbRead_loTag (i : Fin 48) (s : State) : (tlbRead i s).loTag = s.loTag := rfl
@[simp] theorem tlbRead_hiGuard (i : Fin 48) (s : State) : (tlbRead i s).hiGuard = s.hiGuard := rfl
@[simp] theorem tlbRead_loGuard (i : Fin 48) (s : State) : (tlbRead i s).loGuard = s.loGuard := rfl
@[simp] theorem tlbRead_llbit (i : Fin 48) (s : State) : (tlbRead i s).llbit = s.llbit := rfl
@[simp] theorem tlbRead_link (i : Fin 48) (s : State) : (tlbRead i s).link = s.link := rfl
@[simp] theorem tlbRead_fgr (i : Fin 48) (s : State) : (tlbRead i s).fgr = s.fgr := rfl
@[simp] theorem tlbRead_fcr0 (i : Fin 48) (s : State) : (tlbRead i s).fcr0 = s.fcr0 := rfl
@[simp] theorem tlbRead_fcr31 (i : Fin 48) (s : State) : (tlbRead i s).fcr31 = s.fcr31 := rfl
@[simp] theorem tlbRead_fccPrev (i : Fin 48) (s : State) : (tlbRead i s).fccPrev = s.fccPrev := rfl
@[simp] theorem tlbRead_timerLatch (i : Fin 48) (s : State) : (tlbRead i s).timerLatch = s.timerLatch := rfl
@[simp] theorem tlbRead_randomHold (i : Fin 48) (s : State) : (tlbRead i s).randomHold = s.randomHold := rfl
@[simp] theorem tlbRead_tlb (i : Fin 48) (s : State) : (tlbRead i s).tlb = s.tlb := rfl
@[simp] theorem tlbRead_recent (i : Fin 48) (s : State) : (tlbRead i s).recent = s.recent := rfl
@[simp] theorem tlbRead_mem (i : Fin 48) (s : State) : (tlbRead i s).mem = s.mem := rfl
@[simp] theorem tlbRead_stale (i : Fin 48) (s : State) : (tlbRead i s).stale = s.stale := rfl
@[simp] theorem tlbRead_maybeDirty (i : Fin 48) (s : State) : (tlbRead i s).maybeDirty = s.maybeDirty := rfl
@[simp] theorem tlbRead_unwritten (i : Fin 48) (s : State) : (tlbRead i s).unwritten = s.unwritten := rfl
@[simp] theorem tlbRead_writeBuffer (i : Fin 48) (s : State) : (tlbRead i s).writeBuffer = s.writeBuffer := rfl
@[simp] theorem tlbRead_deviceStores (i : Fin 48) (s : State) : (tlbRead i s).deviceStores = s.deviceStores := rfl
@[simp] theorem tlbRead_caches (i : Fin 48) (s : State) : (tlbRead i s).caches = s.caches := rfl
@[simp] theorem tlbRead_physMap (i : Fin 48) (s : State) : (tlbRead i s).physMap = s.physMap := rfl
@[simp] theorem tlbRead_timerIntOnIP7 (i : Fin 48) (s : State) : (tlbRead i s).timerIntOnIP7 = s.timerIntOnIP7 := rfl
@[simp] theorem tlbRead_hiloHazard (i : Fin 48) (s : State) : (tlbRead i s).hiloHazard = s.hiloHazard := rfl
@[simp] theorem tlbRead_cp0Hazard (i : Fin 48) (s : State) : (tlbRead i s).cp0Hazard = s.cp0Hazard := rfl
@[simp] theorem tlbRead_qnanS (i : Fin 48) (s : State) : (tlbRead i s).qnanS = s.qnanS := rfl
@[simp] theorem tlbRead_qnanD (i : Fin 48) (s : State) : (tlbRead i s).qnanD = s.qnanD := rfl
@[simp] theorem tlbRead_pins (i : Fin 48) (s : State) : (tlbRead i s).pins = s.pins := rfl
@[simp] theorem tlbRead_draws (i : Fin 48) (s : State) : (tlbRead i s).draws = s.draws := rfl
@[simp] theorem tlbRead_gpr (i : Fin 48) (s : State) (k : Reg) : (tlbRead i s).gpr k = s.gpr k := by simp [State.gpr]
@[simp] theorem tlbRead_fgrRead (i : Fin 48) (s : State) (k : Reg) : (tlbRead i s).fgrRead k = s.fgrRead k := by simp [State.fgrRead]

/-! ### setLink -/

@[simp] theorem setLink_pc (pa : PAddr) (attr : BitVec 3) (s : State) : (setLink pa attr s).pc = s.pc := rfl
@[simp] theorem setLink_next (pa : PAddr) (attr : BitVec 3) (s : State) : (setLink pa attr s).next = s.next := rfl
@[simp] theorem setLink_regs (pa : PAddr) (attr : BitVec 3) (s : State) : (setLink pa attr s).regs = s.regs := rfl
@[simp] theorem setLink_hi (pa : PAddr) (attr : BitVec 3) (s : State) : (setLink pa attr s).hi = s.hi := rfl
@[simp] theorem setLink_lo (pa : PAddr) (attr : BitVec 3) (s : State) : (setLink pa attr s).lo = s.lo := rfl
@[simp] theorem setLink_hiTag (pa : PAddr) (attr : BitVec 3) (s : State) : (setLink pa attr s).hiTag = s.hiTag := rfl
@[simp] theorem setLink_loTag (pa : PAddr) (attr : BitVec 3) (s : State) : (setLink pa attr s).loTag = s.loTag := rfl
@[simp] theorem setLink_hiGuard (pa : PAddr) (attr : BitVec 3) (s : State) : (setLink pa attr s).hiGuard = s.hiGuard := rfl
@[simp] theorem setLink_loGuard (pa : PAddr) (attr : BitVec 3) (s : State) : (setLink pa attr s).loGuard = s.loGuard := rfl
@[simp] theorem setLink_llbit (pa : PAddr) (attr : BitVec 3) (s : State) : (setLink pa attr s).llbit = true := rfl
@[simp] theorem setLink_fgr (pa : PAddr) (attr : BitVec 3) (s : State) : (setLink pa attr s).fgr = s.fgr := rfl
@[simp] theorem setLink_fcr0 (pa : PAddr) (attr : BitVec 3) (s : State) : (setLink pa attr s).fcr0 = s.fcr0 := rfl
@[simp] theorem setLink_fcr31 (pa : PAddr) (attr : BitVec 3) (s : State) : (setLink pa attr s).fcr31 = s.fcr31 := rfl
@[simp] theorem setLink_fccPrev (pa : PAddr) (attr : BitVec 3) (s : State) : (setLink pa attr s).fccPrev = s.fccPrev := rfl
@[simp] theorem setLink_cp0 (pa : PAddr) (attr : BitVec 3) (s : State) : (setLink pa attr s).cp0 = { s.cp0 with llAddr := pa.extractLsb' 4 32 } := rfl
@[simp] theorem setLink_timerLatch (pa : PAddr) (attr : BitVec 3) (s : State) : (setLink pa attr s).timerLatch = s.timerLatch := rfl
@[simp] theorem setLink_randomHold (pa : PAddr) (attr : BitVec 3) (s : State) : (setLink pa attr s).randomHold = s.randomHold := rfl
@[simp] theorem setLink_tlb (pa : PAddr) (attr : BitVec 3) (s : State) : (setLink pa attr s).tlb = s.tlb := rfl
@[simp] theorem setLink_mem (pa : PAddr) (attr : BitVec 3) (s : State) : (setLink pa attr s).mem = s.mem := rfl
@[simp] theorem setLink_stale (pa : PAddr) (attr : BitVec 3) (s : State) : (setLink pa attr s).stale = s.stale := rfl
@[simp] theorem setLink_maybeDirty (pa : PAddr) (attr : BitVec 3) (s : State) : (setLink pa attr s).maybeDirty = s.maybeDirty := rfl
@[simp] theorem setLink_unwritten (pa : PAddr) (attr : BitVec 3) (s : State) : (setLink pa attr s).unwritten = s.unwritten := rfl
@[simp] theorem setLink_writeBuffer (pa : PAddr) (attr : BitVec 3) (s : State) : (setLink pa attr s).writeBuffer = s.writeBuffer := rfl
@[simp] theorem setLink_deviceStores (pa : PAddr) (attr : BitVec 3) (s : State) : (setLink pa attr s).deviceStores = s.deviceStores := rfl
@[simp] theorem setLink_caches (pa : PAddr) (attr : BitVec 3) (s : State) : (setLink pa attr s).caches = s.caches := rfl
@[simp] theorem setLink_physMap (pa : PAddr) (attr : BitVec 3) (s : State) : (setLink pa attr s).physMap = s.physMap := rfl
@[simp] theorem setLink_timerIntOnIP7 (pa : PAddr) (attr : BitVec 3) (s : State) : (setLink pa attr s).timerIntOnIP7 = s.timerIntOnIP7 := rfl
@[simp] theorem setLink_hiloHazard (pa : PAddr) (attr : BitVec 3) (s : State) : (setLink pa attr s).hiloHazard = s.hiloHazard := rfl
@[simp] theorem setLink_cp0Hazard (pa : PAddr) (attr : BitVec 3) (s : State) : (setLink pa attr s).cp0Hazard = s.cp0Hazard := rfl
@[simp] theorem setLink_qnanS (pa : PAddr) (attr : BitVec 3) (s : State) : (setLink pa attr s).qnanS = s.qnanS := rfl
@[simp] theorem setLink_qnanD (pa : PAddr) (attr : BitVec 3) (s : State) : (setLink pa attr s).qnanD = s.qnanD := rfl
@[simp] theorem setLink_pins (pa : PAddr) (attr : BitVec 3) (s : State) : (setLink pa attr s).pins = s.pins := rfl
@[simp] theorem setLink_draws (pa : PAddr) (attr : BitVec 3) (s : State) : (setLink pa attr s).draws = s.draws := rfl
@[simp] theorem setLink_gpr (pa : PAddr) (attr : BitVec 3) (s : State) (k : Reg) : (setLink pa attr s).gpr k = s.gpr k := by simp [State.gpr]
@[simp] theorem setLink_fgrRead (pa : PAddr) (attr : BitVec 3) (s : State) (k : Reg) : (setLink pa attr s).fgrRead k = s.fgrRead k := by simp [State.fgrRead]

/-! ### tick -/

@[simp] theorem tick_pc (b s : State) : (tick b s).pc = s.pc := rfl
@[simp] theorem tick_next (b s : State) : (tick b s).next = s.next := rfl
@[simp] theorem tick_regs (b s : State) : (tick b s).regs = s.regs := rfl
@[simp] theorem tick_hi (b s : State) : (tick b s).hi = s.hi := rfl
@[simp] theorem tick_lo (b s : State) : (tick b s).lo = s.lo := rfl
@[simp] theorem tick_hiTag (b s : State) : (tick b s).hiTag = s.hiTag := rfl
@[simp] theorem tick_loTag (b s : State) : (tick b s).loTag = s.loTag := rfl
@[simp] theorem tick_hiGuard (b s : State) : (tick b s).hiGuard = s.hiGuard := rfl
@[simp] theorem tick_loGuard (b s : State) : (tick b s).loGuard = s.loGuard := rfl
@[simp] theorem tick_llbit (b s : State) : (tick b s).llbit = s.llbit := rfl
@[simp] theorem tick_link (b s : State) : (tick b s).link = s.link := rfl
@[simp] theorem tick_fgr (b s : State) : (tick b s).fgr = s.fgr := rfl
@[simp] theorem tick_fcr0 (b s : State) : (tick b s).fcr0 = s.fcr0 := rfl
@[simp] theorem tick_fcr31 (b s : State) : (tick b s).fcr31 = s.fcr31 := rfl
@[simp] theorem tick_fccPrev (b s : State) : (tick b s).fccPrev = b.fccAll := rfl
@[simp] theorem tick_randomHold (b s : State) : (tick b s).randomHold = false := rfl
@[simp] theorem tick_tlb (b s : State) : (tick b s).tlb = s.tlb := rfl
@[simp] theorem tick_mem (b s : State) : (tick b s).mem = s.mem := rfl
@[simp] theorem tick_stale (b s : State) : (tick b s).stale = s.stale := rfl
@[simp] theorem tick_maybeDirty (b s : State) : (tick b s).maybeDirty = s.maybeDirty := rfl
@[simp] theorem tick_unwritten (b s : State) : (tick b s).unwritten = s.unwritten := rfl
@[simp] theorem tick_writeBuffer (b s : State) : (tick b s).writeBuffer = s.writeBuffer := rfl
@[simp] theorem tick_deviceStores (b s : State) : (tick b s).deviceStores = s.deviceStores := rfl
@[simp] theorem tick_caches (b s : State) : (tick b s).caches = s.caches := rfl
@[simp] theorem tick_physMap (b s : State) : (tick b s).physMap = s.physMap := rfl
@[simp] theorem tick_timerIntOnIP7 (b s : State) : (tick b s).timerIntOnIP7 = s.timerIntOnIP7 := rfl
@[simp] theorem tick_hiloHazard (b s : State) : (tick b s).hiloHazard = s.hiloHazard := rfl
@[simp] theorem tick_cp0Hazard (b s : State) : (tick b s).cp0Hazard = s.cp0Hazard := rfl
@[simp] theorem tick_qnanS (b s : State) : (tick b s).qnanS = s.qnanS := rfl
@[simp] theorem tick_qnanD (b s : State) : (tick b s).qnanD = s.qnanD := rfl
@[simp] theorem tick_draws (b s : State) : (tick b s).draws = s.draws + 1 := rfl
@[simp] theorem tick_gpr (b s : State) (k : Reg) : (tick b s).gpr k = s.gpr k := by simp [State.gpr]
@[simp] theorem tick_fgrRead (b s : State) (k : Reg) : (tick b s).fgrRead k = s.fgrRead k := by simp [State.fgrRead]

/-! ### onCp0 -/

@[simp] theorem onCp0_pc (f : Cp0 → Cp0) (s : State) : (onCp0 f s).pc = s.pc := rfl
@[simp] theorem onCp0_next (f : Cp0 → Cp0) (s : State) : (onCp0 f s).next = s.next := rfl
@[simp] theorem onCp0_regs (f : Cp0 → Cp0) (s : State) : (onCp0 f s).regs = s.regs := rfl
@[simp] theorem onCp0_hi (f : Cp0 → Cp0) (s : State) : (onCp0 f s).hi = s.hi := rfl
@[simp] theorem onCp0_lo (f : Cp0 → Cp0) (s : State) : (onCp0 f s).lo = s.lo := rfl
@[simp] theorem onCp0_hiTag (f : Cp0 → Cp0) (s : State) : (onCp0 f s).hiTag = s.hiTag := rfl
@[simp] theorem onCp0_loTag (f : Cp0 → Cp0) (s : State) : (onCp0 f s).loTag = s.loTag := rfl
@[simp] theorem onCp0_hiGuard (f : Cp0 → Cp0) (s : State) : (onCp0 f s).hiGuard = s.hiGuard := rfl
@[simp] theorem onCp0_loGuard (f : Cp0 → Cp0) (s : State) : (onCp0 f s).loGuard = s.loGuard := rfl
@[simp] theorem onCp0_llbit (f : Cp0 → Cp0) (s : State) : (onCp0 f s).llbit = s.llbit := rfl
@[simp] theorem onCp0_link (f : Cp0 → Cp0) (s : State) : (onCp0 f s).link = s.link := rfl
@[simp] theorem onCp0_fgr (f : Cp0 → Cp0) (s : State) : (onCp0 f s).fgr = s.fgr := rfl
@[simp] theorem onCp0_fcr0 (f : Cp0 → Cp0) (s : State) : (onCp0 f s).fcr0 = s.fcr0 := rfl
@[simp] theorem onCp0_fcr31 (f : Cp0 → Cp0) (s : State) : (onCp0 f s).fcr31 = s.fcr31 := rfl
@[simp] theorem onCp0_fccPrev (f : Cp0 → Cp0) (s : State) : (onCp0 f s).fccPrev = s.fccPrev := rfl
@[simp] theorem onCp0_cp0 (f : Cp0 → Cp0) (s : State) : (onCp0 f s).cp0 = f s.cp0 := rfl
@[simp] theorem onCp0_timerLatch (f : Cp0 → Cp0) (s : State) : (onCp0 f s).timerLatch = s.timerLatch := rfl
@[simp] theorem onCp0_randomHold (f : Cp0 → Cp0) (s : State) : (onCp0 f s).randomHold = s.randomHold := rfl
@[simp] theorem onCp0_tlb (f : Cp0 → Cp0) (s : State) : (onCp0 f s).tlb = s.tlb := rfl
@[simp] theorem onCp0_mem (f : Cp0 → Cp0) (s : State) : (onCp0 f s).mem = s.mem := rfl
@[simp] theorem onCp0_stale (f : Cp0 → Cp0) (s : State) : (onCp0 f s).stale = s.stale := rfl
@[simp] theorem onCp0_maybeDirty (f : Cp0 → Cp0) (s : State) : (onCp0 f s).maybeDirty = s.maybeDirty := rfl
@[simp] theorem onCp0_unwritten (f : Cp0 → Cp0) (s : State) : (onCp0 f s).unwritten = s.unwritten := rfl
@[simp] theorem onCp0_writeBuffer (f : Cp0 → Cp0) (s : State) : (onCp0 f s).writeBuffer = s.writeBuffer := rfl
@[simp] theorem onCp0_deviceStores (f : Cp0 → Cp0) (s : State) : (onCp0 f s).deviceStores = s.deviceStores := rfl
@[simp] theorem onCp0_caches (f : Cp0 → Cp0) (s : State) : (onCp0 f s).caches = s.caches := rfl
@[simp] theorem onCp0_physMap (f : Cp0 → Cp0) (s : State) : (onCp0 f s).physMap = s.physMap := rfl
@[simp] theorem onCp0_timerIntOnIP7 (f : Cp0 → Cp0) (s : State) : (onCp0 f s).timerIntOnIP7 = s.timerIntOnIP7 := rfl
@[simp] theorem onCp0_hiloHazard (f : Cp0 → Cp0) (s : State) : (onCp0 f s).hiloHazard = s.hiloHazard := rfl
@[simp] theorem onCp0_cp0Hazard (f : Cp0 → Cp0) (s : State) : (onCp0 f s).cp0Hazard = s.cp0Hazard := rfl
@[simp] theorem onCp0_qnanS (f : Cp0 → Cp0) (s : State) : (onCp0 f s).qnanS = s.qnanS := rfl
@[simp] theorem onCp0_qnanD (f : Cp0 → Cp0) (s : State) : (onCp0 f s).qnanD = s.qnanD := rfl
@[simp] theorem onCp0_pins (f : Cp0 → Cp0) (s : State) : (onCp0 f s).pins = s.pins := rfl
@[simp] theorem onCp0_draws (f : Cp0 → Cp0) (s : State) : (onCp0 f s).draws = s.draws := rfl
@[simp] theorem onCp0_gpr (f : Cp0 → Cp0) (s : State) (k : Reg) : (onCp0 f s).gpr k = s.gpr k := by simp [State.gpr]
@[simp] theorem onCp0_fgrRead (f : Cp0 → Cp0) (s : State) (k : Reg) : (onCp0 f s).fgrRead k = s.fgrRead k := by simp [State.fgrRead]

/-! ### endLink -/

@[simp] theorem endLink_pc (s : State) : (endLink s).pc = s.pc := rfl
@[simp] theorem endLink_next (s : State) : (endLink s).next = s.next := rfl
@[simp] theorem endLink_regs (s : State) : (endLink s).regs = s.regs := rfl
@[simp] theorem endLink_hi (s : State) : (endLink s).hi = s.hi := rfl
@[simp] theorem endLink_lo (s : State) : (endLink s).lo = s.lo := rfl
@[simp] theorem endLink_hiTag (s : State) : (endLink s).hiTag = s.hiTag := rfl
@[simp] theorem endLink_loTag (s : State) : (endLink s).loTag = s.loTag := rfl
@[simp] theorem endLink_hiGuard (s : State) : (endLink s).hiGuard = s.hiGuard := rfl
@[simp] theorem endLink_loGuard (s : State) : (endLink s).loGuard = s.loGuard := rfl
@[simp] theorem endLink_llbit (s : State) : (endLink s).llbit = s.llbit := rfl
@[simp] theorem endLink_link (s : State) : (endLink s).link = { addr := none, armed := false, start := s.draws, fails := 0 } := rfl
@[simp] theorem endLink_fgr (s : State) : (endLink s).fgr = s.fgr := rfl
@[simp] theorem endLink_fcr0 (s : State) : (endLink s).fcr0 = s.fcr0 := rfl
@[simp] theorem endLink_fcr31 (s : State) : (endLink s).fcr31 = s.fcr31 := rfl
@[simp] theorem endLink_fccPrev (s : State) : (endLink s).fccPrev = s.fccPrev := rfl
@[simp] theorem endLink_cp0 (s : State) : (endLink s).cp0 = s.cp0 := rfl
@[simp] theorem endLink_timerLatch (s : State) : (endLink s).timerLatch = s.timerLatch := rfl
@[simp] theorem endLink_randomHold (s : State) : (endLink s).randomHold = s.randomHold := rfl
@[simp] theorem endLink_tlb (s : State) : (endLink s).tlb = s.tlb := rfl
@[simp] theorem endLink_recent (s : State) : (endLink s).recent = s.recent := rfl
@[simp] theorem endLink_mem (s : State) : (endLink s).mem = s.mem := rfl
@[simp] theorem endLink_stale (s : State) : (endLink s).stale = s.stale := rfl
@[simp] theorem endLink_maybeDirty (s : State) : (endLink s).maybeDirty = s.maybeDirty := rfl
@[simp] theorem endLink_unwritten (s : State) : (endLink s).unwritten = s.unwritten := rfl
@[simp] theorem endLink_writeBuffer (s : State) : (endLink s).writeBuffer = s.writeBuffer := rfl
@[simp] theorem endLink_deviceStores (s : State) : (endLink s).deviceStores = s.deviceStores := rfl
@[simp] theorem endLink_caches (s : State) : (endLink s).caches = s.caches := rfl
@[simp] theorem endLink_physMap (s : State) : (endLink s).physMap = s.physMap := rfl
@[simp] theorem endLink_timerIntOnIP7 (s : State) : (endLink s).timerIntOnIP7 = s.timerIntOnIP7 := rfl
@[simp] theorem endLink_hiloHazard (s : State) : (endLink s).hiloHazard = s.hiloHazard := rfl
@[simp] theorem endLink_cp0Hazard (s : State) : (endLink s).cp0Hazard = s.cp0Hazard := rfl
@[simp] theorem endLink_qnanS (s : State) : (endLink s).qnanS = s.qnanS := rfl
@[simp] theorem endLink_qnanD (s : State) : (endLink s).qnanD = s.qnanD := rfl
@[simp] theorem endLink_pins (s : State) : (endLink s).pins = s.pins := rfl
@[simp] theorem endLink_draws (s : State) : (endLink s).draws = s.draws := rfl
@[simp] theorem endLink_gpr (s : State) (k : Reg) : (endLink s).gpr k = s.gpr k := by simp [State.gpr]
@[simp] theorem endLink_fgrRead (s : State) (k : Reg) : (endLink s).fgrRead k = s.fgrRead k := by simp [State.fgrRead]
@[simp] theorem endLink_statusSeen (s : State) : (endLink s).statusSeen = s.statusSeen := rfl
@[simp] theorem endLink_fr (s : State) : (endLink s).fr = s.fr := by simp [State.fr]
@[simp] theorem endLink_cu (s : State) (z : Nat) : (endLink s).cu z = s.cu z := by simp [State.cu]

/-! ### breakLink -/

@[simp] theorem breakLink_pc (s : State) : (breakLink s).pc = s.pc := rfl
@[simp] theorem breakLink_next (s : State) : (breakLink s).next = s.next := rfl
@[simp] theorem breakLink_regs (s : State) : (breakLink s).regs = s.regs := rfl
@[simp] theorem breakLink_hi (s : State) : (breakLink s).hi = s.hi := rfl
@[simp] theorem breakLink_lo (s : State) : (breakLink s).lo = s.lo := rfl
@[simp] theorem breakLink_hiTag (s : State) : (breakLink s).hiTag = s.hiTag := rfl
@[simp] theorem breakLink_loTag (s : State) : (breakLink s).loTag = s.loTag := rfl
@[simp] theorem breakLink_hiGuard (s : State) : (breakLink s).hiGuard = s.hiGuard := rfl
@[simp] theorem breakLink_loGuard (s : State) : (breakLink s).loGuard = s.loGuard := rfl
@[simp] theorem breakLink_llbit (s : State) : (breakLink s).llbit = s.llbit := rfl
@[simp] theorem breakLink_link (s : State) : (breakLink s).link = if s.link.armed then { addr := none, armed := false, start := s.draws, fails := 0 } else s.link := rfl
@[simp] theorem breakLink_fgr (s : State) : (breakLink s).fgr = s.fgr := rfl
@[simp] theorem breakLink_fcr0 (s : State) : (breakLink s).fcr0 = s.fcr0 := rfl
@[simp] theorem breakLink_fcr31 (s : State) : (breakLink s).fcr31 = s.fcr31 := rfl
@[simp] theorem breakLink_fccPrev (s : State) : (breakLink s).fccPrev = s.fccPrev := rfl
@[simp] theorem breakLink_cp0 (s : State) : (breakLink s).cp0 = s.cp0 := rfl
@[simp] theorem breakLink_timerLatch (s : State) : (breakLink s).timerLatch = s.timerLatch := rfl
@[simp] theorem breakLink_randomHold (s : State) : (breakLink s).randomHold = s.randomHold := rfl
@[simp] theorem breakLink_tlb (s : State) : (breakLink s).tlb = s.tlb := rfl
@[simp] theorem breakLink_recent (s : State) : (breakLink s).recent = s.recent := rfl
@[simp] theorem breakLink_mem (s : State) : (breakLink s).mem = s.mem := rfl
@[simp] theorem breakLink_stale (s : State) : (breakLink s).stale = s.stale := rfl
@[simp] theorem breakLink_maybeDirty (s : State) : (breakLink s).maybeDirty = s.maybeDirty := rfl
@[simp] theorem breakLink_unwritten (s : State) : (breakLink s).unwritten = s.unwritten := rfl
@[simp] theorem breakLink_writeBuffer (s : State) : (breakLink s).writeBuffer = s.writeBuffer := rfl
@[simp] theorem breakLink_deviceStores (s : State) : (breakLink s).deviceStores = s.deviceStores := rfl
@[simp] theorem breakLink_caches (s : State) : (breakLink s).caches = s.caches := rfl
@[simp] theorem breakLink_physMap (s : State) : (breakLink s).physMap = s.physMap := rfl
@[simp] theorem breakLink_timerIntOnIP7 (s : State) : (breakLink s).timerIntOnIP7 = s.timerIntOnIP7 := rfl
@[simp] theorem breakLink_hiloHazard (s : State) : (breakLink s).hiloHazard = s.hiloHazard := rfl
@[simp] theorem breakLink_cp0Hazard (s : State) : (breakLink s).cp0Hazard = s.cp0Hazard := rfl
@[simp] theorem breakLink_qnanS (s : State) : (breakLink s).qnanS = s.qnanS := rfl
@[simp] theorem breakLink_qnanD (s : State) : (breakLink s).qnanD = s.qnanD := rfl
@[simp] theorem breakLink_pins (s : State) : (breakLink s).pins = s.pins := rfl
@[simp] theorem breakLink_draws (s : State) : (breakLink s).draws = s.draws := rfl
@[simp] theorem breakLink_gpr (s : State) (k : Reg) : (breakLink s).gpr k = s.gpr k := by simp [State.gpr]
@[simp] theorem breakLink_fgrRead (s : State) (k : Reg) : (breakLink s).fgrRead k = s.fgrRead k := by simp [State.fgrRead]
@[simp] theorem breakLink_statusSeen (s : State) : (breakLink s).statusSeen = s.statusSeen := rfl
@[simp] theorem breakLink_fr (s : State) : (breakLink s).fr = s.fr := by simp [State.fr]
@[simp] theorem breakLink_cu (s : State) (z : Nat) : (breakLink s).cu z = s.cu z := by simp [State.cu]

/-! ### accessed -/

@[simp] theorem accessed_next (s : State) : (accessed s).next = none := by simp [accessed]
@[simp] theorem accessed_regs (s : State) : (accessed s).regs = s.regs := by simp [accessed]
@[simp] theorem accessed_hi (s : State) : (accessed s).hi = s.hi := by simp [accessed]
@[simp] theorem accessed_lo (s : State) : (accessed s).lo = s.lo := by simp [accessed]
@[simp] theorem accessed_hiTag (s : State) : (accessed s).hiTag = s.hiTag := by simp [accessed]
@[simp] theorem accessed_loTag (s : State) : (accessed s).loTag = s.loTag := by simp [accessed]
@[simp] theorem accessed_hiGuard (s : State) : (accessed s).hiGuard = s.hiGuard - 1 := by simp [accessed]
@[simp] theorem accessed_loGuard (s : State) : (accessed s).loGuard = s.loGuard - 1 := by simp [accessed]
@[simp] theorem accessed_llbit (s : State) : (accessed s).llbit = s.llbit := by simp [accessed]
@[simp] theorem accessed_link (s : State) : (accessed s).link = (breakLink s).link := by simp [accessed]
@[simp] theorem accessed_fgr (s : State) : (accessed s).fgr = s.fgr := by simp [accessed]
@[simp] theorem accessed_fcr0 (s : State) : (accessed s).fcr0 = s.fcr0 := by simp [accessed]
@[simp] theorem accessed_fcr31 (s : State) : (accessed s).fcr31 = s.fcr31 := by simp [accessed]
@[simp] theorem accessed_fccPrev (s : State) : (accessed s).fccPrev = s.fccPrev := by simp [accessed]
@[simp] theorem accessed_cp0 (s : State) : (accessed s).cp0 = s.cp0 := by simp [accessed]
@[simp] theorem accessed_timerLatch (s : State) : (accessed s).timerLatch = s.timerLatch := by simp [accessed]
@[simp] theorem accessed_randomHold (s : State) : (accessed s).randomHold = s.randomHold := by simp [accessed]
@[simp] theorem accessed_tlb (s : State) : (accessed s).tlb = s.tlb := by simp [accessed]
@[simp] theorem accessed_recent (s : State) : (accessed s).recent = s.recent := by simp [accessed]
@[simp] theorem accessed_mem (s : State) : (accessed s).mem = s.mem := by simp [accessed]
@[simp] theorem accessed_stale (s : State) : (accessed s).stale = s.stale := by simp [accessed]
@[simp] theorem accessed_maybeDirty (s : State) : (accessed s).maybeDirty = s.maybeDirty := by simp [accessed]
@[simp] theorem accessed_unwritten (s : State) : (accessed s).unwritten = s.unwritten := by simp [accessed]
@[simp] theorem accessed_writeBuffer (s : State) : (accessed s).writeBuffer = s.writeBuffer := by simp [accessed]
@[simp] theorem accessed_deviceStores (s : State) : (accessed s).deviceStores = s.deviceStores := by simp [accessed]
@[simp] theorem accessed_caches (s : State) : (accessed s).caches = s.caches := by simp [accessed]
@[simp] theorem accessed_physMap (s : State) : (accessed s).physMap = s.physMap := by simp [accessed]
@[simp] theorem accessed_timerIntOnIP7 (s : State) : (accessed s).timerIntOnIP7 = s.timerIntOnIP7 := by simp [accessed]
@[simp] theorem accessed_hiloHazard (s : State) : (accessed s).hiloHazard = s.hiloHazard := by simp [accessed]
@[simp] theorem accessed_cp0Hazard (s : State) : (accessed s).cp0Hazard = s.cp0Hazard := by simp [accessed]
@[simp] theorem accessed_qnanS (s : State) : (accessed s).qnanS = s.qnanS := by simp [accessed]
@[simp] theorem accessed_qnanD (s : State) : (accessed s).qnanD = s.qnanD := by simp [accessed]
@[simp] theorem accessed_pins (s : State) : (accessed s).pins = s.pins := by simp [accessed]
@[simp] theorem accessed_draws (s : State) : (accessed s).draws = s.draws := by simp [accessed]
@[simp] theorem accessed_gpr (s : State) (k : Reg) : (accessed s).gpr k = s.gpr k := by simp [State.gpr]
@[simp] theorem accessed_fgrRead (s : State) (k : Reg) : (accessed s).fgrRead k = s.fgrRead k := by simp [State.fgrRead]
@[simp] theorem accessed_statusSeen (s : State) : (accessed s).statusSeen = s.statusSeen := by simp [State.statusSeen, State.pickOld, State.pick, State.free]
@[simp] theorem accessed_fr (s : State) : (accessed s).fr = s.fr := by simp [State.fr]
@[simp] theorem accessed_cu (s : State) (z : Nat) : (accessed s).cu z = s.cu z := by simp [State.cu]

/-! ### failLink -/

@[simp] theorem failLink_pc (fair : Bool) (s : State) : (failLink fair s).pc = s.pc := by unfold failLink; split <;> rfl
@[simp] theorem failLink_next (fair : Bool) (s : State) : (failLink fair s).next = s.next := by unfold failLink; split <;> rfl
@[simp] theorem failLink_regs (fair : Bool) (s : State) : (failLink fair s).regs = s.regs := by unfold failLink; split <;> rfl
@[simp] theorem failLink_hi (fair : Bool) (s : State) : (failLink fair s).hi = s.hi := by unfold failLink; split <;> rfl
@[simp] theorem failLink_lo (fair : Bool) (s : State) : (failLink fair s).lo = s.lo := by unfold failLink; split <;> rfl
@[simp] theorem failLink_hiTag (fair : Bool) (s : State) : (failLink fair s).hiTag = s.hiTag := by unfold failLink; split <;> rfl
@[simp] theorem failLink_loTag (fair : Bool) (s : State) : (failLink fair s).loTag = s.loTag := by unfold failLink; split <;> rfl
@[simp] theorem failLink_hiGuard (fair : Bool) (s : State) : (failLink fair s).hiGuard = s.hiGuard := by unfold failLink; split <;> rfl
@[simp] theorem failLink_loGuard (fair : Bool) (s : State) : (failLink fair s).loGuard = s.loGuard := by unfold failLink; split <;> rfl
@[simp] theorem failLink_llbit (fair : Bool) (s : State) : (failLink fair s).llbit = s.llbit := by unfold failLink; split <;> rfl
@[simp] theorem failLink_fgr (fair : Bool) (s : State) : (failLink fair s).fgr = s.fgr := by unfold failLink; split <;> rfl
@[simp] theorem failLink_fcr0 (fair : Bool) (s : State) : (failLink fair s).fcr0 = s.fcr0 := by unfold failLink; split <;> rfl
@[simp] theorem failLink_fcr31 (fair : Bool) (s : State) : (failLink fair s).fcr31 = s.fcr31 := by unfold failLink; split <;> rfl
@[simp] theorem failLink_fccPrev (fair : Bool) (s : State) : (failLink fair s).fccPrev = s.fccPrev := by unfold failLink; split <;> rfl
@[simp] theorem failLink_cp0 (fair : Bool) (s : State) : (failLink fair s).cp0 = s.cp0 := by unfold failLink; split <;> rfl
@[simp] theorem failLink_timerLatch (fair : Bool) (s : State) : (failLink fair s).timerLatch = s.timerLatch := by unfold failLink; split <;> rfl
@[simp] theorem failLink_randomHold (fair : Bool) (s : State) : (failLink fair s).randomHold = s.randomHold := by unfold failLink; split <;> rfl
@[simp] theorem failLink_tlb (fair : Bool) (s : State) : (failLink fair s).tlb = s.tlb := by unfold failLink; split <;> rfl
@[simp] theorem failLink_recent (fair : Bool) (s : State) : (failLink fair s).recent = s.recent := by unfold failLink; split <;> rfl
@[simp] theorem failLink_mem (fair : Bool) (s : State) : (failLink fair s).mem = s.mem := by unfold failLink; split <;> rfl
@[simp] theorem failLink_stale (fair : Bool) (s : State) : (failLink fair s).stale = s.stale := by unfold failLink; split <;> rfl
@[simp] theorem failLink_maybeDirty (fair : Bool) (s : State) : (failLink fair s).maybeDirty = s.maybeDirty := by unfold failLink; split <;> rfl
@[simp] theorem failLink_unwritten (fair : Bool) (s : State) : (failLink fair s).unwritten = s.unwritten := by unfold failLink; split <;> rfl
@[simp] theorem failLink_writeBuffer (fair : Bool) (s : State) : (failLink fair s).writeBuffer = s.writeBuffer := by unfold failLink; split <;> rfl
@[simp] theorem failLink_deviceStores (fair : Bool) (s : State) : (failLink fair s).deviceStores = s.deviceStores := by unfold failLink; split <;> rfl
@[simp] theorem failLink_caches (fair : Bool) (s : State) : (failLink fair s).caches = s.caches := by unfold failLink; split <;> rfl
@[simp] theorem failLink_physMap (fair : Bool) (s : State) : (failLink fair s).physMap = s.physMap := by unfold failLink; split <;> rfl
@[simp] theorem failLink_timerIntOnIP7 (fair : Bool) (s : State) : (failLink fair s).timerIntOnIP7 = s.timerIntOnIP7 := by unfold failLink; split <;> rfl
@[simp] theorem failLink_hiloHazard (fair : Bool) (s : State) : (failLink fair s).hiloHazard = s.hiloHazard := by unfold failLink; split <;> rfl
@[simp] theorem failLink_cp0Hazard (fair : Bool) (s : State) : (failLink fair s).cp0Hazard = s.cp0Hazard := by unfold failLink; split <;> rfl
@[simp] theorem failLink_qnanS (fair : Bool) (s : State) : (failLink fair s).qnanS = s.qnanS := by unfold failLink; split <;> rfl
@[simp] theorem failLink_qnanD (fair : Bool) (s : State) : (failLink fair s).qnanD = s.qnanD := by unfold failLink; split <;> rfl
@[simp] theorem failLink_pins (fair : Bool) (s : State) : (failLink fair s).pins = s.pins := by unfold failLink; split <;> rfl
@[simp] theorem failLink_draws (fair : Bool) (s : State) : (failLink fair s).draws = s.draws := by unfold failLink; split <;> rfl
@[simp] theorem failLink_gpr (fair : Bool) (s : State) (k : Reg) : (failLink fair s).gpr k = s.gpr k := by simp [State.gpr]
@[simp] theorem failLink_fgrRead (fair : Bool) (s : State) (k : Reg) : (failLink fair s).fgrRead k = s.fgrRead k := by simp [State.fgrRead]
@[simp] theorem failLink_statusSeen (fair : Bool) (s : State) : (failLink fair s).statusSeen = s.statusSeen := by simp [State.statusSeen, State.pickOld, State.pick, State.free]
@[simp] theorem failLink_fr (fair : Bool) (s : State) : (failLink fair s).fr = s.fr := by simp [State.fr]
@[simp] theorem failLink_cu (fair : Bool) (s : State) (z : Nat) : (failLink fair s).cu z = s.cu z := by simp [State.cu]

/-! ### issue -/

@[simp] theorem issue_pc (b s : State) : (issue b s).pc = s.pc := by unfold issue; split <;> rfl
@[simp] theorem issue_next (b s : State) : (issue b s).next = s.next := by unfold issue; split <;> rfl
@[simp] theorem issue_regs (b s : State) : (issue b s).regs = s.regs := by unfold issue; split <;> rfl
@[simp] theorem issue_hi (b s : State) : (issue b s).hi = s.hi := by unfold issue; split <;> rfl
@[simp] theorem issue_lo (b s : State) : (issue b s).lo = s.lo := by unfold issue; split <;> rfl
@[simp] theorem issue_hiTag (b s : State) : (issue b s).hiTag = s.hiTag := by unfold issue; split <;> rfl
@[simp] theorem issue_loTag (b s : State) : (issue b s).loTag = s.loTag := by unfold issue; split <;> rfl
@[simp] theorem issue_hiGuard (b s : State) : (issue b s).hiGuard = s.hiGuard := by unfold issue; split <;> rfl
@[simp] theorem issue_loGuard (b s : State) : (issue b s).loGuard = s.loGuard := by unfold issue; split <;> rfl
@[simp] theorem issue_llbit (b s : State) : (issue b s).llbit = s.llbit := by unfold issue; split <;> rfl
@[simp] theorem issue_link (b s : State) : (issue b s).link = s.link := by unfold issue; split <;> rfl
@[simp] theorem issue_fgr (b s : State) : (issue b s).fgr = s.fgr := by unfold issue; split <;> rfl
@[simp] theorem issue_fcr0 (b s : State) : (issue b s).fcr0 = s.fcr0 := by unfold issue; split <;> rfl
@[simp] theorem issue_fcr31 (b s : State) : (issue b s).fcr31 = s.fcr31 := by unfold issue; split <;> rfl
@[simp] theorem issue_fccPrev (b s : State) : (issue b s).fccPrev = s.fccPrev := by unfold issue; split <;> rfl
@[simp] theorem issue_cp0 (b s : State) : (issue b s).cp0 = s.cp0 := by unfold issue; split <;> rfl
@[simp] theorem issue_timerLatch (b s : State) : (issue b s).timerLatch = s.timerLatch := by unfold issue; split <;> rfl
@[simp] theorem issue_randomHold (b s : State) : (issue b s).randomHold = s.randomHold := by unfold issue; split <;> rfl
@[simp] theorem issue_tlb (b s : State) : (issue b s).tlb = s.tlb := by unfold issue; split <;> rfl
@[simp] theorem issue_mem (b s : State) : (issue b s).mem = s.mem := by unfold issue; split <;> rfl
@[simp] theorem issue_stale (b s : State) : (issue b s).stale = s.stale := by unfold issue; split <;> rfl
@[simp] theorem issue_maybeDirty (b s : State) : (issue b s).maybeDirty = s.maybeDirty := by unfold issue; split <;> rfl
@[simp] theorem issue_unwritten (b s : State) : (issue b s).unwritten = s.unwritten := by unfold issue; split <;> rfl
@[simp] theorem issue_writeBuffer (b s : State) : (issue b s).writeBuffer = s.writeBuffer := by unfold issue; split <;> rfl
@[simp] theorem issue_deviceStores (b s : State) : (issue b s).deviceStores = s.deviceStores := by unfold issue; split <;> rfl
@[simp] theorem issue_caches (b s : State) : (issue b s).caches = s.caches := by unfold issue; split <;> rfl
@[simp] theorem issue_physMap (b s : State) : (issue b s).physMap = s.physMap := by unfold issue; split <;> rfl
@[simp] theorem issue_timerIntOnIP7 (b s : State) : (issue b s).timerIntOnIP7 = s.timerIntOnIP7 := by unfold issue; split <;> rfl
@[simp] theorem issue_hiloHazard (b s : State) : (issue b s).hiloHazard = s.hiloHazard := by unfold issue; split <;> rfl
@[simp] theorem issue_cp0Hazard (b s : State) : (issue b s).cp0Hazard = s.cp0Hazard := by unfold issue; split <;> rfl
@[simp] theorem issue_qnanS (b s : State) : (issue b s).qnanS = s.qnanS := by unfold issue; split <;> rfl
@[simp] theorem issue_qnanD (b s : State) : (issue b s).qnanD = s.qnanD := by unfold issue; split <;> rfl
@[simp] theorem issue_pins (b s : State) : (issue b s).pins = s.pins := by unfold issue; split <;> rfl
@[simp] theorem issue_draws (b s : State) : (issue b s).draws = s.draws := by unfold issue; split <;> rfl
@[simp] theorem issue_gpr (b s : State) (k : Reg) : (issue b s).gpr k = s.gpr k := by simp [State.gpr]
@[simp] theorem issue_fgrRead (b s : State) (k : Reg) : (issue b s).fgrRead k = s.fgrRead k := by simp [State.fgrRead]

/-! ### ageRecent -/

@[simp] theorem ageRecent_pc (s : State) : (ageRecent s).pc = s.pc := rfl
@[simp] theorem ageRecent_next (s : State) : (ageRecent s).next = s.next := rfl
@[simp] theorem ageRecent_regs (s : State) : (ageRecent s).regs = s.regs := rfl
@[simp] theorem ageRecent_hi (s : State) : (ageRecent s).hi = s.hi := rfl
@[simp] theorem ageRecent_lo (s : State) : (ageRecent s).lo = s.lo := rfl
@[simp] theorem ageRecent_hiTag (s : State) : (ageRecent s).hiTag = s.hiTag := rfl
@[simp] theorem ageRecent_loTag (s : State) : (ageRecent s).loTag = s.loTag := rfl
@[simp] theorem ageRecent_hiGuard (s : State) : (ageRecent s).hiGuard = s.hiGuard := rfl
@[simp] theorem ageRecent_loGuard (s : State) : (ageRecent s).loGuard = s.loGuard := rfl
@[simp] theorem ageRecent_llbit (s : State) : (ageRecent s).llbit = s.llbit := rfl
@[simp] theorem ageRecent_link (s : State) : (ageRecent s).link = s.link := rfl
@[simp] theorem ageRecent_fgr (s : State) : (ageRecent s).fgr = s.fgr := rfl
@[simp] theorem ageRecent_fcr0 (s : State) : (ageRecent s).fcr0 = s.fcr0 := rfl
@[simp] theorem ageRecent_fcr31 (s : State) : (ageRecent s).fcr31 = s.fcr31 := rfl
@[simp] theorem ageRecent_fccPrev (s : State) : (ageRecent s).fccPrev = s.fccPrev := rfl
@[simp] theorem ageRecent_cp0 (s : State) : (ageRecent s).cp0 = s.cp0 := rfl
@[simp] theorem ageRecent_timerLatch (s : State) : (ageRecent s).timerLatch = s.timerLatch := rfl
@[simp] theorem ageRecent_randomHold (s : State) : (ageRecent s).randomHold = s.randomHold := rfl
@[simp] theorem ageRecent_tlb (s : State) : (ageRecent s).tlb = s.tlb := rfl
@[simp] theorem ageRecent_mem (s : State) : (ageRecent s).mem = s.mem := rfl
@[simp] theorem ageRecent_stale (s : State) : (ageRecent s).stale = s.stale := rfl
@[simp] theorem ageRecent_maybeDirty (s : State) : (ageRecent s).maybeDirty = s.maybeDirty := rfl
@[simp] theorem ageRecent_unwritten (s : State) : (ageRecent s).unwritten = s.unwritten := rfl
@[simp] theorem ageRecent_writeBuffer (s : State) : (ageRecent s).writeBuffer = s.writeBuffer := rfl
@[simp] theorem ageRecent_deviceStores (s : State) : (ageRecent s).deviceStores = s.deviceStores := rfl
@[simp] theorem ageRecent_caches (s : State) : (ageRecent s).caches = s.caches := rfl
@[simp] theorem ageRecent_physMap (s : State) : (ageRecent s).physMap = s.physMap := rfl
@[simp] theorem ageRecent_timerIntOnIP7 (s : State) : (ageRecent s).timerIntOnIP7 = s.timerIntOnIP7 := rfl
@[simp] theorem ageRecent_hiloHazard (s : State) : (ageRecent s).hiloHazard = s.hiloHazard := rfl
@[simp] theorem ageRecent_cp0Hazard (s : State) : (ageRecent s).cp0Hazard = s.cp0Hazard := rfl
@[simp] theorem ageRecent_qnanS (s : State) : (ageRecent s).qnanS = s.qnanS := rfl
@[simp] theorem ageRecent_qnanD (s : State) : (ageRecent s).qnanD = s.qnanD := rfl
@[simp] theorem ageRecent_pins (s : State) : (ageRecent s).pins = s.pins := rfl
@[simp] theorem ageRecent_draws (s : State) : (ageRecent s).draws = s.draws := rfl
@[simp] theorem ageRecent_gpr (s : State) (k : Reg) : (ageRecent s).gpr k = s.gpr k := by simp [State.gpr]
@[simp] theorem ageRecent_fgrRead (s : State) (k : Reg) : (ageRecent s).fgrRead k = s.fgrRead k := by simp [State.fgrRead]

/-! ### scrambleFgr -/

@[simp] theorem scrambleFgr_pc (s : State) : (scrambleFgr s).pc = s.pc := by unfold scrambleFgr; rfl
@[simp] theorem scrambleFgr_next (s : State) : (scrambleFgr s).next = s.next := by unfold scrambleFgr; rfl
@[simp] theorem scrambleFgr_regs (s : State) : (scrambleFgr s).regs = s.regs := by unfold scrambleFgr; rfl
@[simp] theorem scrambleFgr_hi (s : State) : (scrambleFgr s).hi = s.hi := by unfold scrambleFgr; rfl
@[simp] theorem scrambleFgr_lo (s : State) : (scrambleFgr s).lo = s.lo := by unfold scrambleFgr; rfl
@[simp] theorem scrambleFgr_hiTag (s : State) : (scrambleFgr s).hiTag = s.hiTag := by unfold scrambleFgr; rfl
@[simp] theorem scrambleFgr_loTag (s : State) : (scrambleFgr s).loTag = s.loTag := by unfold scrambleFgr; rfl
@[simp] theorem scrambleFgr_hiGuard (s : State) : (scrambleFgr s).hiGuard = s.hiGuard := by unfold scrambleFgr; rfl
@[simp] theorem scrambleFgr_loGuard (s : State) : (scrambleFgr s).loGuard = s.loGuard := by unfold scrambleFgr; rfl
@[simp] theorem scrambleFgr_llbit (s : State) : (scrambleFgr s).llbit = s.llbit := by unfold scrambleFgr; rfl
@[simp] theorem scrambleFgr_link (s : State) : (scrambleFgr s).link = s.link := by unfold scrambleFgr; rfl
@[simp] theorem scrambleFgr_fcr0 (s : State) : (scrambleFgr s).fcr0 = s.fcr0 := by unfold scrambleFgr; rfl
@[simp] theorem scrambleFgr_fcr31 (s : State) : (scrambleFgr s).fcr31 = s.fcr31 := by unfold scrambleFgr; rfl
@[simp] theorem scrambleFgr_fccPrev (s : State) : (scrambleFgr s).fccPrev = s.fccPrev := by unfold scrambleFgr; rfl
@[simp] theorem scrambleFgr_cp0 (s : State) : (scrambleFgr s).cp0 = s.cp0 := by unfold scrambleFgr; rfl
@[simp] theorem scrambleFgr_timerLatch (s : State) : (scrambleFgr s).timerLatch = s.timerLatch := by unfold scrambleFgr; rfl
@[simp] theorem scrambleFgr_randomHold (s : State) : (scrambleFgr s).randomHold = s.randomHold := by unfold scrambleFgr; rfl
@[simp] theorem scrambleFgr_tlb (s : State) : (scrambleFgr s).tlb = s.tlb := by unfold scrambleFgr; rfl
@[simp] theorem scrambleFgr_recent (s : State) : (scrambleFgr s).recent = s.recent := by unfold scrambleFgr; rfl
@[simp] theorem scrambleFgr_mem (s : State) : (scrambleFgr s).mem = s.mem := by unfold scrambleFgr; rfl
@[simp] theorem scrambleFgr_stale (s : State) : (scrambleFgr s).stale = s.stale := by unfold scrambleFgr; rfl
@[simp] theorem scrambleFgr_maybeDirty (s : State) : (scrambleFgr s).maybeDirty = s.maybeDirty := by unfold scrambleFgr; rfl
@[simp] theorem scrambleFgr_unwritten (s : State) : (scrambleFgr s).unwritten = s.unwritten := by unfold scrambleFgr; rfl
@[simp] theorem scrambleFgr_writeBuffer (s : State) : (scrambleFgr s).writeBuffer = s.writeBuffer := by unfold scrambleFgr; rfl
@[simp] theorem scrambleFgr_deviceStores (s : State) : (scrambleFgr s).deviceStores = s.deviceStores := by unfold scrambleFgr; rfl
@[simp] theorem scrambleFgr_caches (s : State) : (scrambleFgr s).caches = s.caches := by unfold scrambleFgr; rfl
@[simp] theorem scrambleFgr_physMap (s : State) : (scrambleFgr s).physMap = s.physMap := by unfold scrambleFgr; rfl
@[simp] theorem scrambleFgr_timerIntOnIP7 (s : State) : (scrambleFgr s).timerIntOnIP7 = s.timerIntOnIP7 := by unfold scrambleFgr; rfl
@[simp] theorem scrambleFgr_hiloHazard (s : State) : (scrambleFgr s).hiloHazard = s.hiloHazard := by unfold scrambleFgr; rfl
@[simp] theorem scrambleFgr_cp0Hazard (s : State) : (scrambleFgr s).cp0Hazard = s.cp0Hazard := by unfold scrambleFgr; rfl
@[simp] theorem scrambleFgr_qnanS (s : State) : (scrambleFgr s).qnanS = s.qnanS := by unfold scrambleFgr; rfl
@[simp] theorem scrambleFgr_qnanD (s : State) : (scrambleFgr s).qnanD = s.qnanD := by unfold scrambleFgr; rfl
@[simp] theorem scrambleFgr_pins (s : State) : (scrambleFgr s).pins = s.pins := by unfold scrambleFgr; rfl
@[simp] theorem scrambleFgr_draws (s : State) : (scrambleFgr s).draws = s.draws := by unfold scrambleFgr; rfl
@[simp] theorem scrambleFgr_gpr (s : State) (k : Reg) : (scrambleFgr s).gpr k = s.gpr k := by simp [State.gpr]
@[simp] theorem scrambleFgr_statusSeen (s : State) : (scrambleFgr s).statusSeen = s.statusSeen := by simp [State.statusSeen, State.pickOld, State.pick, State.free]
@[simp] theorem scrambleFgr_fr (s : State) : (scrambleFgr s).fr = s.fr := by simp [State.fr]
@[simp] theorem scrambleFgr_cu (s : State) (z : Nat) : (scrambleFgr s).cu z = s.cu z := by simp [State.cu]

/-! ### writeStatus -/

@[simp] theorem writeStatus_pc (v : BitVec 32) (s : State) : (writeStatus v s).pc = s.pc := by unfold writeStatus; dsimp only; split <;> simp
@[simp] theorem writeStatus_next (v : BitVec 32) (s : State) : (writeStatus v s).next = s.next := by unfold writeStatus; dsimp only; split <;> simp
@[simp] theorem writeStatus_regs (v : BitVec 32) (s : State) : (writeStatus v s).regs = s.regs := by unfold writeStatus; dsimp only; split <;> simp
@[simp] theorem writeStatus_hi (v : BitVec 32) (s : State) : (writeStatus v s).hi = s.hi := by unfold writeStatus; dsimp only; split <;> simp
@[simp] theorem writeStatus_lo (v : BitVec 32) (s : State) : (writeStatus v s).lo = s.lo := by unfold writeStatus; dsimp only; split <;> simp
@[simp] theorem writeStatus_hiTag (v : BitVec 32) (s : State) : (writeStatus v s).hiTag = s.hiTag := by unfold writeStatus; dsimp only; split <;> simp
@[simp] theorem writeStatus_loTag (v : BitVec 32) (s : State) : (writeStatus v s).loTag = s.loTag := by unfold writeStatus; dsimp only; split <;> simp
@[simp] theorem writeStatus_hiGuard (v : BitVec 32) (s : State) : (writeStatus v s).hiGuard = s.hiGuard := by unfold writeStatus; dsimp only; split <;> simp
@[simp] theorem writeStatus_loGuard (v : BitVec 32) (s : State) : (writeStatus v s).loGuard = s.loGuard := by unfold writeStatus; dsimp only; split <;> simp
@[simp] theorem writeStatus_llbit (v : BitVec 32) (s : State) : (writeStatus v s).llbit = s.llbit := by unfold writeStatus; dsimp only; split <;> simp
@[simp] theorem writeStatus_link (v : BitVec 32) (s : State) : (writeStatus v s).link = s.link := by unfold writeStatus; dsimp only; split <;> simp
@[simp] theorem writeStatus_fcr0 (v : BitVec 32) (s : State) : (writeStatus v s).fcr0 = s.fcr0 := by unfold writeStatus; dsimp only; split <;> simp
@[simp] theorem writeStatus_fcr31 (v : BitVec 32) (s : State) : (writeStatus v s).fcr31 = s.fcr31 := by unfold writeStatus; dsimp only; split <;> simp
@[simp] theorem writeStatus_fccPrev (v : BitVec 32) (s : State) : (writeStatus v s).fccPrev = s.fccPrev := by unfold writeStatus; dsimp only; split <;> simp
@[simp] theorem writeStatus_cp0 (v : BitVec 32) (s : State) : (writeStatus v s).cp0 = { s.cp0 with status := maskInto statusMask s.cp0.status v } := by unfold writeStatus; dsimp only; split <;> simp
@[simp] theorem writeStatus_timerLatch (v : BitVec 32) (s : State) : (writeStatus v s).timerLatch = s.timerLatch := by unfold writeStatus; dsimp only; split <;> simp
@[simp] theorem writeStatus_randomHold (v : BitVec 32) (s : State) : (writeStatus v s).randomHold = s.randomHold := by unfold writeStatus; dsimp only; split <;> simp
@[simp] theorem writeStatus_tlb (v : BitVec 32) (s : State) : (writeStatus v s).tlb = s.tlb := by unfold writeStatus; dsimp only; split <;> simp
@[simp] theorem writeStatus_recent (v : BitVec 32) (s : State) : (writeStatus v s).recent = s.recent := by unfold writeStatus; dsimp only; split <;> simp
@[simp] theorem writeStatus_mem (v : BitVec 32) (s : State) : (writeStatus v s).mem = s.mem := by unfold writeStatus; dsimp only; split <;> simp
@[simp] theorem writeStatus_stale (v : BitVec 32) (s : State) : (writeStatus v s).stale = s.stale := by unfold writeStatus; dsimp only; split <;> simp
@[simp] theorem writeStatus_maybeDirty (v : BitVec 32) (s : State) : (writeStatus v s).maybeDirty = s.maybeDirty := by unfold writeStatus; dsimp only; split <;> simp
@[simp] theorem writeStatus_unwritten (v : BitVec 32) (s : State) : (writeStatus v s).unwritten = s.unwritten := by unfold writeStatus; dsimp only; split <;> simp
@[simp] theorem writeStatus_writeBuffer (v : BitVec 32) (s : State) : (writeStatus v s).writeBuffer = s.writeBuffer := by unfold writeStatus; dsimp only; split <;> simp
@[simp] theorem writeStatus_deviceStores (v : BitVec 32) (s : State) : (writeStatus v s).deviceStores = s.deviceStores := by unfold writeStatus; dsimp only; split <;> simp
@[simp] theorem writeStatus_caches (v : BitVec 32) (s : State) : (writeStatus v s).caches = s.caches := by unfold writeStatus; dsimp only; split <;> simp
@[simp] theorem writeStatus_physMap (v : BitVec 32) (s : State) : (writeStatus v s).physMap = s.physMap := by unfold writeStatus; dsimp only; split <;> simp
@[simp] theorem writeStatus_timerIntOnIP7 (v : BitVec 32) (s : State) : (writeStatus v s).timerIntOnIP7 = s.timerIntOnIP7 := by unfold writeStatus; dsimp only; split <;> simp
@[simp] theorem writeStatus_hiloHazard (v : BitVec 32) (s : State) : (writeStatus v s).hiloHazard = s.hiloHazard := by unfold writeStatus; dsimp only; split <;> simp
@[simp] theorem writeStatus_cp0Hazard (v : BitVec 32) (s : State) : (writeStatus v s).cp0Hazard = s.cp0Hazard := by unfold writeStatus; dsimp only; split <;> simp
@[simp] theorem writeStatus_qnanS (v : BitVec 32) (s : State) : (writeStatus v s).qnanS = s.qnanS := by unfold writeStatus; dsimp only; split <;> simp
@[simp] theorem writeStatus_qnanD (v : BitVec 32) (s : State) : (writeStatus v s).qnanD = s.qnanD := by unfold writeStatus; dsimp only; split <;> simp
@[simp] theorem writeStatus_pins (v : BitVec 32) (s : State) : (writeStatus v s).pins = s.pins := by unfold writeStatus; dsimp only; split <;> simp
@[simp] theorem writeStatus_draws (v : BitVec 32) (s : State) : (writeStatus v s).draws = s.draws := by unfold writeStatus; dsimp only; split <;> simp
@[simp] theorem writeStatus_gpr (v : BitVec 32) (s : State) (k : Reg) : (writeStatus v s).gpr k = s.gpr k := by simp [State.gpr]

/-! ### writeConfig -/

@[simp] theorem writeConfig_pc (v : BitVec 32) (s : State) : (writeConfig v s).pc = s.pc := rfl
@[simp] theorem writeConfig_next (v : BitVec 32) (s : State) : (writeConfig v s).next = s.next := rfl
@[simp] theorem writeConfig_regs (v : BitVec 32) (s : State) : (writeConfig v s).regs = s.regs := rfl
@[simp] theorem writeConfig_hi (v : BitVec 32) (s : State) : (writeConfig v s).hi = s.hi := rfl
@[simp] theorem writeConfig_lo (v : BitVec 32) (s : State) : (writeConfig v s).lo = s.lo := rfl
@[simp] theorem writeConfig_hiTag (v : BitVec 32) (s : State) : (writeConfig v s).hiTag = s.hiTag := rfl
@[simp] theorem writeConfig_loTag (v : BitVec 32) (s : State) : (writeConfig v s).loTag = s.loTag := rfl
@[simp] theorem writeConfig_hiGuard (v : BitVec 32) (s : State) : (writeConfig v s).hiGuard = s.hiGuard := rfl
@[simp] theorem writeConfig_loGuard (v : BitVec 32) (s : State) : (writeConfig v s).loGuard = s.loGuard := rfl
@[simp] theorem writeConfig_llbit (v : BitVec 32) (s : State) : (writeConfig v s).llbit = s.llbit := rfl
@[simp] theorem writeConfig_link (v : BitVec 32) (s : State) : (writeConfig v s).link = s.link := rfl
@[simp] theorem writeConfig_fgr (v : BitVec 32) (s : State) : (writeConfig v s).fgr = s.fgr := rfl
@[simp] theorem writeConfig_fcr0 (v : BitVec 32) (s : State) : (writeConfig v s).fcr0 = s.fcr0 := rfl
@[simp] theorem writeConfig_fcr31 (v : BitVec 32) (s : State) : (writeConfig v s).fcr31 = s.fcr31 := rfl
@[simp] theorem writeConfig_fccPrev (v : BitVec 32) (s : State) : (writeConfig v s).fccPrev = s.fccPrev := rfl
@[simp] theorem writeConfig_cp0 (v : BitVec 32) (s : State) : (writeConfig v s).cp0 = { s.cp0 with config := maskInto 0x1007#32 s.cp0.config v } := rfl
@[simp] theorem writeConfig_timerLatch (v : BitVec 32) (s : State) : (writeConfig v s).timerLatch = s.timerLatch := rfl
@[simp] theorem writeConfig_randomHold (v : BitVec 32) (s : State) : (writeConfig v s).randomHold = s.randomHold := rfl
@[simp] theorem writeConfig_tlb (v : BitVec 32) (s : State) : (writeConfig v s).tlb = s.tlb := rfl
@[simp] theorem writeConfig_recent (v : BitVec 32) (s : State) : (writeConfig v s).recent = s.recent := rfl
@[simp] theorem writeConfig_mem (v : BitVec 32) (s : State) : (writeConfig v s).mem = s.mem := rfl
@[simp] theorem writeConfig_stale (v : BitVec 32) (s : State) : (writeConfig v s).stale = s.stale := rfl
@[simp] theorem writeConfig_maybeDirty (v : BitVec 32) (s : State) : (writeConfig v s).maybeDirty = s.maybeDirty := rfl
@[simp] theorem writeConfig_unwritten (v : BitVec 32) (s : State) : (writeConfig v s).unwritten = s.unwritten := rfl
@[simp] theorem writeConfig_writeBuffer (v : BitVec 32) (s : State) : (writeConfig v s).writeBuffer = s.writeBuffer := rfl
@[simp] theorem writeConfig_deviceStores (v : BitVec 32) (s : State) : (writeConfig v s).deviceStores = s.deviceStores := rfl
@[simp] theorem writeConfig_physMap (v : BitVec 32) (s : State) : (writeConfig v s).physMap = s.physMap := rfl
@[simp] theorem writeConfig_timerIntOnIP7 (v : BitVec 32) (s : State) : (writeConfig v s).timerIntOnIP7 = s.timerIntOnIP7 := rfl
@[simp] theorem writeConfig_hiloHazard (v : BitVec 32) (s : State) : (writeConfig v s).hiloHazard = s.hiloHazard := rfl
@[simp] theorem writeConfig_cp0Hazard (v : BitVec 32) (s : State) : (writeConfig v s).cp0Hazard = s.cp0Hazard := rfl
@[simp] theorem writeConfig_qnanS (v : BitVec 32) (s : State) : (writeConfig v s).qnanS = s.qnanS := rfl
@[simp] theorem writeConfig_qnanD (v : BitVec 32) (s : State) : (writeConfig v s).qnanD = s.qnanD := rfl
@[simp] theorem writeConfig_pins (v : BitVec 32) (s : State) : (writeConfig v s).pins = s.pins := rfl
@[simp] theorem writeConfig_draws (v : BitVec 32) (s : State) : (writeConfig v s).draws = s.draws := rfl
@[simp] theorem writeConfig_gpr (v : BitVec 32) (s : State) (k : Reg) : (writeConfig v s).gpr k = s.gpr k := by simp [State.gpr]
@[simp] theorem writeConfig_fgrRead (v : BitVec 32) (s : State) (k : Reg) : (writeConfig v s).fgrRead k = s.fgrRead k := by simp [State.fgrRead]

/-! ### writeCompare -/

@[simp] theorem writeCompare_pc (v : BitVec 32) (s : State) : (writeCompare v s).pc = s.pc := rfl
@[simp] theorem writeCompare_next (v : BitVec 32) (s : State) : (writeCompare v s).next = s.next := rfl
@[simp] theorem writeCompare_regs (v : BitVec 32) (s : State) : (writeCompare v s).regs = s.regs := rfl
@[simp] theorem writeCompare_hi (v : BitVec 32) (s : State) : (writeCompare v s).hi = s.hi := rfl
@[simp] theorem writeCompare_lo (v : BitVec 32) (s : State) : (writeCompare v s).lo = s.lo := rfl
@[simp] theorem writeCompare_hiTag (v : BitVec 32) (s : State) : (writeCompare v s).hiTag = s.hiTag := rfl
@[simp] theorem writeCompare_loTag (v : BitVec 32) (s : State) : (writeCompare v s).loTag = s.loTag := rfl
@[simp] theorem writeCompare_hiGuard (v : BitVec 32) (s : State) : (writeCompare v s).hiGuard = s.hiGuard := rfl
@[simp] theorem writeCompare_loGuard (v : BitVec 32) (s : State) : (writeCompare v s).loGuard = s.loGuard := rfl
@[simp] theorem writeCompare_llbit (v : BitVec 32) (s : State) : (writeCompare v s).llbit = s.llbit := rfl
@[simp] theorem writeCompare_link (v : BitVec 32) (s : State) : (writeCompare v s).link = s.link := rfl
@[simp] theorem writeCompare_fgr (v : BitVec 32) (s : State) : (writeCompare v s).fgr = s.fgr := rfl
@[simp] theorem writeCompare_fcr0 (v : BitVec 32) (s : State) : (writeCompare v s).fcr0 = s.fcr0 := rfl
@[simp] theorem writeCompare_fcr31 (v : BitVec 32) (s : State) : (writeCompare v s).fcr31 = s.fcr31 := rfl
@[simp] theorem writeCompare_fccPrev (v : BitVec 32) (s : State) : (writeCompare v s).fccPrev = s.fccPrev := rfl
@[simp] theorem writeCompare_cp0 (v : BitVec 32) (s : State) : (writeCompare v s).cp0 = { s.cp0 with compare := v } := rfl
@[simp] theorem writeCompare_randomHold (v : BitVec 32) (s : State) : (writeCompare v s).randomHold = s.randomHold := rfl
@[simp] theorem writeCompare_tlb (v : BitVec 32) (s : State) : (writeCompare v s).tlb = s.tlb := rfl
@[simp] theorem writeCompare_recent (v : BitVec 32) (s : State) : (writeCompare v s).recent = s.recent := rfl
@[simp] theorem writeCompare_mem (v : BitVec 32) (s : State) : (writeCompare v s).mem = s.mem := rfl
@[simp] theorem writeCompare_stale (v : BitVec 32) (s : State) : (writeCompare v s).stale = s.stale := rfl
@[simp] theorem writeCompare_maybeDirty (v : BitVec 32) (s : State) : (writeCompare v s).maybeDirty = s.maybeDirty := rfl
@[simp] theorem writeCompare_unwritten (v : BitVec 32) (s : State) : (writeCompare v s).unwritten = s.unwritten := rfl
@[simp] theorem writeCompare_writeBuffer (v : BitVec 32) (s : State) : (writeCompare v s).writeBuffer = s.writeBuffer := rfl
@[simp] theorem writeCompare_deviceStores (v : BitVec 32) (s : State) : (writeCompare v s).deviceStores = s.deviceStores := rfl
@[simp] theorem writeCompare_caches (v : BitVec 32) (s : State) : (writeCompare v s).caches = s.caches := rfl
@[simp] theorem writeCompare_physMap (v : BitVec 32) (s : State) : (writeCompare v s).physMap = s.physMap := rfl
@[simp] theorem writeCompare_timerIntOnIP7 (v : BitVec 32) (s : State) : (writeCompare v s).timerIntOnIP7 = s.timerIntOnIP7 := rfl
@[simp] theorem writeCompare_hiloHazard (v : BitVec 32) (s : State) : (writeCompare v s).hiloHazard = s.hiloHazard := rfl
@[simp] theorem writeCompare_cp0Hazard (v : BitVec 32) (s : State) : (writeCompare v s).cp0Hazard = s.cp0Hazard := rfl
@[simp] theorem writeCompare_qnanS (v : BitVec 32) (s : State) : (writeCompare v s).qnanS = s.qnanS := rfl
@[simp] theorem writeCompare_qnanD (v : BitVec 32) (s : State) : (writeCompare v s).qnanD = s.qnanD := rfl
@[simp] theorem writeCompare_pins (v : BitVec 32) (s : State) : (writeCompare v s).pins = s.pins := rfl
@[simp] theorem writeCompare_draws (v : BitVec 32) (s : State) : (writeCompare v s).draws = s.draws := rfl
@[simp] theorem writeCompare_gpr (v : BitVec 32) (s : State) (k : Reg) : (writeCompare v s).gpr k = s.gpr k := by simp [State.gpr]
@[simp] theorem writeCompare_fgrRead (v : BitVec 32) (s : State) (k : Reg) : (writeCompare v s).fgrRead k = s.fgrRead k := by simp [State.fgrRead]

/-! ### writeCount -/

@[simp] theorem writeCount_pc (v : BitVec 32) (s : State) : (writeCount v s).pc = s.pc := rfl
@[simp] theorem writeCount_next (v : BitVec 32) (s : State) : (writeCount v s).next = s.next := rfl
@[simp] theorem writeCount_regs (v : BitVec 32) (s : State) : (writeCount v s).regs = s.regs := rfl
@[simp] theorem writeCount_hi (v : BitVec 32) (s : State) : (writeCount v s).hi = s.hi := rfl
@[simp] theorem writeCount_lo (v : BitVec 32) (s : State) : (writeCount v s).lo = s.lo := rfl
@[simp] theorem writeCount_hiTag (v : BitVec 32) (s : State) : (writeCount v s).hiTag = s.hiTag := rfl
@[simp] theorem writeCount_loTag (v : BitVec 32) (s : State) : (writeCount v s).loTag = s.loTag := rfl
@[simp] theorem writeCount_hiGuard (v : BitVec 32) (s : State) : (writeCount v s).hiGuard = s.hiGuard := rfl
@[simp] theorem writeCount_loGuard (v : BitVec 32) (s : State) : (writeCount v s).loGuard = s.loGuard := rfl
@[simp] theorem writeCount_llbit (v : BitVec 32) (s : State) : (writeCount v s).llbit = s.llbit := rfl
@[simp] theorem writeCount_link (v : BitVec 32) (s : State) : (writeCount v s).link = s.link := rfl
@[simp] theorem writeCount_fgr (v : BitVec 32) (s : State) : (writeCount v s).fgr = s.fgr := rfl
@[simp] theorem writeCount_fcr0 (v : BitVec 32) (s : State) : (writeCount v s).fcr0 = s.fcr0 := rfl
@[simp] theorem writeCount_fcr31 (v : BitVec 32) (s : State) : (writeCount v s).fcr31 = s.fcr31 := rfl
@[simp] theorem writeCount_fccPrev (v : BitVec 32) (s : State) : (writeCount v s).fccPrev = s.fccPrev := rfl
@[simp] theorem writeCount_cp0 (v : BitVec 32) (s : State) : (writeCount v s).cp0 = { s.cp0 with count := v } := rfl
@[simp] theorem writeCount_randomHold (v : BitVec 32) (s : State) : (writeCount v s).randomHold = s.randomHold := rfl
@[simp] theorem writeCount_tlb (v : BitVec 32) (s : State) : (writeCount v s).tlb = s.tlb := rfl
@[simp] theorem writeCount_recent (v : BitVec 32) (s : State) : (writeCount v s).recent = s.recent := rfl
@[simp] theorem writeCount_mem (v : BitVec 32) (s : State) : (writeCount v s).mem = s.mem := rfl
@[simp] theorem writeCount_stale (v : BitVec 32) (s : State) : (writeCount v s).stale = s.stale := rfl
@[simp] theorem writeCount_maybeDirty (v : BitVec 32) (s : State) : (writeCount v s).maybeDirty = s.maybeDirty := rfl
@[simp] theorem writeCount_unwritten (v : BitVec 32) (s : State) : (writeCount v s).unwritten = s.unwritten := rfl
@[simp] theorem writeCount_writeBuffer (v : BitVec 32) (s : State) : (writeCount v s).writeBuffer = s.writeBuffer := rfl
@[simp] theorem writeCount_deviceStores (v : BitVec 32) (s : State) : (writeCount v s).deviceStores = s.deviceStores := rfl
@[simp] theorem writeCount_caches (v : BitVec 32) (s : State) : (writeCount v s).caches = s.caches := rfl
@[simp] theorem writeCount_physMap (v : BitVec 32) (s : State) : (writeCount v s).physMap = s.physMap := rfl
@[simp] theorem writeCount_timerIntOnIP7 (v : BitVec 32) (s : State) : (writeCount v s).timerIntOnIP7 = s.timerIntOnIP7 := rfl
@[simp] theorem writeCount_hiloHazard (v : BitVec 32) (s : State) : (writeCount v s).hiloHazard = s.hiloHazard := rfl
@[simp] theorem writeCount_cp0Hazard (v : BitVec 32) (s : State) : (writeCount v s).cp0Hazard = s.cp0Hazard := rfl
@[simp] theorem writeCount_qnanS (v : BitVec 32) (s : State) : (writeCount v s).qnanS = s.qnanS := rfl
@[simp] theorem writeCount_qnanD (v : BitVec 32) (s : State) : (writeCount v s).qnanD = s.qnanD := rfl
@[simp] theorem writeCount_pins (v : BitVec 32) (s : State) : (writeCount v s).pins = s.pins := rfl
@[simp] theorem writeCount_draws (v : BitVec 32) (s : State) : (writeCount v s).draws = s.draws := rfl
@[simp] theorem writeCount_gpr (v : BitVec 32) (s : State) (k : Reg) : (writeCount v s).gpr k = s.gpr k := by simp [State.gpr]
@[simp] theorem writeCount_fgrRead (v : BitVec 32) (s : State) (k : Reg) : (writeCount v s).fgrRead k = s.fgrRead k := by simp [State.fgrRead]

/-! ### writeWired -/

@[simp] theorem writeWired_pc (v : BitVec 32) (s : State) : (writeWired v s).pc = s.pc := rfl
@[simp] theorem writeWired_next (v : BitVec 32) (s : State) : (writeWired v s).next = s.next := rfl
@[simp] theorem writeWired_regs (v : BitVec 32) (s : State) : (writeWired v s).regs = s.regs := rfl
@[simp] theorem writeWired_hi (v : BitVec 32) (s : State) : (writeWired v s).hi = s.hi := rfl
@[simp] theorem writeWired_lo (v : BitVec 32) (s : State) : (writeWired v s).lo = s.lo := rfl
@[simp] theorem writeWired_hiTag (v : BitVec 32) (s : State) : (writeWired v s).hiTag = s.hiTag := rfl
@[simp] theorem writeWired_loTag (v : BitVec 32) (s : State) : (writeWired v s).loTag = s.loTag := rfl
@[simp] theorem writeWired_hiGuard (v : BitVec 32) (s : State) : (writeWired v s).hiGuard = s.hiGuard := rfl
@[simp] theorem writeWired_loGuard (v : BitVec 32) (s : State) : (writeWired v s).loGuard = s.loGuard := rfl
@[simp] theorem writeWired_llbit (v : BitVec 32) (s : State) : (writeWired v s).llbit = s.llbit := rfl
@[simp] theorem writeWired_link (v : BitVec 32) (s : State) : (writeWired v s).link = s.link := rfl
@[simp] theorem writeWired_fgr (v : BitVec 32) (s : State) : (writeWired v s).fgr = s.fgr := rfl
@[simp] theorem writeWired_fcr0 (v : BitVec 32) (s : State) : (writeWired v s).fcr0 = s.fcr0 := rfl
@[simp] theorem writeWired_fcr31 (v : BitVec 32) (s : State) : (writeWired v s).fcr31 = s.fcr31 := rfl
@[simp] theorem writeWired_fccPrev (v : BitVec 32) (s : State) : (writeWired v s).fccPrev = s.fccPrev := rfl
@[simp] theorem writeWired_cp0 (v : BitVec 32) (s : State) : (writeWired v s).cp0 = { s.cp0 with wired := v &&& 0x3F#32, random := 47#6 } := rfl
@[simp] theorem writeWired_timerLatch (v : BitVec 32) (s : State) : (writeWired v s).timerLatch = s.timerLatch := rfl
@[simp] theorem writeWired_randomHold (v : BitVec 32) (s : State) : (writeWired v s).randomHold = true := rfl
@[simp] theorem writeWired_tlb (v : BitVec 32) (s : State) : (writeWired v s).tlb = s.tlb := rfl
@[simp] theorem writeWired_recent (v : BitVec 32) (s : State) : (writeWired v s).recent = s.recent := rfl
@[simp] theorem writeWired_mem (v : BitVec 32) (s : State) : (writeWired v s).mem = s.mem := rfl
@[simp] theorem writeWired_stale (v : BitVec 32) (s : State) : (writeWired v s).stale = s.stale := rfl
@[simp] theorem writeWired_maybeDirty (v : BitVec 32) (s : State) : (writeWired v s).maybeDirty = s.maybeDirty := rfl
@[simp] theorem writeWired_unwritten (v : BitVec 32) (s : State) : (writeWired v s).unwritten = s.unwritten := rfl
@[simp] theorem writeWired_writeBuffer (v : BitVec 32) (s : State) : (writeWired v s).writeBuffer = s.writeBuffer := rfl
@[simp] theorem writeWired_deviceStores (v : BitVec 32) (s : State) : (writeWired v s).deviceStores = s.deviceStores := rfl
@[simp] theorem writeWired_caches (v : BitVec 32) (s : State) : (writeWired v s).caches = s.caches := rfl
@[simp] theorem writeWired_physMap (v : BitVec 32) (s : State) : (writeWired v s).physMap = s.physMap := rfl
@[simp] theorem writeWired_timerIntOnIP7 (v : BitVec 32) (s : State) : (writeWired v s).timerIntOnIP7 = s.timerIntOnIP7 := rfl
@[simp] theorem writeWired_hiloHazard (v : BitVec 32) (s : State) : (writeWired v s).hiloHazard = s.hiloHazard := rfl
@[simp] theorem writeWired_cp0Hazard (v : BitVec 32) (s : State) : (writeWired v s).cp0Hazard = s.cp0Hazard := rfl
@[simp] theorem writeWired_qnanS (v : BitVec 32) (s : State) : (writeWired v s).qnanS = s.qnanS := rfl
@[simp] theorem writeWired_qnanD (v : BitVec 32) (s : State) : (writeWired v s).qnanD = s.qnanD := rfl
@[simp] theorem writeWired_pins (v : BitVec 32) (s : State) : (writeWired v s).pins = s.pins := rfl
@[simp] theorem writeWired_draws (v : BitVec 32) (s : State) : (writeWired v s).draws = s.draws := rfl
@[simp] theorem writeWired_gpr (v : BitVec 32) (s : State) (k : Reg) : (writeWired v s).gpr k = s.gpr k := by simp [State.gpr]
@[simp] theorem writeWired_fgrRead (v : BitVec 32) (s : State) (k : Reg) : (writeWired v s).fgrRead k = s.fgrRead k := by simp [State.fgrRead]

/-! ### cp0Write -/

@[simp] theorem cp0Write_pc (n : Reg) (v : Word) (s : State) : (cp0Write n v s).pc = s.pc := by unfold cp0Write; split <;> simp
@[simp] theorem cp0Write_next (n : Reg) (v : Word) (s : State) : (cp0Write n v s).next = s.next := by unfold cp0Write; split <;> simp
@[simp] theorem cp0Write_regs (n : Reg) (v : Word) (s : State) : (cp0Write n v s).regs = s.regs := by unfold cp0Write; split <;> simp
@[simp] theorem cp0Write_hi (n : Reg) (v : Word) (s : State) : (cp0Write n v s).hi = s.hi := by unfold cp0Write; split <;> simp
@[simp] theorem cp0Write_lo (n : Reg) (v : Word) (s : State) : (cp0Write n v s).lo = s.lo := by unfold cp0Write; split <;> simp
@[simp] theorem cp0Write_hiTag (n : Reg) (v : Word) (s : State) : (cp0Write n v s).hiTag = s.hiTag := by unfold cp0Write; split <;> simp
@[simp] theorem cp0Write_loTag (n : Reg) (v : Word) (s : State) : (cp0Write n v s).loTag = s.loTag := by unfold cp0Write; split <;> simp
@[simp] theorem cp0Write_hiGuard (n : Reg) (v : Word) (s : State) : (cp0Write n v s).hiGuard = s.hiGuard := by unfold cp0Write; split <;> simp
@[simp] theorem cp0Write_loGuard (n : Reg) (v : Word) (s : State) : (cp0Write n v s).loGuard = s.loGuard := by unfold cp0Write; split <;> simp
@[simp] theorem cp0Write_llbit (n : Reg) (v : Word) (s : State) : (cp0Write n v s).llbit = s.llbit := by unfold cp0Write; split <;> simp
@[simp] theorem cp0Write_link (n : Reg) (v : Word) (s : State) : (cp0Write n v s).link = s.link := by unfold cp0Write; split <;> simp
@[simp] theorem cp0Write_fcr0 (n : Reg) (v : Word) (s : State) : (cp0Write n v s).fcr0 = s.fcr0 := by unfold cp0Write; split <;> simp
@[simp] theorem cp0Write_fcr31 (n : Reg) (v : Word) (s : State) : (cp0Write n v s).fcr31 = s.fcr31 := by unfold cp0Write; split <;> simp
@[simp] theorem cp0Write_fccPrev (n : Reg) (v : Word) (s : State) : (cp0Write n v s).fccPrev = s.fccPrev := by unfold cp0Write; split <;> simp
@[simp] theorem cp0Write_tlb (n : Reg) (v : Word) (s : State) : (cp0Write n v s).tlb = s.tlb := by unfold cp0Write; split <;> simp
@[simp] theorem cp0Write_recent (n : Reg) (v : Word) (s : State) : (cp0Write n v s).recent = s.recent := by unfold cp0Write; split <;> simp
@[simp] theorem cp0Write_mem (n : Reg) (v : Word) (s : State) : (cp0Write n v s).mem = s.mem := by unfold cp0Write; split <;> simp
@[simp] theorem cp0Write_stale (n : Reg) (v : Word) (s : State) : (cp0Write n v s).stale = s.stale := by unfold cp0Write; split <;> simp
@[simp] theorem cp0Write_maybeDirty (n : Reg) (v : Word) (s : State) : (cp0Write n v s).maybeDirty = s.maybeDirty := by unfold cp0Write; split <;> simp
@[simp] theorem cp0Write_unwritten (n : Reg) (v : Word) (s : State) : (cp0Write n v s).unwritten = s.unwritten := by unfold cp0Write; split <;> simp
@[simp] theorem cp0Write_writeBuffer (n : Reg) (v : Word) (s : State) : (cp0Write n v s).writeBuffer = s.writeBuffer := by unfold cp0Write; split <;> simp
@[simp] theorem cp0Write_deviceStores (n : Reg) (v : Word) (s : State) : (cp0Write n v s).deviceStores = s.deviceStores := by unfold cp0Write; split <;> simp
@[simp] theorem cp0Write_physMap (n : Reg) (v : Word) (s : State) : (cp0Write n v s).physMap = s.physMap := by unfold cp0Write; split <;> simp
@[simp] theorem cp0Write_timerIntOnIP7 (n : Reg) (v : Word) (s : State) : (cp0Write n v s).timerIntOnIP7 = s.timerIntOnIP7 := by unfold cp0Write; split <;> simp
@[simp] theorem cp0Write_hiloHazard (n : Reg) (v : Word) (s : State) : (cp0Write n v s).hiloHazard = s.hiloHazard := by unfold cp0Write; split <;> simp
@[simp] theorem cp0Write_cp0Hazard (n : Reg) (v : Word) (s : State) : (cp0Write n v s).cp0Hazard = s.cp0Hazard := by unfold cp0Write; split <;> simp
@[simp] theorem cp0Write_qnanS (n : Reg) (v : Word) (s : State) : (cp0Write n v s).qnanS = s.qnanS := by unfold cp0Write; split <;> simp
@[simp] theorem cp0Write_qnanD (n : Reg) (v : Word) (s : State) : (cp0Write n v s).qnanD = s.qnanD := by unfold cp0Write; split <;> simp
@[simp] theorem cp0Write_pins (n : Reg) (v : Word) (s : State) : (cp0Write n v s).pins = s.pins := by unfold cp0Write; split <;> simp
@[simp] theorem cp0Write_draws (n : Reg) (v : Word) (s : State) : (cp0Write n v s).draws = s.draws := by unfold cp0Write; split <;> simp
@[simp] theorem cp0Write_gpr (n : Reg) (v : Word) (s : State) (k : Reg) : (cp0Write n v s).gpr k = s.gpr k := by simp [State.gpr]

/-! ### scrambleDirty -/

@[simp] theorem scrambleDirty_pc (s : State) : (scrambleDirty s).pc = s.pc := rfl
@[simp] theorem scrambleDirty_next (s : State) : (scrambleDirty s).next = s.next := rfl
@[simp] theorem scrambleDirty_regs (s : State) : (scrambleDirty s).regs = s.regs := rfl
@[simp] theorem scrambleDirty_hi (s : State) : (scrambleDirty s).hi = s.hi := rfl
@[simp] theorem scrambleDirty_lo (s : State) : (scrambleDirty s).lo = s.lo := rfl
@[simp] theorem scrambleDirty_hiTag (s : State) : (scrambleDirty s).hiTag = s.hiTag := rfl
@[simp] theorem scrambleDirty_loTag (s : State) : (scrambleDirty s).loTag = s.loTag := rfl
@[simp] theorem scrambleDirty_hiGuard (s : State) : (scrambleDirty s).hiGuard = s.hiGuard := rfl
@[simp] theorem scrambleDirty_loGuard (s : State) : (scrambleDirty s).loGuard = s.loGuard := rfl
@[simp] theorem scrambleDirty_llbit (s : State) : (scrambleDirty s).llbit = s.llbit := rfl
@[simp] theorem scrambleDirty_link (s : State) : (scrambleDirty s).link = s.link := rfl
@[simp] theorem scrambleDirty_fgr (s : State) : (scrambleDirty s).fgr = s.fgr := rfl
@[simp] theorem scrambleDirty_fcr0 (s : State) : (scrambleDirty s).fcr0 = s.fcr0 := rfl
@[simp] theorem scrambleDirty_fcr31 (s : State) : (scrambleDirty s).fcr31 = s.fcr31 := rfl
@[simp] theorem scrambleDirty_fccPrev (s : State) : (scrambleDirty s).fccPrev = s.fccPrev := rfl
@[simp] theorem scrambleDirty_cp0 (s : State) : (scrambleDirty s).cp0 = s.cp0 := rfl
@[simp] theorem scrambleDirty_timerLatch (s : State) : (scrambleDirty s).timerLatch = s.timerLatch := rfl
@[simp] theorem scrambleDirty_randomHold (s : State) : (scrambleDirty s).randomHold = s.randomHold := rfl
@[simp] theorem scrambleDirty_tlb (s : State) : (scrambleDirty s).tlb = s.tlb := rfl
@[simp] theorem scrambleDirty_recent (s : State) : (scrambleDirty s).recent = s.recent := rfl
@[simp] theorem scrambleDirty_maybeDirty (s : State) : (scrambleDirty s).maybeDirty = s.maybeDirty := rfl
@[simp] theorem scrambleDirty_unwritten (s : State) : (scrambleDirty s).unwritten = s.unwritten := rfl
@[simp] theorem scrambleDirty_writeBuffer (s : State) : (scrambleDirty s).writeBuffer = s.writeBuffer := rfl
@[simp] theorem scrambleDirty_deviceStores (s : State) : (scrambleDirty s).deviceStores = s.deviceStores := rfl
@[simp] theorem scrambleDirty_caches (s : State) : (scrambleDirty s).caches = s.caches := rfl
@[simp] theorem scrambleDirty_physMap (s : State) : (scrambleDirty s).physMap = s.physMap := rfl
@[simp] theorem scrambleDirty_timerIntOnIP7 (s : State) : (scrambleDirty s).timerIntOnIP7 = s.timerIntOnIP7 := rfl
@[simp] theorem scrambleDirty_hiloHazard (s : State) : (scrambleDirty s).hiloHazard = s.hiloHazard := rfl
@[simp] theorem scrambleDirty_cp0Hazard (s : State) : (scrambleDirty s).cp0Hazard = s.cp0Hazard := rfl
@[simp] theorem scrambleDirty_qnanS (s : State) : (scrambleDirty s).qnanS = s.qnanS := rfl
@[simp] theorem scrambleDirty_qnanD (s : State) : (scrambleDirty s).qnanD = s.qnanD := rfl
@[simp] theorem scrambleDirty_pins (s : State) : (scrambleDirty s).pins = s.pins := rfl
@[simp] theorem scrambleDirty_draws (s : State) : (scrambleDirty s).draws = s.draws := rfl
@[simp] theorem scrambleDirty_gpr (s : State) (k : Reg) : (scrambleDirty s).gpr k = s.gpr k := by simp [State.gpr]
@[simp] theorem scrambleDirty_fgrRead (s : State) (k : Reg) : (scrambleDirty s).fgrRead k = s.fgrRead k := by simp [State.fgrRead]
@[simp] theorem scrambleDirty_statusSeen (s : State) : (scrambleDirty s).statusSeen = s.statusSeen := rfl
@[simp] theorem scrambleDirty_fr (s : State) : (scrambleDirty s).fr = s.fr := by simp [State.fr]
@[simp] theorem scrambleDirty_cu (s : State) (z : Nat) : (scrambleDirty s).cu z = s.cu z := by simp [State.cu]

/-! ### loadTag -/

@[simp] theorem loadTag_pc (s : State) : (loadTag s).pc = s.pc := rfl
@[simp] theorem loadTag_next (s : State) : (loadTag s).next = s.next := rfl
@[simp] theorem loadTag_regs (s : State) : (loadTag s).regs = s.regs := rfl
@[simp] theorem loadTag_hi (s : State) : (loadTag s).hi = s.hi := rfl
@[simp] theorem loadTag_lo (s : State) : (loadTag s).lo = s.lo := rfl
@[simp] theorem loadTag_hiTag (s : State) : (loadTag s).hiTag = s.hiTag := rfl
@[simp] theorem loadTag_loTag (s : State) : (loadTag s).loTag = s.loTag := rfl
@[simp] theorem loadTag_hiGuard (s : State) : (loadTag s).hiGuard = s.hiGuard := rfl
@[simp] theorem loadTag_loGuard (s : State) : (loadTag s).loGuard = s.loGuard := rfl
@[simp] theorem loadTag_llbit (s : State) : (loadTag s).llbit = s.llbit := rfl
@[simp] theorem loadTag_link (s : State) : (loadTag s).link = s.link := rfl
@[simp] theorem loadTag_fgr (s : State) : (loadTag s).fgr = s.fgr := rfl
@[simp] theorem loadTag_fcr0 (s : State) : (loadTag s).fcr0 = s.fcr0 := rfl
@[simp] theorem loadTag_fcr31 (s : State) : (loadTag s).fcr31 = s.fcr31 := rfl
@[simp] theorem loadTag_fccPrev (s : State) : (loadTag s).fccPrev = s.fccPrev := rfl
@[simp] theorem loadTag_timerLatch (s : State) : (loadTag s).timerLatch = s.timerLatch := rfl
@[simp] theorem loadTag_randomHold (s : State) : (loadTag s).randomHold = s.randomHold := rfl
@[simp] theorem loadTag_tlb (s : State) : (loadTag s).tlb = s.tlb := rfl
@[simp] theorem loadTag_recent (s : State) : (loadTag s).recent = s.recent := rfl
@[simp] theorem loadTag_mem (s : State) : (loadTag s).mem = s.mem := rfl
@[simp] theorem loadTag_stale (s : State) : (loadTag s).stale = s.stale := rfl
@[simp] theorem loadTag_maybeDirty (s : State) : (loadTag s).maybeDirty = s.maybeDirty := rfl
@[simp] theorem loadTag_unwritten (s : State) : (loadTag s).unwritten = s.unwritten := rfl
@[simp] theorem loadTag_writeBuffer (s : State) : (loadTag s).writeBuffer = s.writeBuffer := rfl
@[simp] theorem loadTag_deviceStores (s : State) : (loadTag s).deviceStores = s.deviceStores := rfl
@[simp] theorem loadTag_caches (s : State) : (loadTag s).caches = s.caches := rfl
@[simp] theorem loadTag_physMap (s : State) : (loadTag s).physMap = s.physMap := rfl
@[simp] theorem loadTag_timerIntOnIP7 (s : State) : (loadTag s).timerIntOnIP7 = s.timerIntOnIP7 := rfl
@[simp] theorem loadTag_hiloHazard (s : State) : (loadTag s).hiloHazard = s.hiloHazard := rfl
@[simp] theorem loadTag_cp0Hazard (s : State) : (loadTag s).cp0Hazard = s.cp0Hazard := rfl
@[simp] theorem loadTag_qnanS (s : State) : (loadTag s).qnanS = s.qnanS := rfl
@[simp] theorem loadTag_qnanD (s : State) : (loadTag s).qnanD = s.qnanD := rfl
@[simp] theorem loadTag_pins (s : State) : (loadTag s).pins = s.pins := rfl
@[simp] theorem loadTag_draws (s : State) : (loadTag s).draws = s.draws := rfl
@[simp] theorem loadTag_gpr (s : State) (k : Reg) : (loadTag s).gpr k = s.gpr k := by simp [State.gpr]
@[simp] theorem loadTag_fgrRead (s : State) (k : Reg) : (loadTag s).fgrRead k = s.fgrRead k := by simp [State.fgrRead]

/-! ### writeBackLine -/

@[simp] theorem writeBackLine_pc (l : Nat) (s : State) : (writeBackLine l s).pc = s.pc := rfl
@[simp] theorem writeBackLine_next (l : Nat) (s : State) : (writeBackLine l s).next = s.next := rfl
@[simp] theorem writeBackLine_regs (l : Nat) (s : State) : (writeBackLine l s).regs = s.regs := rfl
@[simp] theorem writeBackLine_hi (l : Nat) (s : State) : (writeBackLine l s).hi = s.hi := rfl
@[simp] theorem writeBackLine_lo (l : Nat) (s : State) : (writeBackLine l s).lo = s.lo := rfl
@[simp] theorem writeBackLine_hiTag (l : Nat) (s : State) : (writeBackLine l s).hiTag = s.hiTag := rfl
@[simp] theorem writeBackLine_loTag (l : Nat) (s : State) : (writeBackLine l s).loTag = s.loTag := rfl
@[simp] theorem writeBackLine_hiGuard (l : Nat) (s : State) : (writeBackLine l s).hiGuard = s.hiGuard := rfl
@[simp] theorem writeBackLine_loGuard (l : Nat) (s : State) : (writeBackLine l s).loGuard = s.loGuard := rfl
@[simp] theorem writeBackLine_llbit (l : Nat) (s : State) : (writeBackLine l s).llbit = s.llbit := rfl
@[simp] theorem writeBackLine_link (l : Nat) (s : State) : (writeBackLine l s).link = s.link := rfl
@[simp] theorem writeBackLine_fgr (l : Nat) (s : State) : (writeBackLine l s).fgr = s.fgr := rfl
@[simp] theorem writeBackLine_fcr0 (l : Nat) (s : State) : (writeBackLine l s).fcr0 = s.fcr0 := rfl
@[simp] theorem writeBackLine_fcr31 (l : Nat) (s : State) : (writeBackLine l s).fcr31 = s.fcr31 := rfl
@[simp] theorem writeBackLine_fccPrev (l : Nat) (s : State) : (writeBackLine l s).fccPrev = s.fccPrev := rfl
@[simp] theorem writeBackLine_cp0 (l : Nat) (s : State) : (writeBackLine l s).cp0 = s.cp0 := rfl
@[simp] theorem writeBackLine_timerLatch (l : Nat) (s : State) : (writeBackLine l s).timerLatch = s.timerLatch := rfl
@[simp] theorem writeBackLine_randomHold (l : Nat) (s : State) : (writeBackLine l s).randomHold = s.randomHold := rfl
@[simp] theorem writeBackLine_tlb (l : Nat) (s : State) : (writeBackLine l s).tlb = s.tlb := rfl
@[simp] theorem writeBackLine_recent (l : Nat) (s : State) : (writeBackLine l s).recent = s.recent := rfl
@[simp] theorem writeBackLine_mem (l : Nat) (s : State) : (writeBackLine l s).mem = s.mem := rfl
@[simp] theorem writeBackLine_stale (l : Nat) (s : State) : (writeBackLine l s).stale = s.stale := rfl
@[simp] theorem writeBackLine_maybeDirty (l : Nat) (s : State) : (writeBackLine l s).maybeDirty = s.maybeDirty.filter fun l' => l' != l := rfl
@[simp] theorem writeBackLine_unwritten (l : Nat) (s : State) : (writeBackLine l s).unwritten = s.unwritten.filter fun c => lineOf c.1 != l := rfl
@[simp] theorem writeBackLine_writeBuffer (l : Nat) (s : State) : (writeBackLine l s).writeBuffer = s.bufferLine l := rfl
@[simp] theorem writeBackLine_deviceStores (l : Nat) (s : State) : (writeBackLine l s).deviceStores = s.deviceStores := rfl
@[simp] theorem writeBackLine_caches (l : Nat) (s : State) : (writeBackLine l s).caches = s.caches := rfl
@[simp] theorem writeBackLine_physMap (l : Nat) (s : State) : (writeBackLine l s).physMap = s.physMap := rfl
@[simp] theorem writeBackLine_timerIntOnIP7 (l : Nat) (s : State) : (writeBackLine l s).timerIntOnIP7 = s.timerIntOnIP7 := rfl
@[simp] theorem writeBackLine_hiloHazard (l : Nat) (s : State) : (writeBackLine l s).hiloHazard = s.hiloHazard := rfl
@[simp] theorem writeBackLine_cp0Hazard (l : Nat) (s : State) : (writeBackLine l s).cp0Hazard = s.cp0Hazard := rfl
@[simp] theorem writeBackLine_qnanS (l : Nat) (s : State) : (writeBackLine l s).qnanS = s.qnanS := rfl
@[simp] theorem writeBackLine_qnanD (l : Nat) (s : State) : (writeBackLine l s).qnanD = s.qnanD := rfl
@[simp] theorem writeBackLine_pins (l : Nat) (s : State) : (writeBackLine l s).pins = s.pins := rfl
@[simp] theorem writeBackLine_draws (l : Nat) (s : State) : (writeBackLine l s).draws = s.draws := rfl
@[simp] theorem writeBackLine_gpr (l : Nat) (s : State) (k : Reg) : (writeBackLine l s).gpr k = s.gpr k := by simp [State.gpr]
@[simp] theorem writeBackLine_fgrRead (l : Nat) (s : State) (k : Reg) : (writeBackLine l s).fgrRead k = s.fgrRead k := by simp [State.fgrRead]
@[simp] theorem writeBackLine_statusSeen (l : Nat) (s : State) : (writeBackLine l s).statusSeen = s.statusSeen := rfl
@[simp] theorem writeBackLine_fr (l : Nat) (s : State) : (writeBackLine l s).fr = s.fr := by simp [State.fr]
@[simp] theorem writeBackLine_cu (l : Nat) (s : State) (z : Nat) : (writeBackLine l s).cu z = s.cu z := by simp [State.cu]

/-! ### writeBackStep -/

@[simp] theorem writeBackStep_pc (l : Nat) (s : State) : (writeBackStep l s).pc = s.pc := rfl
@[simp] theorem writeBackStep_next (l : Nat) (s : State) : (writeBackStep l s).next = s.next := rfl
@[simp] theorem writeBackStep_regs (l : Nat) (s : State) : (writeBackStep l s).regs = s.regs := rfl
@[simp] theorem writeBackStep_hi (l : Nat) (s : State) : (writeBackStep l s).hi = s.hi := rfl
@[simp] theorem writeBackStep_lo (l : Nat) (s : State) : (writeBackStep l s).lo = s.lo := rfl
@[simp] theorem writeBackStep_hiTag (l : Nat) (s : State) : (writeBackStep l s).hiTag = s.hiTag := rfl
@[simp] theorem writeBackStep_loTag (l : Nat) (s : State) : (writeBackStep l s).loTag = s.loTag := rfl
@[simp] theorem writeBackStep_hiGuard (l : Nat) (s : State) : (writeBackStep l s).hiGuard = s.hiGuard := rfl
@[simp] theorem writeBackStep_loGuard (l : Nat) (s : State) : (writeBackStep l s).loGuard = s.loGuard := rfl
@[simp] theorem writeBackStep_llbit (l : Nat) (s : State) : (writeBackStep l s).llbit = s.llbit := rfl
@[simp] theorem writeBackStep_link (l : Nat) (s : State) : (writeBackStep l s).link = s.link := rfl
@[simp] theorem writeBackStep_fgr (l : Nat) (s : State) : (writeBackStep l s).fgr = s.fgr := rfl
@[simp] theorem writeBackStep_fcr0 (l : Nat) (s : State) : (writeBackStep l s).fcr0 = s.fcr0 := rfl
@[simp] theorem writeBackStep_fcr31 (l : Nat) (s : State) : (writeBackStep l s).fcr31 = s.fcr31 := rfl
@[simp] theorem writeBackStep_fccPrev (l : Nat) (s : State) : (writeBackStep l s).fccPrev = s.fccPrev := rfl
@[simp] theorem writeBackStep_cp0 (l : Nat) (s : State) : (writeBackStep l s).cp0 = s.cp0 := rfl
@[simp] theorem writeBackStep_timerLatch (l : Nat) (s : State) : (writeBackStep l s).timerLatch = s.timerLatch := rfl
@[simp] theorem writeBackStep_randomHold (l : Nat) (s : State) : (writeBackStep l s).randomHold = s.randomHold := rfl
@[simp] theorem writeBackStep_tlb (l : Nat) (s : State) : (writeBackStep l s).tlb = s.tlb := rfl
@[simp] theorem writeBackStep_recent (l : Nat) (s : State) : (writeBackStep l s).recent = s.recent := rfl
@[simp] theorem writeBackStep_mem (l : Nat) (s : State) : (writeBackStep l s).mem = s.mem := rfl
@[simp] theorem writeBackStep_stale (l : Nat) (s : State) : (writeBackStep l s).stale = staleWriteBack s.stale l := rfl
@[simp] theorem writeBackStep_maybeDirty (l : Nat) (s : State) : (writeBackStep l s).maybeDirty = s.maybeDirty.filter fun l' => l' != l := rfl
@[simp] theorem writeBackStep_unwritten (l : Nat) (s : State) : (writeBackStep l s).unwritten = s.unwritten.filter fun c => lineOf c.1 != l := rfl
@[simp] theorem writeBackStep_writeBuffer (l : Nat) (s : State) : (writeBackStep l s).writeBuffer = s.bufferLine l := rfl
@[simp] theorem writeBackStep_deviceStores (l : Nat) (s : State) : (writeBackStep l s).deviceStores = s.deviceStores := rfl
@[simp] theorem writeBackStep_caches (l : Nat) (s : State) : (writeBackStep l s).caches = s.caches := rfl
@[simp] theorem writeBackStep_physMap (l : Nat) (s : State) : (writeBackStep l s).physMap = s.physMap := rfl
@[simp] theorem writeBackStep_timerIntOnIP7 (l : Nat) (s : State) : (writeBackStep l s).timerIntOnIP7 = s.timerIntOnIP7 := rfl
@[simp] theorem writeBackStep_hiloHazard (l : Nat) (s : State) : (writeBackStep l s).hiloHazard = s.hiloHazard := rfl
@[simp] theorem writeBackStep_cp0Hazard (l : Nat) (s : State) : (writeBackStep l s).cp0Hazard = s.cp0Hazard := rfl
@[simp] theorem writeBackStep_qnanS (l : Nat) (s : State) : (writeBackStep l s).qnanS = s.qnanS := rfl
@[simp] theorem writeBackStep_qnanD (l : Nat) (s : State) : (writeBackStep l s).qnanD = s.qnanD := rfl
@[simp] theorem writeBackStep_pins (l : Nat) (s : State) : (writeBackStep l s).pins = s.pins := rfl
@[simp] theorem writeBackStep_draws (l : Nat) (s : State) : (writeBackStep l s).draws = s.draws := rfl
@[simp] theorem writeBackStep_gpr (l : Nat) (s : State) (k : Reg) : (writeBackStep l s).gpr k = s.gpr k := by simp [State.gpr]
@[simp] theorem writeBackStep_fgrRead (l : Nat) (s : State) (k : Reg) : (writeBackStep l s).fgrRead k = s.fgrRead k := by simp [State.fgrRead]
@[simp] theorem writeBackStep_statusSeen (l : Nat) (s : State) : (writeBackStep l s).statusSeen = s.statusSeen := rfl
@[simp] theorem writeBackStep_fr (l : Nat) (s : State) : (writeBackStep l s).fr = s.fr := by simp [State.fr]
@[simp] theorem writeBackStep_cu (l : Nat) (s : State) (z : Nat) : (writeBackStep l s).cu z = s.cu z := by simp [State.cu]

/-! ### discardLine -/

@[simp] theorem discardLine_pc (l : Nat) (s : State) : (discardLine l s).pc = s.pc := by unfold discardLine; split <;> rfl
@[simp] theorem discardLine_next (l : Nat) (s : State) : (discardLine l s).next = s.next := by unfold discardLine; split <;> rfl
@[simp] theorem discardLine_regs (l : Nat) (s : State) : (discardLine l s).regs = s.regs := by unfold discardLine; split <;> rfl
@[simp] theorem discardLine_hi (l : Nat) (s : State) : (discardLine l s).hi = s.hi := by unfold discardLine; split <;> rfl
@[simp] theorem discardLine_lo (l : Nat) (s : State) : (discardLine l s).lo = s.lo := by unfold discardLine; split <;> rfl
@[simp] theorem discardLine_hiTag (l : Nat) (s : State) : (discardLine l s).hiTag = s.hiTag := by unfold discardLine; split <;> rfl
@[simp] theorem discardLine_loTag (l : Nat) (s : State) : (discardLine l s).loTag = s.loTag := by unfold discardLine; split <;> rfl
@[simp] theorem discardLine_hiGuard (l : Nat) (s : State) : (discardLine l s).hiGuard = s.hiGuard := by unfold discardLine; split <;> rfl
@[simp] theorem discardLine_loGuard (l : Nat) (s : State) : (discardLine l s).loGuard = s.loGuard := by unfold discardLine; split <;> rfl
@[simp] theorem discardLine_llbit (l : Nat) (s : State) : (discardLine l s).llbit = s.llbit := by unfold discardLine; split <;> rfl
@[simp] theorem discardLine_link (l : Nat) (s : State) : (discardLine l s).link = s.link := by unfold discardLine; split <;> rfl
@[simp] theorem discardLine_fgr (l : Nat) (s : State) : (discardLine l s).fgr = s.fgr := by unfold discardLine; split <;> rfl
@[simp] theorem discardLine_fcr0 (l : Nat) (s : State) : (discardLine l s).fcr0 = s.fcr0 := by unfold discardLine; split <;> rfl
@[simp] theorem discardLine_fcr31 (l : Nat) (s : State) : (discardLine l s).fcr31 = s.fcr31 := by unfold discardLine; split <;> rfl
@[simp] theorem discardLine_fccPrev (l : Nat) (s : State) : (discardLine l s).fccPrev = s.fccPrev := by unfold discardLine; split <;> rfl
@[simp] theorem discardLine_cp0 (l : Nat) (s : State) : (discardLine l s).cp0 = s.cp0 := by unfold discardLine; split <;> rfl
@[simp] theorem discardLine_timerLatch (l : Nat) (s : State) : (discardLine l s).timerLatch = s.timerLatch := by unfold discardLine; split <;> rfl
@[simp] theorem discardLine_randomHold (l : Nat) (s : State) : (discardLine l s).randomHold = s.randomHold := by unfold discardLine; split <;> rfl
@[simp] theorem discardLine_tlb (l : Nat) (s : State) : (discardLine l s).tlb = s.tlb := by unfold discardLine; split <;> rfl
@[simp] theorem discardLine_recent (l : Nat) (s : State) : (discardLine l s).recent = s.recent := by unfold discardLine; split <;> rfl
@[simp] theorem discardLine_maybeDirty (l : Nat) (s : State) : (discardLine l s).maybeDirty = s.maybeDirty := by unfold discardLine; split <;> rfl
@[simp] theorem discardLine_unwritten (l : Nat) (s : State) : (discardLine l s).unwritten = s.unwritten := by unfold discardLine; split <;> rfl
@[simp] theorem discardLine_writeBuffer (l : Nat) (s : State) : (discardLine l s).writeBuffer = s.writeBuffer := by unfold discardLine; split <;> rfl
@[simp] theorem discardLine_deviceStores (l : Nat) (s : State) : (discardLine l s).deviceStores = s.deviceStores := by unfold discardLine; split <;> rfl
@[simp] theorem discardLine_caches (l : Nat) (s : State) : (discardLine l s).caches = s.caches := by unfold discardLine; split <;> rfl
@[simp] theorem discardLine_physMap (l : Nat) (s : State) : (discardLine l s).physMap = s.physMap := by unfold discardLine; split <;> rfl
@[simp] theorem discardLine_timerIntOnIP7 (l : Nat) (s : State) : (discardLine l s).timerIntOnIP7 = s.timerIntOnIP7 := by unfold discardLine; split <;> rfl
@[simp] theorem discardLine_hiloHazard (l : Nat) (s : State) : (discardLine l s).hiloHazard = s.hiloHazard := by unfold discardLine; split <;> rfl
@[simp] theorem discardLine_cp0Hazard (l : Nat) (s : State) : (discardLine l s).cp0Hazard = s.cp0Hazard := by unfold discardLine; split <;> rfl
@[simp] theorem discardLine_qnanS (l : Nat) (s : State) : (discardLine l s).qnanS = s.qnanS := by unfold discardLine; split <;> rfl
@[simp] theorem discardLine_qnanD (l : Nat) (s : State) : (discardLine l s).qnanD = s.qnanD := by unfold discardLine; split <;> rfl
@[simp] theorem discardLine_pins (l : Nat) (s : State) : (discardLine l s).pins = s.pins := by unfold discardLine; split <;> rfl
@[simp] theorem discardLine_draws (l : Nat) (s : State) : (discardLine l s).draws = s.draws := by unfold discardLine; split <;> rfl
@[simp] theorem discardLine_gpr (l : Nat) (s : State) (k : Reg) : (discardLine l s).gpr k = s.gpr k := by simp [State.gpr]
@[simp] theorem discardLine_fgrRead (l : Nat) (s : State) (k : Reg) : (discardLine l s).fgrRead k = s.fgrRead k := by simp [State.fgrRead]
@[simp] theorem discardLine_statusSeen (l : Nat) (s : State) : (discardLine l s).statusSeen = s.statusSeen := by simp [State.statusSeen, State.pickOld, State.pick, State.free]
@[simp] theorem discardLine_fr (l : Nat) (s : State) : (discardLine l s).fr = s.fr := by simp [State.fr]
@[simp] theorem discardLine_cu (l : Nat) (s : State) (z : Nat) : (discardLine l s).cu z = s.cu z := by simp [State.cu]

/-! ### claimLine -/

@[simp] theorem claimLine_pc (l : Nat) (s : State) : (claimLine l s).pc = s.pc := by simp [claimLine, recordStore]
@[simp] theorem claimLine_next (l : Nat) (s : State) : (claimLine l s).next = s.next := by simp [claimLine, recordStore]
@[simp] theorem claimLine_regs (l : Nat) (s : State) : (claimLine l s).regs = s.regs := by simp [claimLine, recordStore]
@[simp] theorem claimLine_hi (l : Nat) (s : State) : (claimLine l s).hi = s.hi := by simp [claimLine, recordStore]
@[simp] theorem claimLine_lo (l : Nat) (s : State) : (claimLine l s).lo = s.lo := by simp [claimLine, recordStore]
@[simp] theorem claimLine_hiTag (l : Nat) (s : State) : (claimLine l s).hiTag = s.hiTag := by simp [claimLine, recordStore]
@[simp] theorem claimLine_loTag (l : Nat) (s : State) : (claimLine l s).loTag = s.loTag := by simp [claimLine, recordStore]
@[simp] theorem claimLine_hiGuard (l : Nat) (s : State) : (claimLine l s).hiGuard = s.hiGuard := by simp [claimLine, recordStore]
@[simp] theorem claimLine_loGuard (l : Nat) (s : State) : (claimLine l s).loGuard = s.loGuard := by simp [claimLine, recordStore]
@[simp] theorem claimLine_llbit (l : Nat) (s : State) : (claimLine l s).llbit = s.llbit := by simp [claimLine, recordStore]
@[simp] theorem claimLine_link (l : Nat) (s : State) : (claimLine l s).link = s.link := by simp [claimLine, recordStore]
@[simp] theorem claimLine_fgr (l : Nat) (s : State) : (claimLine l s).fgr = s.fgr := by simp [claimLine, recordStore]
@[simp] theorem claimLine_fcr0 (l : Nat) (s : State) : (claimLine l s).fcr0 = s.fcr0 := by simp [claimLine, recordStore]
@[simp] theorem claimLine_fcr31 (l : Nat) (s : State) : (claimLine l s).fcr31 = s.fcr31 := by simp [claimLine, recordStore]
@[simp] theorem claimLine_fccPrev (l : Nat) (s : State) : (claimLine l s).fccPrev = s.fccPrev := by simp [claimLine, recordStore]
@[simp] theorem claimLine_cp0 (l : Nat) (s : State) : (claimLine l s).cp0 = s.cp0 := by simp [claimLine, recordStore]
@[simp] theorem claimLine_timerLatch (l : Nat) (s : State) : (claimLine l s).timerLatch = s.timerLatch := by simp [claimLine, recordStore]
@[simp] theorem claimLine_randomHold (l : Nat) (s : State) : (claimLine l s).randomHold = s.randomHold := by simp [claimLine, recordStore]
@[simp] theorem claimLine_tlb (l : Nat) (s : State) : (claimLine l s).tlb = s.tlb := by simp [claimLine, recordStore]
@[simp] theorem claimLine_recent (l : Nat) (s : State) : (claimLine l s).recent = s.recent := by simp [claimLine, recordStore]
@[simp] theorem claimLine_mem (l : Nat) (s : State) : (claimLine l s).mem = scrambleLine s l s.mem := by simp [claimLine, recordStore]
@[simp] theorem claimLine_stale (l : Nat) (s : State) : (claimLine l s).stale = staleLine s.mem s.stale l := by simp [claimLine, recordStore]
@[simp] theorem claimLine_maybeDirty (l : Nat) (s : State) : (claimLine l s).maybeDirty = s.maybeDirty.insert l := by simp [claimLine, recordStore]
@[simp] theorem claimLine_unwritten (l : Nat) (s : State) : (claimLine l s).unwritten = contents s.mem (lineBytes l) ∪ s.unwritten := by simp [claimLine, recordStore]
@[simp] theorem claimLine_writeBuffer (l : Nat) (s : State) : (claimLine l s).writeBuffer = s.writeBuffer := by simp [claimLine, recordStore]
@[simp] theorem claimLine_deviceStores (l : Nat) (s : State) : (claimLine l s).deviceStores = s.deviceStores := by simp [claimLine, recordStore]
@[simp] theorem claimLine_caches (l : Nat) (s : State) : (claimLine l s).caches = s.caches := by simp [claimLine, recordStore]
@[simp] theorem claimLine_physMap (l : Nat) (s : State) : (claimLine l s).physMap = s.physMap := by simp [claimLine, recordStore]
@[simp] theorem claimLine_timerIntOnIP7 (l : Nat) (s : State) : (claimLine l s).timerIntOnIP7 = s.timerIntOnIP7 := by simp [claimLine, recordStore]
@[simp] theorem claimLine_hiloHazard (l : Nat) (s : State) : (claimLine l s).hiloHazard = s.hiloHazard := by simp [claimLine, recordStore]
@[simp] theorem claimLine_cp0Hazard (l : Nat) (s : State) : (claimLine l s).cp0Hazard = s.cp0Hazard := by simp [claimLine, recordStore]
@[simp] theorem claimLine_qnanS (l : Nat) (s : State) : (claimLine l s).qnanS = s.qnanS := by simp [claimLine, recordStore]
@[simp] theorem claimLine_qnanD (l : Nat) (s : State) : (claimLine l s).qnanD = s.qnanD := by simp [claimLine, recordStore]
@[simp] theorem claimLine_pins (l : Nat) (s : State) : (claimLine l s).pins = s.pins := by simp [claimLine, recordStore]
@[simp] theorem claimLine_draws (l : Nat) (s : State) : (claimLine l s).draws = s.draws := by simp [claimLine, recordStore]
@[simp] theorem claimLine_gpr (l : Nat) (s : State) (k : Reg) : (claimLine l s).gpr k = s.gpr k := by simp [State.gpr]
@[simp] theorem claimLine_fgrRead (l : Nat) (s : State) (k : Reg) : (claimLine l s).fgrRead k = s.fgrRead k := by simp [State.fgrRead]
@[simp] theorem claimLine_statusSeen (l : Nat) (s : State) : (claimLine l s).statusSeen = s.statusSeen := by simp [State.statusSeen, State.pickOld, State.pick, State.free]
@[simp] theorem claimLine_fr (l : Nat) (s : State) : (claimLine l s).fr = s.fr := by simp [State.fr]
@[simp] theorem claimLine_cu (l : Nat) (s : State) (z : Nat) : (claimLine l s).cu z = s.cu z := by simp [State.cu]

/-! ### storeTagI -/

@[simp] theorem storeTagI_pc (va : Word) (s : State) : (storeTagI va s).pc = s.pc := by unfold storeTagI; split <;> rfl
@[simp] theorem storeTagI_next (va : Word) (s : State) : (storeTagI va s).next = s.next := by unfold storeTagI; split <;> rfl
@[simp] theorem storeTagI_regs (va : Word) (s : State) : (storeTagI va s).regs = s.regs := by unfold storeTagI; split <;> rfl
@[simp] theorem storeTagI_hi (va : Word) (s : State) : (storeTagI va s).hi = s.hi := by unfold storeTagI; split <;> rfl
@[simp] theorem storeTagI_lo (va : Word) (s : State) : (storeTagI va s).lo = s.lo := by unfold storeTagI; split <;> rfl
@[simp] theorem storeTagI_hiTag (va : Word) (s : State) : (storeTagI va s).hiTag = s.hiTag := by unfold storeTagI; split <;> rfl
@[simp] theorem storeTagI_loTag (va : Word) (s : State) : (storeTagI va s).loTag = s.loTag := by unfold storeTagI; split <;> rfl
@[simp] theorem storeTagI_hiGuard (va : Word) (s : State) : (storeTagI va s).hiGuard = s.hiGuard := by unfold storeTagI; split <;> rfl
@[simp] theorem storeTagI_loGuard (va : Word) (s : State) : (storeTagI va s).loGuard = s.loGuard := by unfold storeTagI; split <;> rfl
@[simp] theorem storeTagI_llbit (va : Word) (s : State) : (storeTagI va s).llbit = s.llbit := by unfold storeTagI; split <;> rfl
@[simp] theorem storeTagI_link (va : Word) (s : State) : (storeTagI va s).link = s.link := by unfold storeTagI; split <;> rfl
@[simp] theorem storeTagI_fgr (va : Word) (s : State) : (storeTagI va s).fgr = s.fgr := by unfold storeTagI; split <;> rfl
@[simp] theorem storeTagI_fcr0 (va : Word) (s : State) : (storeTagI va s).fcr0 = s.fcr0 := by unfold storeTagI; split <;> rfl
@[simp] theorem storeTagI_fcr31 (va : Word) (s : State) : (storeTagI va s).fcr31 = s.fcr31 := by unfold storeTagI; split <;> rfl
@[simp] theorem storeTagI_fccPrev (va : Word) (s : State) : (storeTagI va s).fccPrev = s.fccPrev := by unfold storeTagI; split <;> rfl
@[simp] theorem storeTagI_cp0 (va : Word) (s : State) : (storeTagI va s).cp0 = s.cp0 := by unfold storeTagI; split <;> rfl
@[simp] theorem storeTagI_timerLatch (va : Word) (s : State) : (storeTagI va s).timerLatch = s.timerLatch := by unfold storeTagI; split <;> rfl
@[simp] theorem storeTagI_randomHold (va : Word) (s : State) : (storeTagI va s).randomHold = s.randomHold := by unfold storeTagI; split <;> rfl
@[simp] theorem storeTagI_tlb (va : Word) (s : State) : (storeTagI va s).tlb = s.tlb := by unfold storeTagI; split <;> rfl
@[simp] theorem storeTagI_recent (va : Word) (s : State) : (storeTagI va s).recent = s.recent := by unfold storeTagI; split <;> rfl
@[simp] theorem storeTagI_mem (va : Word) (s : State) : (storeTagI va s).mem = s.mem := by unfold storeTagI; split <;> rfl
@[simp] theorem storeTagI_stale (va : Word) (s : State) : (storeTagI va s).stale = s.stale := by unfold storeTagI; split <;> rfl
@[simp] theorem storeTagI_maybeDirty (va : Word) (s : State) : (storeTagI va s).maybeDirty = s.maybeDirty := by unfold storeTagI; split <;> rfl
@[simp] theorem storeTagI_unwritten (va : Word) (s : State) : (storeTagI va s).unwritten = s.unwritten := by unfold storeTagI; split <;> rfl
@[simp] theorem storeTagI_writeBuffer (va : Word) (s : State) : (storeTagI va s).writeBuffer = s.writeBuffer := by unfold storeTagI; split <;> rfl
@[simp] theorem storeTagI_deviceStores (va : Word) (s : State) : (storeTagI va s).deviceStores = s.deviceStores := by unfold storeTagI; split <;> rfl
@[simp] theorem storeTagI_physMap (va : Word) (s : State) : (storeTagI va s).physMap = s.physMap := by unfold storeTagI; split <;> rfl
@[simp] theorem storeTagI_timerIntOnIP7 (va : Word) (s : State) : (storeTagI va s).timerIntOnIP7 = s.timerIntOnIP7 := by unfold storeTagI; split <;> rfl
@[simp] theorem storeTagI_hiloHazard (va : Word) (s : State) : (storeTagI va s).hiloHazard = s.hiloHazard := by unfold storeTagI; split <;> rfl
@[simp] theorem storeTagI_cp0Hazard (va : Word) (s : State) : (storeTagI va s).cp0Hazard = s.cp0Hazard := by unfold storeTagI; split <;> rfl
@[simp] theorem storeTagI_qnanS (va : Word) (s : State) : (storeTagI va s).qnanS = s.qnanS := by unfold storeTagI; split <;> rfl
@[simp] theorem storeTagI_qnanD (va : Word) (s : State) : (storeTagI va s).qnanD = s.qnanD := by unfold storeTagI; split <;> rfl
@[simp] theorem storeTagI_pins (va : Word) (s : State) : (storeTagI va s).pins = s.pins := by unfold storeTagI; split <;> rfl
@[simp] theorem storeTagI_draws (va : Word) (s : State) : (storeTagI va s).draws = s.draws := by unfold storeTagI; split <;> rfl
@[simp] theorem storeTagI_gpr (va : Word) (s : State) (k : Reg) : (storeTagI va s).gpr k = s.gpr k := by simp [State.gpr]
@[simp] theorem storeTagI_fgrRead (va : Word) (s : State) (k : Reg) : (storeTagI va s).fgrRead k = s.fgrRead k := by simp [State.fgrRead]
@[simp] theorem storeTagI_statusSeen (va : Word) (s : State) : (storeTagI va s).statusSeen = s.statusSeen := by simp [State.statusSeen, State.pickOld, State.pick, State.free]
@[simp] theorem storeTagI_fr (va : Word) (s : State) : (storeTagI va s).fr = s.fr := by simp [State.fr]
@[simp] theorem storeTagI_cu (va : Word) (s : State) (z : Nat) : (storeTagI va s).cu z = s.cu z := by simp [State.cu]

/-! ### storeTagD -/

@[simp] theorem storeTagD_pc (va : Word) (s : State) : (storeTagD va s).pc = s.pc := by unfold storeTagD; split <;> rfl
@[simp] theorem storeTagD_next (va : Word) (s : State) : (storeTagD va s).next = s.next := by unfold storeTagD; split <;> rfl
@[simp] theorem storeTagD_regs (va : Word) (s : State) : (storeTagD va s).regs = s.regs := by unfold storeTagD; split <;> rfl
@[simp] theorem storeTagD_hi (va : Word) (s : State) : (storeTagD va s).hi = s.hi := by unfold storeTagD; split <;> rfl
@[simp] theorem storeTagD_lo (va : Word) (s : State) : (storeTagD va s).lo = s.lo := by unfold storeTagD; split <;> rfl
@[simp] theorem storeTagD_hiTag (va : Word) (s : State) : (storeTagD va s).hiTag = s.hiTag := by unfold storeTagD; split <;> rfl
@[simp] theorem storeTagD_loTag (va : Word) (s : State) : (storeTagD va s).loTag = s.loTag := by unfold storeTagD; split <;> rfl
@[simp] theorem storeTagD_hiGuard (va : Word) (s : State) : (storeTagD va s).hiGuard = s.hiGuard := by unfold storeTagD; split <;> rfl
@[simp] theorem storeTagD_loGuard (va : Word) (s : State) : (storeTagD va s).loGuard = s.loGuard := by unfold storeTagD; split <;> rfl
@[simp] theorem storeTagD_llbit (va : Word) (s : State) : (storeTagD va s).llbit = s.llbit := by unfold storeTagD; split <;> rfl
@[simp] theorem storeTagD_link (va : Word) (s : State) : (storeTagD va s).link = s.link := by unfold storeTagD; split <;> rfl
@[simp] theorem storeTagD_fgr (va : Word) (s : State) : (storeTagD va s).fgr = s.fgr := by unfold storeTagD; split <;> rfl
@[simp] theorem storeTagD_fcr0 (va : Word) (s : State) : (storeTagD va s).fcr0 = s.fcr0 := by unfold storeTagD; split <;> rfl
@[simp] theorem storeTagD_fcr31 (va : Word) (s : State) : (storeTagD va s).fcr31 = s.fcr31 := by unfold storeTagD; split <;> rfl
@[simp] theorem storeTagD_fccPrev (va : Word) (s : State) : (storeTagD va s).fccPrev = s.fccPrev := by unfold storeTagD; split <;> rfl
@[simp] theorem storeTagD_cp0 (va : Word) (s : State) : (storeTagD va s).cp0 = s.cp0 := by unfold storeTagD; split <;> rfl
@[simp] theorem storeTagD_timerLatch (va : Word) (s : State) : (storeTagD va s).timerLatch = s.timerLatch := by unfold storeTagD; split <;> rfl
@[simp] theorem storeTagD_randomHold (va : Word) (s : State) : (storeTagD va s).randomHold = s.randomHold := by unfold storeTagD; split <;> rfl
@[simp] theorem storeTagD_tlb (va : Word) (s : State) : (storeTagD va s).tlb = s.tlb := by unfold storeTagD; split <;> rfl
@[simp] theorem storeTagD_recent (va : Word) (s : State) : (storeTagD va s).recent = s.recent := by unfold storeTagD; split <;> rfl
@[simp] theorem storeTagD_mem (va : Word) (s : State) : (storeTagD va s).mem = s.mem := by unfold storeTagD; split <;> rfl
@[simp] theorem storeTagD_stale (va : Word) (s : State) : (storeTagD va s).stale = s.stale := by unfold storeTagD; split <;> rfl
@[simp] theorem storeTagD_maybeDirty (va : Word) (s : State) : (storeTagD va s).maybeDirty = s.maybeDirty := by unfold storeTagD; split <;> rfl
@[simp] theorem storeTagD_unwritten (va : Word) (s : State) : (storeTagD va s).unwritten = s.unwritten := by unfold storeTagD; split <;> rfl
@[simp] theorem storeTagD_writeBuffer (va : Word) (s : State) : (storeTagD va s).writeBuffer = s.writeBuffer := by unfold storeTagD; split <;> rfl
@[simp] theorem storeTagD_deviceStores (va : Word) (s : State) : (storeTagD va s).deviceStores = s.deviceStores := by unfold storeTagD; split <;> rfl
@[simp] theorem storeTagD_physMap (va : Word) (s : State) : (storeTagD va s).physMap = s.physMap := by unfold storeTagD; split <;> rfl
@[simp] theorem storeTagD_timerIntOnIP7 (va : Word) (s : State) : (storeTagD va s).timerIntOnIP7 = s.timerIntOnIP7 := by unfold storeTagD; split <;> rfl
@[simp] theorem storeTagD_hiloHazard (va : Word) (s : State) : (storeTagD va s).hiloHazard = s.hiloHazard := by unfold storeTagD; split <;> rfl
@[simp] theorem storeTagD_cp0Hazard (va : Word) (s : State) : (storeTagD va s).cp0Hazard = s.cp0Hazard := by unfold storeTagD; split <;> rfl
@[simp] theorem storeTagD_qnanS (va : Word) (s : State) : (storeTagD va s).qnanS = s.qnanS := by unfold storeTagD; split <;> rfl
@[simp] theorem storeTagD_qnanD (va : Word) (s : State) : (storeTagD va s).qnanD = s.qnanD := by unfold storeTagD; split <;> rfl
@[simp] theorem storeTagD_pins (va : Word) (s : State) : (storeTagD va s).pins = s.pins := by unfold storeTagD; split <;> rfl
@[simp] theorem storeTagD_draws (va : Word) (s : State) : (storeTagD va s).draws = s.draws := by unfold storeTagD; split <;> rfl
@[simp] theorem storeTagD_gpr (va : Word) (s : State) (k : Reg) : (storeTagD va s).gpr k = s.gpr k := by simp [State.gpr]
@[simp] theorem storeTagD_fgrRead (va : Word) (s : State) (k : Reg) : (storeTagD va s).fgrRead k = s.fgrRead k := by simp [State.fgrRead]
@[simp] theorem storeTagD_statusSeen (va : Word) (s : State) : (storeTagD va s).statusSeen = s.statusSeen := by simp [State.statusSeen, State.pickOld, State.pick, State.free]
@[simp] theorem storeTagD_fr (va : Word) (s : State) : (storeTagD va s).fr = s.fr := by simp [State.fr]
@[simp] theorem storeTagD_cu (va : Word) (s : State) (z : Nat) : (storeTagD va s).cu z = s.cu z := by simp [State.cu]

/-! ### storeTagS -/

@[simp] theorem storeTagS_pc (pa : PAddr) (n : Nat) (s : State) : (storeTagS pa n s).pc = s.pc := by unfold storeTagS; split <;> rfl
@[simp] theorem storeTagS_next (pa : PAddr) (n : Nat) (s : State) : (storeTagS pa n s).next = s.next := by unfold storeTagS; split <;> rfl
@[simp] theorem storeTagS_regs (pa : PAddr) (n : Nat) (s : State) : (storeTagS pa n s).regs = s.regs := by unfold storeTagS; split <;> rfl
@[simp] theorem storeTagS_hi (pa : PAddr) (n : Nat) (s : State) : (storeTagS pa n s).hi = s.hi := by unfold storeTagS; split <;> rfl
@[simp] theorem storeTagS_lo (pa : PAddr) (n : Nat) (s : State) : (storeTagS pa n s).lo = s.lo := by unfold storeTagS; split <;> rfl
@[simp] theorem storeTagS_hiTag (pa : PAddr) (n : Nat) (s : State) : (storeTagS pa n s).hiTag = s.hiTag := by unfold storeTagS; split <;> rfl
@[simp] theorem storeTagS_loTag (pa : PAddr) (n : Nat) (s : State) : (storeTagS pa n s).loTag = s.loTag := by unfold storeTagS; split <;> rfl
@[simp] theorem storeTagS_hiGuard (pa : PAddr) (n : Nat) (s : State) : (storeTagS pa n s).hiGuard = s.hiGuard := by unfold storeTagS; split <;> rfl
@[simp] theorem storeTagS_loGuard (pa : PAddr) (n : Nat) (s : State) : (storeTagS pa n s).loGuard = s.loGuard := by unfold storeTagS; split <;> rfl
@[simp] theorem storeTagS_llbit (pa : PAddr) (n : Nat) (s : State) : (storeTagS pa n s).llbit = s.llbit := by unfold storeTagS; split <;> rfl
@[simp] theorem storeTagS_link (pa : PAddr) (n : Nat) (s : State) : (storeTagS pa n s).link = s.link := by unfold storeTagS; split <;> rfl
@[simp] theorem storeTagS_fgr (pa : PAddr) (n : Nat) (s : State) : (storeTagS pa n s).fgr = s.fgr := by unfold storeTagS; split <;> rfl
@[simp] theorem storeTagS_fcr0 (pa : PAddr) (n : Nat) (s : State) : (storeTagS pa n s).fcr0 = s.fcr0 := by unfold storeTagS; split <;> rfl
@[simp] theorem storeTagS_fcr31 (pa : PAddr) (n : Nat) (s : State) : (storeTagS pa n s).fcr31 = s.fcr31 := by unfold storeTagS; split <;> rfl
@[simp] theorem storeTagS_fccPrev (pa : PAddr) (n : Nat) (s : State) : (storeTagS pa n s).fccPrev = s.fccPrev := by unfold storeTagS; split <;> rfl
@[simp] theorem storeTagS_cp0 (pa : PAddr) (n : Nat) (s : State) : (storeTagS pa n s).cp0 = s.cp0 := by unfold storeTagS; split <;> rfl
@[simp] theorem storeTagS_timerLatch (pa : PAddr) (n : Nat) (s : State) : (storeTagS pa n s).timerLatch = s.timerLatch := by unfold storeTagS; split <;> rfl
@[simp] theorem storeTagS_randomHold (pa : PAddr) (n : Nat) (s : State) : (storeTagS pa n s).randomHold = s.randomHold := by unfold storeTagS; split <;> rfl
@[simp] theorem storeTagS_tlb (pa : PAddr) (n : Nat) (s : State) : (storeTagS pa n s).tlb = s.tlb := by unfold storeTagS; split <;> rfl
@[simp] theorem storeTagS_recent (pa : PAddr) (n : Nat) (s : State) : (storeTagS pa n s).recent = s.recent := by unfold storeTagS; split <;> rfl
@[simp] theorem storeTagS_mem (pa : PAddr) (n : Nat) (s : State) : (storeTagS pa n s).mem = s.mem := by unfold storeTagS; split <;> rfl
@[simp] theorem storeTagS_stale (pa : PAddr) (n : Nat) (s : State) : (storeTagS pa n s).stale = s.stale := by unfold storeTagS; split <;> rfl
@[simp] theorem storeTagS_maybeDirty (pa : PAddr) (n : Nat) (s : State) : (storeTagS pa n s).maybeDirty = s.maybeDirty := by unfold storeTagS; split <;> rfl
@[simp] theorem storeTagS_unwritten (pa : PAddr) (n : Nat) (s : State) : (storeTagS pa n s).unwritten = s.unwritten := by unfold storeTagS; split <;> rfl
@[simp] theorem storeTagS_writeBuffer (pa : PAddr) (n : Nat) (s : State) : (storeTagS pa n s).writeBuffer = s.writeBuffer := by unfold storeTagS; split <;> rfl
@[simp] theorem storeTagS_deviceStores (pa : PAddr) (n : Nat) (s : State) : (storeTagS pa n s).deviceStores = s.deviceStores := by unfold storeTagS; split <;> rfl
@[simp] theorem storeTagS_physMap (pa : PAddr) (n : Nat) (s : State) : (storeTagS pa n s).physMap = s.physMap := by unfold storeTagS; split <;> rfl
@[simp] theorem storeTagS_timerIntOnIP7 (pa : PAddr) (n : Nat) (s : State) : (storeTagS pa n s).timerIntOnIP7 = s.timerIntOnIP7 := by unfold storeTagS; split <;> rfl
@[simp] theorem storeTagS_hiloHazard (pa : PAddr) (n : Nat) (s : State) : (storeTagS pa n s).hiloHazard = s.hiloHazard := by unfold storeTagS; split <;> rfl
@[simp] theorem storeTagS_cp0Hazard (pa : PAddr) (n : Nat) (s : State) : (storeTagS pa n s).cp0Hazard = s.cp0Hazard := by unfold storeTagS; split <;> rfl
@[simp] theorem storeTagS_qnanS (pa : PAddr) (n : Nat) (s : State) : (storeTagS pa n s).qnanS = s.qnanS := by unfold storeTagS; split <;> rfl
@[simp] theorem storeTagS_qnanD (pa : PAddr) (n : Nat) (s : State) : (storeTagS pa n s).qnanD = s.qnanD := by unfold storeTagS; split <;> rfl
@[simp] theorem storeTagS_pins (pa : PAddr) (n : Nat) (s : State) : (storeTagS pa n s).pins = s.pins := by unfold storeTagS; split <;> rfl
@[simp] theorem storeTagS_draws (pa : PAddr) (n : Nat) (s : State) : (storeTagS pa n s).draws = s.draws := by unfold storeTagS; split <;> rfl
@[simp] theorem storeTagS_gpr (pa : PAddr) (n : Nat) (s : State) (k : Reg) : (storeTagS pa n s).gpr k = s.gpr k := by simp [State.gpr]
@[simp] theorem storeTagS_fgrRead (pa : PAddr) (n : Nat) (s : State) (k : Reg) : (storeTagS pa n s).fgrRead k = s.fgrRead k := by simp [State.fgrRead]
@[simp] theorem storeTagS_statusSeen (pa : PAddr) (n : Nat) (s : State) : (storeTagS pa n s).statusSeen = s.statusSeen := by simp [State.statusSeen, State.pickOld, State.pick, State.free]
@[simp] theorem storeTagS_fr (pa : PAddr) (n : Nat) (s : State) : (storeTagS pa n s).fr = s.fr := by simp [State.fr]
@[simp] theorem storeTagS_cu (pa : PAddr) (n : Nat) (s : State) (z : Nat) : (storeTagS pa n s).cu z = s.cu z := by simp [State.cu]

/-! ### flushS -/

@[simp] theorem flushS_pc (s : State) : (flushS s).pc = s.pc := by unfold flushS; rfl
@[simp] theorem flushS_next (s : State) : (flushS s).next = s.next := by unfold flushS; rfl
@[simp] theorem flushS_regs (s : State) : (flushS s).regs = s.regs := by unfold flushS; rfl
@[simp] theorem flushS_hi (s : State) : (flushS s).hi = s.hi := by unfold flushS; rfl
@[simp] theorem flushS_lo (s : State) : (flushS s).lo = s.lo := by unfold flushS; rfl
@[simp] theorem flushS_hiTag (s : State) : (flushS s).hiTag = s.hiTag := by unfold flushS; rfl
@[simp] theorem flushS_loTag (s : State) : (flushS s).loTag = s.loTag := by unfold flushS; rfl
@[simp] theorem flushS_hiGuard (s : State) : (flushS s).hiGuard = s.hiGuard := by unfold flushS; rfl
@[simp] theorem flushS_loGuard (s : State) : (flushS s).loGuard = s.loGuard := by unfold flushS; rfl
@[simp] theorem flushS_llbit (s : State) : (flushS s).llbit = s.llbit := by unfold flushS; rfl
@[simp] theorem flushS_link (s : State) : (flushS s).link = s.link := by unfold flushS; rfl
@[simp] theorem flushS_fgr (s : State) : (flushS s).fgr = s.fgr := by unfold flushS; rfl
@[simp] theorem flushS_fcr0 (s : State) : (flushS s).fcr0 = s.fcr0 := by unfold flushS; rfl
@[simp] theorem flushS_fcr31 (s : State) : (flushS s).fcr31 = s.fcr31 := by unfold flushS; rfl
@[simp] theorem flushS_fccPrev (s : State) : (flushS s).fccPrev = s.fccPrev := by unfold flushS; rfl
@[simp] theorem flushS_cp0 (s : State) : (flushS s).cp0 = s.cp0 := by unfold flushS; rfl
@[simp] theorem flushS_timerLatch (s : State) : (flushS s).timerLatch = s.timerLatch := by unfold flushS; rfl
@[simp] theorem flushS_randomHold (s : State) : (flushS s).randomHold = s.randomHold := by unfold flushS; rfl
@[simp] theorem flushS_tlb (s : State) : (flushS s).tlb = s.tlb := by unfold flushS; rfl
@[simp] theorem flushS_recent (s : State) : (flushS s).recent = s.recent := by unfold flushS; rfl
@[simp] theorem flushS_mem (s : State) : (flushS s).mem = s.mem := by unfold flushS; rfl
@[simp] theorem flushS_stale (s : State) : (flushS s).stale = s.stale := by unfold flushS; rfl
@[simp] theorem flushS_maybeDirty (s : State) : (flushS s).maybeDirty = s.maybeDirty := by unfold flushS; rfl
@[simp] theorem flushS_unwritten (s : State) : (flushS s).unwritten = s.unwritten := by unfold flushS; rfl
@[simp] theorem flushS_writeBuffer (s : State) : (flushS s).writeBuffer = s.writeBuffer := by unfold flushS; rfl
@[simp] theorem flushS_deviceStores (s : State) : (flushS s).deviceStores = s.deviceStores := by unfold flushS; rfl
@[simp] theorem flushS_physMap (s : State) : (flushS s).physMap = s.physMap := by unfold flushS; rfl
@[simp] theorem flushS_timerIntOnIP7 (s : State) : (flushS s).timerIntOnIP7 = s.timerIntOnIP7 := by unfold flushS; rfl
@[simp] theorem flushS_hiloHazard (s : State) : (flushS s).hiloHazard = s.hiloHazard := by unfold flushS; rfl
@[simp] theorem flushS_cp0Hazard (s : State) : (flushS s).cp0Hazard = s.cp0Hazard := by unfold flushS; rfl
@[simp] theorem flushS_qnanS (s : State) : (flushS s).qnanS = s.qnanS := by unfold flushS; rfl
@[simp] theorem flushS_qnanD (s : State) : (flushS s).qnanD = s.qnanD := by unfold flushS; rfl
@[simp] theorem flushS_pins (s : State) : (flushS s).pins = s.pins := by unfold flushS; rfl
@[simp] theorem flushS_draws (s : State) : (flushS s).draws = s.draws := by unfold flushS; rfl
@[simp] theorem flushS_gpr (s : State) (k : Reg) : (flushS s).gpr k = s.gpr k := by simp [State.gpr]
@[simp] theorem flushS_fgrRead (s : State) (k : Reg) : (flushS s).fgrRead k = s.fgrRead k := by simp [State.fgrRead]
@[simp] theorem flushS_statusSeen (s : State) : (flushS s).statusSeen = s.statusSeen := by simp [State.statusSeen, State.pickOld, State.pick, State.free]
@[simp] theorem flushS_fr (s : State) : (flushS s).fr = s.fr := by simp [State.fr]
@[simp] theorem flushS_cu (s : State) (z : Nat) : (flushS s).cu z = s.cu z := by simp [State.cu]

/-! ### view -/

@[simp] theorem view_pc (s : State) (f : Bool) : (s.view f).pc = s.pc := by unfold State.view; split <;> rfl
@[simp] theorem view_next (s : State) (f : Bool) : (s.view f).next = s.next := by unfold State.view; split <;> rfl
@[simp] theorem view_regs (s : State) (f : Bool) : (s.view f).regs = s.regs := by unfold State.view; split <;> rfl
@[simp] theorem view_hi (s : State) (f : Bool) : (s.view f).hi = s.hi := by unfold State.view; split <;> rfl
@[simp] theorem view_lo (s : State) (f : Bool) : (s.view f).lo = s.lo := by unfold State.view; split <;> rfl
@[simp] theorem view_hiTag (s : State) (f : Bool) : (s.view f).hiTag = s.hiTag := by unfold State.view; split <;> rfl
@[simp] theorem view_loTag (s : State) (f : Bool) : (s.view f).loTag = s.loTag := by unfold State.view; split <;> rfl
@[simp] theorem view_hiGuard (s : State) (f : Bool) : (s.view f).hiGuard = s.hiGuard := by unfold State.view; split <;> rfl
@[simp] theorem view_loGuard (s : State) (f : Bool) : (s.view f).loGuard = s.loGuard := by unfold State.view; split <;> rfl
@[simp] theorem view_llbit (s : State) (f : Bool) : (s.view f).llbit = s.llbit := by unfold State.view; split <;> rfl
@[simp] theorem view_link (s : State) (f : Bool) : (s.view f).link = s.link := by unfold State.view; split <;> rfl
@[simp] theorem view_fgr (s : State) (f : Bool) : (s.view f).fgr = s.fgr := by unfold State.view; split <;> rfl
@[simp] theorem view_fcr0 (s : State) (f : Bool) : (s.view f).fcr0 = s.fcr0 := by unfold State.view; split <;> rfl
@[simp] theorem view_fcr31 (s : State) (f : Bool) : (s.view f).fcr31 = s.fcr31 := by unfold State.view; split <;> rfl
@[simp] theorem view_fccPrev (s : State) (f : Bool) : (s.view f).fccPrev = s.fccPrev := by unfold State.view; split <;> rfl
@[simp] theorem view_randomHold (s : State) (f : Bool) : (s.view f).randomHold = s.randomHold := by unfold State.view; split <;> rfl
@[simp] theorem view_mem (s : State) (f : Bool) : (s.view f).mem = s.mem := by unfold State.view; split <;> rfl
@[simp] theorem view_stale (s : State) (f : Bool) : (s.view f).stale = s.stale := by unfold State.view; split <;> rfl
@[simp] theorem view_maybeDirty (s : State) (f : Bool) : (s.view f).maybeDirty = s.maybeDirty := by unfold State.view; split <;> rfl
@[simp] theorem view_unwritten (s : State) (f : Bool) : (s.view f).unwritten = s.unwritten := by unfold State.view; split <;> rfl
@[simp] theorem view_writeBuffer (s : State) (f : Bool) : (s.view f).writeBuffer = s.writeBuffer := by unfold State.view; split <;> rfl
@[simp] theorem view_deviceStores (s : State) (f : Bool) : (s.view f).deviceStores = s.deviceStores := by unfold State.view; split <;> rfl
@[simp] theorem view_caches (s : State) (f : Bool) : (s.view f).caches = s.caches := by unfold State.view; split <;> rfl
@[simp] theorem view_physMap (s : State) (f : Bool) : (s.view f).physMap = s.physMap := by unfold State.view; split <;> rfl
@[simp] theorem view_timerIntOnIP7 (s : State) (f : Bool) : (s.view f).timerIntOnIP7 = s.timerIntOnIP7 := by unfold State.view; split <;> rfl
@[simp] theorem view_hiloHazard (s : State) (f : Bool) : (s.view f).hiloHazard = s.hiloHazard := by unfold State.view; split <;> rfl
@[simp] theorem view_cp0Hazard (s : State) (f : Bool) : (s.view f).cp0Hazard = s.cp0Hazard := by unfold State.view; split <;> rfl
@[simp] theorem view_qnanS (s : State) (f : Bool) : (s.view f).qnanS = s.qnanS := by unfold State.view; split <;> rfl
@[simp] theorem view_qnanD (s : State) (f : Bool) : (s.view f).qnanD = s.qnanD := by unfold State.view; split <;> rfl
@[simp] theorem view_pins (s : State) (f : Bool) : (s.view f).pins = s.pins := by unfold State.view; split <;> rfl
@[simp] theorem view_draws (s : State) (f : Bool) : (s.view f).draws = s.draws := by unfold State.view; split <;> rfl
@[simp] theorem view_gpr (s : State) (f : Bool) (k : Reg) : (s.view f).gpr k = s.gpr k := by simp [State.gpr]
@[simp] theorem view_fgrRead (s : State) (f : Bool) (k : Reg) : (s.view f).fgrRead k = s.fgrRead k := by simp [State.fgrRead]

/-! ### seen -/

@[simp] theorem seen_pc (s : State) : (s.seen).pc = s.pc := by simp [State.seen]
@[simp] theorem seen_next (s : State) : (s.seen).next = s.next := by simp [State.seen]
@[simp] theorem seen_regs (s : State) : (s.seen).regs = s.regs := by simp [State.seen]
@[simp] theorem seen_hi (s : State) : (s.seen).hi = s.hi := by simp [State.seen]
@[simp] theorem seen_lo (s : State) : (s.seen).lo = s.lo := by simp [State.seen]
@[simp] theorem seen_hiTag (s : State) : (s.seen).hiTag = s.hiTag := by simp [State.seen]
@[simp] theorem seen_loTag (s : State) : (s.seen).loTag = s.loTag := by simp [State.seen]
@[simp] theorem seen_hiGuard (s : State) : (s.seen).hiGuard = s.hiGuard := by simp [State.seen]
@[simp] theorem seen_loGuard (s : State) : (s.seen).loGuard = s.loGuard := by simp [State.seen]
@[simp] theorem seen_llbit (s : State) : (s.seen).llbit = s.llbit := by simp [State.seen]
@[simp] theorem seen_link (s : State) : (s.seen).link = s.link := by simp [State.seen]
@[simp] theorem seen_fgr (s : State) : (s.seen).fgr = s.fgr := by simp [State.seen]
@[simp] theorem seen_fcr0 (s : State) : (s.seen).fcr0 = s.fcr0 := by simp [State.seen]
@[simp] theorem seen_fcr31 (s : State) : (s.seen).fcr31 = s.fcr31 := by simp [State.seen]
@[simp] theorem seen_fccPrev (s : State) : (s.seen).fccPrev = s.fccPrev := by simp [State.seen]
@[simp] theorem seen_randomHold (s : State) : (s.seen).randomHold = s.randomHold := by simp [State.seen]
@[simp] theorem seen_mem (s : State) : (s.seen).mem = s.mem := by simp [State.seen]
@[simp] theorem seen_stale (s : State) : (s.seen).stale = s.stale := by simp [State.seen]
@[simp] theorem seen_maybeDirty (s : State) : (s.seen).maybeDirty = s.maybeDirty := by simp [State.seen]
@[simp] theorem seen_unwritten (s : State) : (s.seen).unwritten = s.unwritten := by simp [State.seen]
@[simp] theorem seen_writeBuffer (s : State) : (s.seen).writeBuffer = s.writeBuffer := by simp [State.seen]
@[simp] theorem seen_deviceStores (s : State) : (s.seen).deviceStores = s.deviceStores := by simp [State.seen]
@[simp] theorem seen_caches (s : State) : (s.seen).caches = s.caches := by simp [State.seen]
@[simp] theorem seen_physMap (s : State) : (s.seen).physMap = s.physMap := by simp [State.seen]
@[simp] theorem seen_timerIntOnIP7 (s : State) : (s.seen).timerIntOnIP7 = s.timerIntOnIP7 := by simp [State.seen]
@[simp] theorem seen_hiloHazard (s : State) : (s.seen).hiloHazard = s.hiloHazard := by simp [State.seen]
@[simp] theorem seen_cp0Hazard (s : State) : (s.seen).cp0Hazard = s.cp0Hazard := by simp [State.seen]
@[simp] theorem seen_qnanS (s : State) : (s.seen).qnanS = s.qnanS := by simp [State.seen]
@[simp] theorem seen_qnanD (s : State) : (s.seen).qnanD = s.qnanD := by simp [State.seen]
@[simp] theorem seen_pins (s : State) : (s.seen).pins = s.pins := by simp [State.seen]
@[simp] theorem seen_draws (s : State) : (s.seen).draws = s.draws := by simp [State.seen]
@[simp] theorem seen_gpr (s : State) (k : Reg) : (s.seen).gpr k = s.gpr k := by simp [State.gpr]
@[simp] theorem seen_fgrRead (s : State) (k : Reg) : (s.seen).fgrRead k = s.fgrRead k := by simp [State.fgrRead]

/-! ### Seen through the CP0 hazard -/

/-- With no recent CP0 or TLB write an instruction sees the system state as it is. -/
theorem view_of_recent_nil (s : State) (fetch : Bool) (h : s.recent = []) : s.view fetch = s := by
  simp [State.view, h]

theorem seen_of_recent_nil (s : State) (h : s.recent = []) : s.seen = s := view_of_recent_nil s false h

theorem statusSeen_of_recent_nil (s : State) (h : s.recent = []) : s.statusSeen = s.cp0.status := by
  simp [State.statusSeen, State.pickOld, State.pick, h]

@[simp] theorem view_recent (s : State) (fetch : Bool) : (s.view fetch).recent = [] := by
  unfold State.view
  split
  · assumption
  · rfl

/-- Nothing but the system state differs in what is seen. -/
theorem view_eq (s : State) (fetch : Bool) :
    s.view fetch =
      { s with
        cp0 := (s.view fetch).cp0, tlb := (s.view fetch).tlb, timerLatch := (s.view fetch).timerLatch, recent := [] } := by
  unfold State.view
  split
  · rename_i h; simp [← h]
  · rfl

/-- What is picked is the present value or one of the older ones. -/
theorem pick_mem {α : Type} (s : State) (d : Draw) (present : α) (olds : List α) :
    s.pick d present olds = present ∨ s.pick d present olds ∈ olds := by
  unfold State.pick
  split
  · exact .inl rfl
  · rename_i a b
    have hlt : (s.free d).toNat % ((a :: b).length + 1) < (present :: a :: b).length := by
      simpa using Nat.mod_lt _ (Nat.succ_pos _)
    rw [List.getD_eq_getElem _ _ hlt]
    exact List.mem_cons.1 (List.getElem_mem hlt)

/-- A value seen is the present one or one that was there before a recent write. -/
theorem pickOld_mem {α : Type} (s : State) (d : Draw) (present : α) (old : OldSystem → α) :
    s.pickOld d present old = present ∨ ∃ o ∈ s.recent, s.pickOld d present old = old o := by
  rcases pick_mem s d present (s.recent.map old) with e | e
  · exact .inl e
  · obtain ⟨o, ho, e⟩ := List.mem_map.1 e
    exact .inr ⟨o, ho, e.symm⟩

/-! ### Registers read after a write -/

theorem gpr_zero (s : State) : s.gpr 0#5 = 0#64 := rfl

theorem setGpr_gpr (r k : Reg) (v : Word) (s : State) :
    (setGpr r v s).gpr k = if k = r then (if r = 0#5 then 0#64 else v) else s.gpr k := by
  by_cases h : r = 0#5
  · subst h
    by_cases hk : k = 0#5 <;> simp [setGpr, State.gpr, hk]
  · by_cases hk : k = r
    · subst hk; simp [setGpr, State.gpr, h]
    · have hn : r.toNat ≠ k.toNat := fun e => hk (BitVec.eq_of_toNat_eq e.symm)
      simp only [setGpr, State.gpr, if_neg h, if_neg hk]
      split
      · rfl
      · exact Vector.getElem_set_ne _ _ hn

@[simp] theorem setGpr_gpr_same (r : Reg) (v : Word) (s : State) :
    (setGpr r v s).gpr r = if r = 0#5 then 0#64 else v := by simp [setGpr_gpr]

theorem setGpr_gpr_other (r k : Reg) (v : Word) (s : State) (h : k ≠ r) : (setGpr r v s).gpr k = s.gpr k := by
  simp [setGpr_gpr, h]

theorem setFgr_fgrRead (i k : Reg) (v : Word) (s : State) :
    (setFgr i v s).fgrRead k = if k = i then v else s.fgrRead k := by
  by_cases hk : k = i
  · subst hk; simp [setFgr, State.fgrRead]
  · have hn : i.toNat ≠ k.toNat := fun e => hk (BitVec.eq_of_toNat_eq e.symm)
    simp only [setFgr, State.fgrRead, hk, if_false]
    exact Vector.getElem_set_ne _ _ hn

theorem setFgrLow_fgrRead_other (i k : Reg) (v : BitVec 32) (s : State) (h : k ≠ i) :
    (setFgrLow i v s).fgrRead k = s.fgrRead k := by simp [setFgrLow, setFgr_fgrRead, h]

@[simp] theorem setFgrLow_fpr32 (i : Reg) (v : BitVec 32) (s : State) : (setFgrLow i v s).fpr32 i = v := by
  simp only [State.fpr32, setFgrLow, setFgr_fgrRead, low, if_true]
  exact BitVec.setWidth_append_eq_right

theorem oddOf_ne (i : Reg) (h : i.getLsbD 0 = false) : oddOf i ≠ i := by
  revert h; revert i; decide

theorem setFpr64_fpr64 (i : Reg) (v : Word) (s : State) (h : s.fprOk i = true) : (setFpr64 i v s).fpr64 i = v := by
  by_cases hf : s.fr = true
  · have e : (setFgr i v s).fr = s.fr := rfl
    simp [setFpr64, State.fpr64, hf, e, setFgr_fgrRead]
  · have hf' : s.fr = false := by simpa using hf
    have hi : i.getLsbD 0 = false := by simpa [State.fprOk, hf'] using h
    have e : (setFpr64 i v s).fr = false := by simp [hf']
    have ne := oddOf_ne i hi
    unfold State.fpr64
    rw [if_neg (by simp [e])]
    simp only [setFpr64, hf', Bool.false_eq_true, if_false]
    have a : ∀ (j : Reg) (w : BitVec 32) (t : State), low ((setFgrLow j w t).fgrRead j) = w := setFgrLow_fpr32
    rw [a, setFgrLow_fgrRead_other _ _ _ _ (Ne.symm ne), a]
    ext n hn
    simp only [low, BitVec.getElem_append, BitVec.getElem_setWidth, BitVec.getElem_extractLsb']
    split
    · exact BitVec.getLsbD_eq_getElem hn
    · rw [show 32 + (n - 32) = n by omega]; exact BitVec.getLsbD_eq_getElem hn

theorem setFpr64_fgrRead_other (i k : Reg) (v : Word) (s : State) (h1 : k ≠ i) (h2 : s.fr = true ∨ k ≠ oddOf i) :
    (setFpr64 i v s).fgrRead k = s.fgrRead k := by
  unfold setFpr64
  split
  · simp [setFgr_fgrRead, h1]
  · have h3 : k ≠ oddOf i := h2.resolve_left ‹_›
    rw [setFgrLow_fgrRead_other _ _ _ _ h3, setFgrLow_fgrRead_other _ _ _ _ h1]

end Sys2Proof.Machine
end

