-- ==== Sys2Proof/Laws/Ops.lean ====
section
/-! SUPPORT. For each shared operation, once, everything it can do: cite these instead of unfolding it. -/

namespace Sys2Proof.Machine

set_option Elab.async false

/-! ### How an instruction ends -/

/-- An instruction's next state is what it completed with, or an exception taken in the state it began in. -/
theorem finish_next (s t : State) (r : Except Stop State) :
    finish s r = .next t ↔ r = .ok t ∨ ∃ e, r = .error (.exc e) ∧ t = takeException e s := by
  rcases r with (e | f | q) | u
  · simp [finish, stopOut, eq_comm]
  · simp [finish, stopOut]
  · simp [finish, stopOut]
  · simp [finish]

theorem finish_fault (s : State) (f : Fault) (r : Except Stop State) :
    finish s r = .fault f ↔ r = .error (.fault f) := by
  rcases r with (e | g | q) | u <;> simp [finish, stopOut]

theorem finish_refused (s : State) (q : Refusal) (r : Except Stop State) :
    finish s r = .refused q ↔ r = .error (.refuse q) := by
  rcases r with (e | g | p) | u <;> simp [finish, stopOut]

@[simp] theorem finish_ok (s t : State) : finish s (.ok t) = .next t := rfl
@[simp] theorem finish_exc (s : State) (e : Exc) : finish s (.error (.exc e)) = .next (takeException e s) := rfl
@[simp] theorem finish_faulted (s : State) (f : Fault) : finish s (.error (.fault f)) = .fault f := rfl
@[simp] theorem finish_refusal (s : State) (q : Refusal) : finish s (.error (.refuse q)) = .refused q := rfl

/-! ### Sequences of checks -/

@[simp] theorem bind_ok {α β : Type} (a : α) (f : α → Except Stop β) : (Except.ok a >>= f) = f a := rfl
@[simp] theorem bind_error {α β : Type} (e : Stop) (f : α → Except Stop β) :
    ((Except.error e : Except Stop α) >>= f) = .error e := rfl

/-- A sequence completes when its first part completes and then the rest does. -/
theorem bind_eq_ok {α β : Type} (x : Except Stop α) (f : α → Except Stop β) (b : β) :
    (x >>= f) = .ok b ↔ ∃ a, x = .ok a ∧ f a = .ok b := by
  cases x with
  | error e => simp
  | ok a => simp

/-- A sequence stops where its first part stops, or later. -/
theorem bind_eq_error {α β : Type} (x : Except Stop α) (f : α → Except Stop β) (e : Stop) :
    (x >>= f) = .error e ↔ x = .error e ∨ ∃ a, x = .ok a ∧ f a = .error e := by
  cases x with
  | error e => simp
  | ok a => simp

/-! ### Modes and gates -/

theorem mode_kernel (s : State) (h : KernelMode s) : s.mode = .ok .kernel := by
  unfold State.mode
  rcases h with h | h | h
  · simp [h]
  · simp [h]
  · simp [h]

theorem mode_supervisor (s : State) (h : BelowKernel s) (hk : s.ksu = 1#2) : s.mode = .ok .supervisor := by
  simp [State.mode, h.1, h.2.1, hk]

theorem mode_user (s : State) (h : BelowKernel s) (hk : s.ksu = 2#2) : s.mode = .ok .user := by
  simp [State.mode, h.1, h.2.1, hk]

theorem requireUnit_usable (z : BitVec 2) (s : State) (h : s.cu z.toNat = true) : requireUnit z s = .ok () := by
  simp [requireUnit, h]

theorem requireUnit_kernel (s : State) (h : KernelMode s.seen) : requireUnit 0#2 s = .ok () := by
  unfold requireUnit
  split
  · rfl
  · simp [mode_kernel s.seen h]

theorem requireUnit_cp0 (s : State) (h : Cp0Usable s) : requireUnit 0#2 s = .ok () :=
  h.elim (requireUnit_usable 0#2 s) (requireUnit_kernel s)

theorem requireUnit_unusable (z : BitVec 2) (s : State) (h : s.cu z.toNat = false) (hz : z = 0#2 → BelowKernel s.seen) :
    requireUnit z s = .error (.exc (.coprocessorUnusable z)) := by
  unfold requireUnit
  simp only [h, Bool.false_eq_true, if_false]
  split
  · rename_i h0
    have hb := hz h0
    rcases hb.2.2 with hk | hk
    · simp [mode_supervisor s.seen hb hk]
    · simp [mode_user s.seen hb hk]
  · rfl

/-- What the unit check can answer. -/
theorem requireUnit_cases (z : BitVec 2) (s : State) :
    requireUnit z s = .ok () ∨ requireUnit z s = .error (.exc (.coprocessorUnusable z))
      ∨ requireUnit z s = .error (.fault .undefinedMode) := by
  unfold requireUnit
  split
  · simp
  · split
    · unfold State.mode
      split
      · simp
      · split <;> simp
    · simp

theorem require64_enabled (s : State) (h : Enabled64 s.seen) : require64 s = .ok () := by
  have ⟨hm⟩ : Nonempty (KernelMode s.seen ∨ (BelowKernel s.seen ∧ s.seen.ksu = 1#2 ∧ s.seen.sx = true)
      ∨ (BelowKernel s.seen ∧ s.seen.ksu = 2#2 ∧ s.seen.ux = true)) := by
    refine ⟨?_⟩
    by_cases hk : KernelMode s.seen
    · exact .inl hk
    · have h1 : s.seen.exl = false := by by_contra h; exact hk (.inl (by simpa using h))
      have h2 : s.seen.erl = false := by by_contra h; exact hk (.inr (.inl (by simpa using h)))
      rcases h with h | h | h
      · exact absurd h hk
      · exact .inr (.inl ⟨⟨h1, h2, .inl h.1⟩, h⟩)
      · exact .inr (.inr ⟨⟨h1, h2, .inr h.1⟩, h⟩)
  unfold require64
  rcases hm with h | ⟨hb, hk, hx⟩ | ⟨hb, hk, hx⟩
  · simp [mode_kernel s.seen h]
  · simp [mode_supervisor s.seen hb hk, hx]
  · simp [mode_user s.seen hb hk, hx]

theorem require64_disabled (s : State) (hb : BelowKernel s.seen) (h : ¬Enabled64 s.seen) :
    require64 s = .error (.exc .reservedInstruction) := by
  unfold require64
  rcases hb.2.2 with hk | hk
  · have : s.seen.sx = false := by by_contra hx; exact h (.inr (.inl ⟨hk, by simpa using hx⟩))
    simp [mode_supervisor s.seen hb hk, this]
  · have : s.seen.ux = false := by by_contra hx; exact h (.inr (.inr ⟨hk, by simpa using hx⟩))
    simp [mode_user s.seen hb hk, this]

/-- What the check of 64-bit operations can answer. -/
theorem require64_cases (s : State) :
    require64 s = .ok () ∨ require64 s = .error (.exc .reservedInstruction)
      ∨ require64 s = .error (.fault .undefinedMode) := by
  unfold require64 State.mode
  split
  · simp
  · split
    · simp
    · by_cases h : s.seen.sx = true <;> simp [h]
    · by_cases h : s.seen.ux = true <;> simp [h]
    · simp

theorem requireMips4_enabled (s : State) (h : s.cu 3 = true) : requireMips4 s = .ok () := by simp [requireMips4, h]

theorem requireMips4_user (s : State) (h : s.cu 3 = false) (hb : BelowKernel s.seen) (hk : s.seen.ksu = 2#2) :
    requireMips4 s = .error (.exc .reservedInstruction) := by simp [requireMips4, h, mode_user s.seen hb hk]

theorem requireMips4_above (s : State) (h : s.cu 3 = false) (hm : KernelMode s.seen ∨ (BelowKernel s.seen ∧ s.seen.ksu = 1#2)) :
    requireMips4 s = .error (.refuse .mips4NotEnabled) := by
  rcases hm with hk | ⟨hb, hk⟩
  · simp [requireMips4, h, mode_kernel s.seen hk]
  · simp [requireMips4, h, mode_supervisor s.seen hb hk]

/-- What the MIPS IV check can answer. -/
theorem requireMips4_cases (s : State) :
    requireMips4 s = .ok () ∨ requireMips4 s = .error (.exc .reservedInstruction)
      ∨ requireMips4 s = .error (.refuse .mips4NotEnabled) ∨ requireMips4 s = .error (.fault .undefinedMode) := by
  unfold requireMips4 State.mode
  split
  · simp
  · split
    · simp
    · split <;> simp

theorem requireCc_ok (cc : BitVec 3) (s : State) (h : cc = 0#3 ∨ s.cu 3 = true) : requireCc cc s = .ok () := by
  unfold requireCc
  split
  · rfl
  · exact requireMips4_enabled s (h.resolve_left ‹_›)

theorem requireNoSlot_ok (s : State) (h : s.next = none) : requireNoSlot s = .ok () := by
  simp [requireNoSlot, State.inDelaySlot, h]

theorem requireNoSlot_slot (s : State) (h : s.next ≠ none) : requireNoSlot s = .error (.refuse .branchInDelaySlot) := by
  have : s.inDelaySlot = true := by
    unfold State.inDelaySlot
    cases hn : s.next with
    | none => exact absurd hn h
    | some x => rfl
  simp [requireNoSlot, this]

theorem requireFprs_ok (regs : List Reg) (s : State) (h : ∀ i ∈ regs, s.fprOk i = true) :
    requireFprs regs s = .ok () := by
  induction regs with
  | nil => rfl
  | cons i is ih => simp [requireFprs, requireFpr, h i (by simp), ih fun j hj => h j (by simp [hj])]

theorem fpGate_ready (s : State) (regs : List Reg) (h : FpReady s regs) : fpGate regs s = .ok () := by
  simp [fpGate, requireUnit_usable 1#2 s h.1, requireFprs_ok regs s h.2]

theorem fpGate4_ready (s : State) (regs : List Reg) (h : FpReady s regs) (h4 : s.cu 3 = true) :
    fpGate4 regs s = .ok () := by
  simp [fpGate4, requireUnit_usable 1#2 s h.1, requireMips4_enabled s h4, requireFprs_ok regs s h.2]

/-- What an FPU operation can answer: what its gate stops with, the trap, or the delivery. -/
theorem fpRun_next (gate : Except Stop Unit) (s t : State) (c : BitVec 6) (write : State → State)
    (h : fpRun gate s c write = .next t) :
    (∃ e, gate = .error (.exc e) ∧ t = takeException e s)
    ∨ (gate = .ok () ∧ fcrTraps c s = true ∧ t = takeException .floatingPoint (setFcrCause c s))
    ∨ (gate = .ok () ∧ fcrTraps c s = false ∧ t = advance (write (raiseFlags c (setFcrCause c s)))) := by
  rcases gate with (e | f | q) | ⟨⟩
  · exact .inl ⟨e, rfl, by simpa [fpRun, stopOut, eq_comm] using h⟩
  · simp [fpRun, stopOut] at h
  · simp [fpRun, stopOut] at h
  · unfold fpRun fpFinish at h
    by_cases ht : fcrTraps c s = true
    · simp only [ht, if_true, Host.Outcome.next.injEq] at h
      exact .inr (.inl ⟨rfl, ht, h.symm⟩)
    · simp only [ht, if_false, Host.Outcome.next.injEq, Bool.false_eq_true] at h
      exact .inr (.inr ⟨rfl, by simpa using ht, h.symm⟩)

/-! ### Memory accesses -/

theorem requireAligned_ok (store : Bool) (va : Word) (n : Nat) (h : va.toNat % n = 0) :
    requireAligned store va n = .ok () := by simp [requireAligned, h]

theorem requireAligned_error (store : Bool) (va : Word) (n : Nat) (h : va.toNat % n ≠ 0) :
    requireAligned store va n = .error (.exc (.addressError store va)) := by simp [requireAligned, h]

theorem requireCaches_ok (attr : BitVec 3) (s : State) (h : s.cacheReady attr = true) :
    requireCaches attr s = .ok () := by simp [requireCaches, h]

/-- EC and bits 24:0 of a CacheErr that a Cache Error loads are zero (10_state R91). -/
theorem cacheErrWord_reserved (e : CacheError) : cacheErrWord e &&& 0x41FFFFFF#32 = 0#32 := by
  obtain ⟨er, ed, et, es, ee, eb⟩ := e
  cases er <;> cases ed <;> cases et <;> cases es <;> cases ee <;> cases eb <;> rfl

/-- A write of Config keeps EC, which only the hardware sets (10_state R86). -/
theorem writeConfig_ec (v : BitVec 32) (s : State) :
    (writeConfig v s).cp0.config.extractLsb' 28 3 = s.cp0.config.extractLsb' 28 3 := by
  apply BitVec.eq_of_getLsbD_eq
  intro i hi
  have : i = 0 ∨ i = 1 ∨ i = 2 := by omega
  rcases this with rfl | rfl | rfl <;> simp [writeConfig, maskInto]

/-- A cold Reset keeps Config.EC, and leaves EC and the reserved bits of CacheErr zero (10_state R86, R91; log 17). -/
theorem coldCp0_ec (s : State) :
    s.coldCp0.config.extractLsb' 28 3 = s.cp0.config.extractLsb' 28 3 := by
  apply BitVec.eq_of_getLsbD_eq
  intro i hi
  have : i = 0 ∨ i = 1 ∨ i = 2 := by omega
  rcases this with rfl | rfl | rfl <;> simp [State.coldCp0, State.freeCp0, low]

theorem coldCp0_cacheErr_reserved (s : State) : s.coldCp0.cacheErr &&& 0x41FFFFFF#32 = 0#32 := by
  apply BitVec.eq_of_toNat_eq
  simp [State.coldCp0, State.freeCp0, low, Nat.and_assoc]

theorem fetchCacheError_ok (s : State) (h : s.pins.fetchCacheError = none ∨ s.de = true) :
    fetchCacheError s = .ok () := by
  unfold fetchCacheError
  rcases h with h | h
  · simp [h]
  · cases s.pins.fetchCacheError <;> simp [h]

theorem fetchCacheError_taken (s : State) (p : ParityError) (alsoData : Bool)
    (h : s.pins.fetchCacheError = some (p, alsoData)) (hd : s.de = false) :
    fetchCacheError s = .error (.exc (.cacheError (p.onFetch alsoData))) := by simp [fetchCacheError, h, hd]

theorem dataCacheError_ok (s : State) (h : NoCacheError s) : dataCacheError s = .ok () := by
  unfold dataCacheError
  rcases h with h | h
  · simp [h]
  · cases s.pins.dataCacheError <;> simp [h]

theorem dataCacheError_taken (s : State) (p : ParityError) (h : s.pins.dataCacheError = some p) (hd : s.de = false) :
    dataCacheError s = .error (.exc (.cacheError p.onData)) := by simp [dataCacheError, h, hd]

/-- What a read of physical memory can answer: the field, or what a device gives to an uncached load. -/
theorem physRead_ok (s : State) (attr : BitVec 3) (pa : PAddr) (n : Nat) (v : Word)
    (h : physRead s attr pa n = .ok v) :
    s.cacheReady attr = true ∧ s.pins.dataBusError = false
      ∧ (((regionAt s.physMap pa.toNat = .ram ∨ regionAt s.physMap pa.toNat = .rom) ∧ v = s.fieldAt pa.toNat n)
        ∨ (regionAt s.physMap pa.toNat = .device ∧ attr = 2#3
          ∧ v = BitVec.ofNat 64 ((s.free (.device false)).toNat % 256 ^ n))) := by
  unfold physRead at h
  obtain ⟨⟨⟩, hc, h⟩ := (bind_eq_ok _ _ _).1 h
  obtain ⟨⟨⟩, -, h⟩ := (bind_eq_ok _ _ _).1 h
  have hc : s.cacheReady attr = true := by
    by_contra hn
    simp [requireCaches, hn] at hc
  cases hb : s.pins.dataBusError with
  | true => simp [hb] at h
  | false =>
    simp only [hb, Bool.false_eq_true, if_false] at h
    cases hr : regionAt s.physMap pa.toNat <;> simp only [hr] at h
    · cases h; simp [hc]
    · cases h; simp [hc]
    · by_cases ha : attr = 2#3
      · simp only [ha, if_true, Except.ok.injEq] at h
        exact ⟨hc, rfl, .inr ⟨rfl, ha, h.symm⟩⟩
      · simp [ha] at h
    · cases h

theorem physRead_answers (s : State) (attr : BitVec 3) (pa : PAddr) (n : Nat) (ha : s.cacheReady attr = true)
    (h : Answers s pa.toNat) : physRead s attr pa n = .ok (s.fieldAt pa.toNat n) := by
  obtain ⟨hr, hc, hb⟩ := h
  unfold physRead
  rcases hr with hr | hr <;> simp [requireCaches_ok attr s ha, dataCacheError_ok s hc, hb, hr]

theorem physRead_device (s : State) (pa : PAddr) (n : Nat) (hr : regionAt s.physMap pa.toNat = .device)
    (hc : NoCacheError s) (hb : s.pins.dataBusError = false) :
    physRead s 2#3 pa n = .ok (BitVec.ofNat 64 ((s.free (.device false)).toNat % 256 ^ n)) := by
  simp [physRead, requireCaches, State.cacheReady, dataCacheError_ok s hc, hb, hr]

/-- What a write of physical memory can leave: nothing changed where nothing or ROM answers, the field written in RAM,
a store in the write buffer for a device. -/
inductive Written (s : State) (attr : BitVec 3) (pa : PAddr) (n : Nat) (v : Word) : State → Prop
  | dropped : regionAt s.physMap pa.toNat = .none ∨ regionAt s.physMap pa.toNat = .rom → Written s attr pa n v s
  | ram : regionAt s.physMap pa.toNat = .ram → Written s attr pa n v (s.setField attr pa.toNat n v)
  | device : regionAt s.physMap pa.toNat = .device → attr = 2#3 → Written s attr pa n v (deviceStore pa.toNat n s)

/-- What a write of physical memory can answer. -/
theorem physWrite_ok (s t : State) (attr : BitVec 3) (pa : PAddr) (n : Nat) (v : Word)
    (h : physWrite s attr pa n v = .ok t) : Written s attr pa n v t := by
  unfold physWrite at h
  obtain ⟨⟨⟩, -, h⟩ := (bind_eq_ok _ _ _).1 h
  obtain ⟨⟨⟩, -, h⟩ := (bind_eq_ok _ _ _).1 h
  cases hr : regionAt s.physMap pa.toNat <;> simp only [hr] at h
  · cases h; exact .ram hr
  · cases h; exact .dropped (.inr hr)
  · by_cases ha : attr = 2#3
    · simp only [ha, if_true, Except.ok.injEq] at h
      exact h ▸ .device hr ha
    · simp [ha] at h
  · cases h; exact .dropped (.inl hr)

theorem physWrite_ram (s : State) (attr : BitVec 3) (pa : PAddr) (n : Nat) (v : Word)
    (ha : s.cacheReady attr = true) (hr : regionAt s.physMap pa.toNat = .ram) (hc : NoCacheError s) :
    physWrite s attr pa n v = .ok (s.setField attr pa.toNat n v) := by
  simp [physWrite, requireCaches_ok attr s ha, dataCacheError_ok s hc, hr]

theorem physWrite_device (s : State) (pa : PAddr) (n : Nat) (v : Word)
    (hr : regionAt s.physMap pa.toNat = .device) (hc : NoCacheError s) :
    physWrite s 2#3 pa n v = .ok (deviceStore pa.toNat n s) := by
  simp [physWrite, requireCaches, State.cacheReady, dataCacheError_ok s hc, hr]

theorem physWrite_dropped (s : State) (attr : BitVec 3) (pa : PAddr) (n : Nat) (v : Word)
    (ha : s.cacheReady attr = true) (hr : regionAt s.physMap pa.toNat = .none ∨ regionAt s.physMap pa.toNat = .rom)
    (hc : NoCacheError s) : physWrite s attr pa n v = .ok s := by
  rcases hr with hr | hr <;> simp [physWrite, requireCaches_ok attr s ha, dataCacheError_ok s hc, hr]

/-- What a load leaves beside its value: nothing where memory answers. -/
theorem loaded_answers (s : State) (pa : PAddr) (h : Answers s pa.toNat) : loaded pa s = s := by
  unfold loaded
  rcases h.1 with hr | hr <;> simp [hr]

theorem loaded_device (s : State) (pa : PAddr) (h : regionAt s.physMap pa.toNat = .device) : loaded pa s = drain s := by
  simp [loaded, h]

theorem drained_drain (s : State) : Drained (drain s) := ⟨rfl, rfl⟩

/-- What a load of n bytes can answer. -/
theorem memLoad_ok (s : State) (va : Word) (n : Nat) (r : Loaded) (h : memLoad s va n = .ok r) :
    va.toNat % n = 0 ∧ r.count = n ∧ translate s.seen .load va = .ok (r.pa, r.attr)
      ∧ physRead s r.attr r.pa n = .ok r.value := by
  unfold memLoad at h
  obtain ⟨⟨⟩, ha, h⟩ := (bind_eq_ok _ _ _).1 h
  obtain ⟨⟨p, attr⟩, ht, h⟩ := (bind_eq_ok _ _ _).1 h
  obtain ⟨w, hw, h⟩ := (bind_eq_ok _ _ _).1 h
  cases h
  refine ⟨?_, rfl, ht, hw⟩
  by_contra hn
  simp [requireAligned, hn] at ha

theorem memLoad_of_loads (s : State) (va : Word) (n : Nat) (pa : PAddr) (h : Loads s va n pa) :
    ∃ attr, memLoad s va n = .ok { count := n, pa := pa, attr := attr, value := s.fieldAt pa.toNat n } := by
  obtain ⟨attr, ht, hc⟩ := h.translated
  exact ⟨attr, by simp [memLoad, requireAligned_ok _ _ _ h.aligned, ht, physRead_answers s attr pa n hc h.answers]⟩

theorem memLoad_misaligned (s : State) (va : Word) (n : Nat) (h : va.toNat % n ≠ 0) :
    memLoad s va n = .error (.exc (.addressError false va)) := by
  simp [memLoad, requireAligned_error _ _ _ h]

/-- What a store of n bytes can answer. -/
theorem memStore_ok (s t : State) (va : Word) (n : Nat) (v : Word) (h : memStore s va n v = .ok t) :
    va.toNat % n = 0 ∧ ∃ pa attr, translate s.seen .store va = .ok (pa, attr) ∧ Written s attr pa n v t := by
  unfold memStore at h
  obtain ⟨⟨⟩, ha, h⟩ := (bind_eq_ok _ _ _).1 h
  obtain ⟨⟨p, attr⟩, ht, h⟩ := (bind_eq_ok _ _ _).1 h
  refine ⟨?_, p, attr, ht, physWrite_ok s t attr p n v h⟩
  by_contra hn
  simp [requireAligned, hn] at ha

theorem memStore_of_stores (s : State) (va : Word) (n : Nat) (v : Word) (pa : PAddr) (attr : BitVec 3)
    (h : Stores s va n pa attr) : memStore s va n v = .ok (s.setField attr pa.toNat n v) := by
  simp [memStore, requireAligned_ok _ _ _ h.aligned, h.translated.1,
    physWrite_ram s attr pa n v h.translated.2 h.answers.1 h.answers.2]

theorem memStore_misaligned (s : State) (va : Word) (n : Nat) (v : Word) (h : va.toNat % n ≠ 0) :
    memStore s va n v = .error (.exc (.addressError true va)) := by
  simp [memStore, requireAligned_error _ _ _ h]

/-- What a left or right load can answer. -/
theorem partLoad_ok (s : State) (left : Bool) (va : Word) (w : Nat) (r : Loaded)
    (h : partLoad s left va w = .ok r) :
    ∃ pa, translate s.seen .load va = .ok (pa, r.attr) ∧ r.count = (partSpan s left w (va.toNat % w)).1
      ∧ r.pa = pa - BitVec.ofNat 36 (partSpan s left w (va.toNat % w)).2
      ∧ physRead s r.attr r.pa r.count = .ok r.value := by
  unfold partLoad at h
  obtain ⟨⟨p, attr⟩, ht, h⟩ := (bind_eq_ok _ _ _).1 h
  obtain ⟨v, hv, h⟩ := (bind_eq_ok _ _ _).1 h
  cases h
  exact ⟨p, ht, rfl, rfl, hv⟩

theorem partLoad_of_loads (s : State) (left : Bool) (va : Word) (w : Nat) (pa : PAddr)
    (h : LoadsPart s va pa (partSpan s left w (va.toNat % w)).2) :
    ∃ r : Loaded, partLoad s left va w = .ok r ∧ r.count = (partSpan s left w (va.toNat % w)).1
      ∧ r.value = s.fieldAt (pa - BitVec.ofNat 36 (partSpan s left w (va.toNat % w)).2).toNat r.count
      ∧ loaded r.pa s = s := by
  obtain ⟨attr, ht, hc⟩ := h.translated
  simp [partLoad, ht, physRead_answers s attr _ _ hc h.answers, loaded_answers s _ h.answers]

/-- What a left or right store can answer. -/
theorem partStore_ok (s t : State) (left : Bool) (va : Word) (w : Nat) (v : Nat → Word)
    (h : partStore s left va w v = .ok t) :
    ∃ pa attr, translate s.seen .store va = .ok (pa, attr)
      ∧ Written s attr (pa - BitVec.ofNat 36 (partSpan s left w (va.toNat % w)).2)
          (partSpan s left w (va.toNat % w)).1 (v (partSpan s left w (va.toNat % w)).1) t := by
  unfold partStore at h
  obtain ⟨⟨p, attr⟩, ht, h⟩ := (bind_eq_ok _ _ _).1 h
  exact ⟨p, attr, ht, physWrite_ok s t attr _ _ _ h⟩

theorem partStore_of_stores (s : State) (left : Bool) (va : Word) (w : Nat) (v : Nat → Word) (pa : PAddr)
    (attr : BitVec 3) (h : StoresPart s va pa (partSpan s left w (va.toNat % w)).2 attr) :
    partStore s left va w v = .ok (s.setField attr
      (pa - BitVec.ofNat 36 (partSpan s left w (va.toNat % w)).2).toNat (partSpan s left w (va.toNat % w)).1
      (v (partSpan s left w (va.toNat % w)).1)) := by
  simp [partStore, h.translated.1, physWrite_ram s attr _ _ _ h.translated.2 h.answers.1 h.answers.2]

/-! ### What a store leaves of its bytes as they were (20_memory R191, R194) -/

theorem oldBytes_cached (s : State) (c : BitVec 3) (a : Nat) (h : c ≠ 2#3) : s.oldBytes c a = staleOlds s.stale a := by
  simp [State.oldBytes, h]

theorem mem_oldBytes_uncached (s : State) (a : Nat) (v : Byte) : v ∈ s.oldBytes 2#3 a ↔ (a, v) ∈ s.inFlight := by
  simp only [State.oldBytes, if_true, List.mem_map, List.mem_filter, beq_iff_eq]
  constructor
  · rintro ⟨⟨b, w⟩, ⟨h, rfl⟩, rfl⟩; exact h
  · exact fun h => ⟨(a, v), ⟨h, rfl⟩, rfl⟩

theorem mem_contents (m : List Host.Cell) (as : List Nat) (c : Host.Cell) :
    c ∈ contents m as ↔ c.1 ∈ as ∧ c.2 = memRead m c.1 := by
  simp only [contents, List.mem_map]
  constructor
  · rintro ⟨a, h, rfl⟩; exact ⟨h, rfl⟩
  · exact fun h => ⟨c.1, h.1, Prod.ext rfl h.2.symm⟩

/-- What has left the buffer or grown older. -/
theorem agedBuffer_eq (wb : List Buffered) :
    agedBuffer wb = (wb.filter fun e => decide (e.after < 3)).map fun e => { e with after := e.after + 1 } := by
  simp only [agedBuffer, List.filter_map]
  congr 2
  funext e
  simp [show e.after + 1 < 4 ↔ e.after < 3 by omega]

theorem agedBuffer_followed (s : State) : agedBuffer s.writeBuffer = s.bufferFollowed := agedBuffer_eq s.writeBuffer

/-- Which stores a device may not have seen when one more has entered the write buffer. -/
theorem unseen_pushStore (bytes : List Nat) (olds : List Host.Cell) (s : State) :
    Unseen s (pushStore bytes olds s) none := by
  intro b
  simp [pushStore]

/-- A store to a device is in the write buffer and among those it may not have seen. -/
theorem posts_deviceStore (s : State) (pa n : Nat) : Posts s (deviceStore pa n s) pa n := by
  refine ⟨by simp [agedBuffer_followed], fun b => ?_⟩
  have h := unseen_pushStore (s.fieldBytes pa n) [] s b
  simp only [deviceStore, List.mem_cons, h, Option.some.injEq]
  simp [eq_comm]

/-- Every store of a field in memory is on record. -/
theorem setField_records (s : State) (attr : BitVec 3) (pa n : Nat) (v : Word) :
    Records s (s.setField attr pa n v) attr pa n := by
  have buffered : attr ≠ 3#3 → ∀ c, c ∈ (s.setField attr pa n v).inFlight ↔
      (c ∈ s.unwritten ∨ (c.1 ∈ s.fieldBytes pa n ∧ c.2 = memRead s.mem c.1)
        ∨ ∃ b ∈ agedBuffer s.writeBuffer, c ∈ b.olds) := by
    intro h c
    simp only [State.inFlight, State.setField, recordStore, h, if_false, pushStore, List.flatMap_cons, List.mem_append,
      List.mem_filter, mem_contents, List.mem_flatMap, List.contains_iff_mem, Bool.not_eq_true']
    by_cases hc : c.1 ∈ s.fieldBytes pa n
    · simp [hc]; tauto
    · simp [hc]
  have dirty : attr = 3#3 → ∀ c, c ∈ (s.setField attr pa n v).inFlight ↔
      ((c.1 ∈ s.fieldBytes pa n ∧ c.2 = memRead s.mem c.1) ∨ c ∈ s.inFlight) := by
    intro h c
    simp only [State.inFlight, State.setField, recordStore, h, if_true, List.mem_append, List.mem_union_iff, mem_contents]
    tauto
  constructor
  · intro c a w hc
    rw [oldBytes_cached _ _ _ hc, oldBytes_cached _ _ _ hc, setField_stale, mem_staleOlds_staleMarkAll]
    rfl
  · intro e he ha
    exact held_staleMarkAll s.lane s.mem s.stale pa n (fun _ => False) (fun _ _ h => h.elim) e
      (by simpa using he) (.inr ha)
  · intro a ha
    rw [mem_oldBytes_uncached]
    by_cases h : attr = 3#3
    · exact (dirty h _).2 (.inl ⟨ha, rfl⟩)
    · exact (buffered h _).2 (.inr (.inl ⟨ha, rfl⟩))
  · rintro ⟨a, w⟩ hu
    rw [mem_oldBytes_uncached]
    by_cases h : attr = 3#3
    · exact (dirty h _).2 (.inr (List.mem_append_left _ hu))
    · exact (buffered h _).2 (.inl hu)
  · intro a w ha hw
    rw [mem_oldBytes_uncached] at hw ⊢
    by_cases h : attr = 3#3
    · exact ((dirty h _).1 hw).resolve_left fun hx => ha hx.1
    · rcases (buffered h _).1 hw with hu | hx | ⟨b, hb, hw⟩
      · exact List.mem_append_left _ hu
      · exact absurd hx.1 ha
      · rw [agedBuffer_eq] at hb
        obtain ⟨e, he, rfl⟩ := List.mem_map.1 hb
        exact List.mem_append_right _ (List.mem_flatMap.2 ⟨e, (List.mem_filter.1 he).1, hw⟩)
  · intro h
    refine ⟨fun l => ?_, ?_, ?_⟩
    · simp [h, or_comm, lineOf]
    · simp [State.setField, recordStore, h]
    · simp [State.setField, recordStore, h]
  · intro h
    let olds := contents s.mem (s.fieldBytes pa n)
      ++ s.unwritten.filter fun c => (s.fieldBytes pa n).contains c.1
    refine ⟨by simp [h], ?_, { bytes := s.fieldBytes pa n, olds := olds, after := 0 }, rfl, rfl, ?_⟩
    · intro b
      simp only [State.setField, recordStore, h, if_false]
      exact unseen_pushStore _ _ _ b
    · rw [← agedBuffer_followed]
      simp only [State.setField, recordStore, h, if_false, pushStore_writeBuffer, olds]

/-! ### HI and LO -/

theorem requireHi_ok (s : State) (h : NoHiLoHazard s) : requireHi s = .ok () := by
  rcases h with h | h <;> simp [requireHi, h]

theorem requireLo_ok (s : State) (h : NoHiLoHazard s) : requireLo s = .ok () := by
  rcases h with h | h <;> simp [requireLo, h]

theorem requireHiLo_ok (s : State) (h : NoHiLoHazard s) : requireHiLo s = .ok () := by
  simp [requireHiLo, requireHi_ok s h, requireLo_ok s h]

/-- What the HI/LO hazard check can answer. -/
theorem requireHiLo_cases (s : State) :
    requireHiLo s = .ok () ∨ requireHiLo s = .error (.refuse .hiLoHazard) := by
  unfold requireHiLo requireHi requireLo
  split
  · simp
  · split <;> simp

@[simp] theorem oldBytes_accessed (s : State) (c : BitVec 3) (a : Nat) : (accessed s).oldBytes c a = s.oldBytes c a := by
  simp [State.oldBytes, State.inFlight]

/-- A completed store leaves what the store of its field left on record. -/
theorem records_accessed (s t : State) (attr : BitVec 3) (pa n : Nat) (h : Records s t attr pa n) :
    Records s (accessed t) attr pa n where
  cached := by simpa using h.cached
  held := by simpa using h.held
  uncached := by simpa using h.uncached
  kept := by simpa using h.kept
  others := by simpa using h.others
  back := by simpa using h.back
  through := by simpa [Unseen] using h.through

/-! ### The TLB (70_reset_and_hazards R704) -/

theorem tlbReady_iff (s : State) : s.tlbReady = true ↔ ∀ n : Fin 48, s.tlb[n].written = true := by
  unfold State.tlbReady
  rw [List.all_eq_true]
  constructor
  · intro h n; exact h _ (by simp)
  · intro h e he
    obtain ⟨i, hi, rfl⟩ := List.getElem_of_mem he
    simpa using h ⟨i, by simpa using hi⟩

/-! ### One step -/

/-- What a step can do: an event, or the fetched word executed, or the exception of the fetch; then time passes. -/
theorem step_next (s t : State) (h : step s = .next t) :
    ∃ u, t = tick s u ∧ (takeEvent s = some u
      ∨ (takeEvent s = none ∧ ∃ w v, fetch s = .ok w ∧ execWord w s = .next v ∧ u = ageRecent v)
      ∨ (takeEvent s = none ∧ ∃ e, fetch s = .error (.exc e) ∧ u = takeException e s)) := by
  unfold step stepCore at h
  cases he : takeEvent s with
  | some u => exact ⟨u, by simpa [he, tickOut, eq_comm] using h, .inl rfl⟩
  | none =>
    simp only [he] at h
    cases hf : fetch s with
    | ok w =>
      simp only [hf] at h
      cases hx : execWord w s with
      | next v =>
        exact ⟨ageRecent v, by simpa [hx, ageOut, tickOut, eq_comm] using h, .inr (.inl ⟨rfl, w, v, rfl, hx, rfl⟩)⟩
      | fault f => simp [hx, ageOut, tickOut] at h
      | refused q => simp [hx, ageOut, tickOut] at h
    | error st =>
      simp only [hf] at h
      rcases st with e | f | q
      · exact ⟨takeException e s, by simpa [stopOut, tickOut, eq_comm] using h, .inr (.inr ⟨rfl, e, rfl, rfl⟩)⟩
      · simp [stopOut, tickOut] at h
      · simp [stopOut, tickOut] at h

/-! ### What advancing does -/

/-- An instruction that only advances keeps everything and steps on. -/
theorem stepsOn_advance (s : State) : StepsOn s (advance s) where
  slot x h := by simp [advance, h]
  word h hp := by simp only [advance, h, State.seqPc, if_pos hp]
  next := advance_next s

theorem sameWindow_refl (s : State) : SameWindow s s := rfl

/-- A write of CP0 that is seen at once keeps the older system states, their CP0 registers apart. -/
theorem sameWindow_onCp0 (f : Cp0 → Cp0) (s : State) : SameWindow s (onCp0 f s) := by
  simp [SameWindow, onCp0, List.map_map, Function.comp_def]

theorem changesCp0_onCp0 (f : Cp0 → Cp0) (s : State) : ChangesCp0 f s (onCp0 f s) := ⟨rfl, rfl⟩

/-- What an instruction that writes CP0 or TLB state leaves for the next ones to see. -/
theorem opensWindow_issue (s t : State) (h : t.recent = s.recent) : OpensWindow s (issue s t) := by
  unfold OpensWindow issue
  split <;> simp [h]

theorem link_breakLink (s : State) : (breakLink s).link = s.linkBroken := rfl

theorem link_endLink (s : State) : (endLink s).link = s.noLink := rfl

/-- The loop covers a store conditional exactly where the fairness of SC does. -/
theorem fairFor_iff (s : State) (attr : BitVec 3) (pa : PAddr) : s.fairFor attr pa = true ↔ Covered s attr pa := by
  simp [State.fairFor, Covered, and_assoc, and_comm, and_left_comm]

theorem keeps_refl (w : Touched) (s : State) : Keeps w s s where
  gprs _ _ := rfl
  fgrs _ _ := rfl
  memory _ _ := rfl
  hiLo _ := ⟨rfl, rfl, rfl, rfl⟩
  fcr0 := rfl
  fcr31 _ := rfl
  cp0 _ := rfl
  latch _ := rfl
  hold _ := rfl
  tlb _ := rfl
  window _ := ⟨rfl, fun _ => rfl⟩
  caches _ := rfl
  llbit _ := rfl
  link _ := rfl
  stores _ := ⟨rfl, rfl, rfl⟩
  buffer _ := ⟨rfl, rfl⟩
  time := ⟨rfl, rfl⟩
  board := ⟨rfl, rfl, rfl, rfl, rfl, rfl, rfl⟩

theorem keeps_advance (w : Touched) (s t : State) (h : Keeps w s t) : Keeps w s (advance t) where
  gprs r hr := by simpa using h.gprs r hr
  fgrs i hi := by simpa using h.fgrs i hi
  memory a ha := by simpa using h.memory a ha
  hiLo hw := by simpa using h.hiLo hw
  fcr0 := by simpa using h.fcr0
  fcr31 hw := by simpa using h.fcr31 hw
  cp0 hw := by simpa using h.cp0 hw
  latch hw := by simpa using h.latch hw
  hold hw := by simpa using h.hold hw
  tlb hw := by simpa using h.tlb hw
  window hw := by simpa [SameWindow] using h.window hw
  caches hw := by simpa using h.caches hw
  llbit hw := by simpa using h.llbit hw
  link hw := by simpa using h.link hw
  stores hw := by simpa using h.stores hw
  buffer hw := by simpa using h.buffer hw
  time := by simpa using h.time
  board := by simpa using h.board

/-- The end of a loop of LL and SC changes nothing else. -/
theorem keeps_breakLink (w : Touched) (s t : State) (h : Keeps w s t) : Keeps { w with link := true } s (breakLink t) :=
  { h with
    gprs := fun r hr => by simpa using h.gprs r hr
    fgrs := fun i hi => by simpa using h.fgrs i hi
    link := fun hw => nomatch hw }

/-- A completed load or store advances as other instructions do, and ends the loop of LL and SC it comes into. -/
theorem keeps_accessed (w : Touched) (s t : State) (h : Keeps w s t) : Keeps { w with link := true } s (accessed t) :=
  keeps_advance _ s (breakLink t) (keeps_breakLink w s t h)

theorem link_accessed (s t : State) (hl : t.link = s.link) (hd : t.draws = s.draws) :
    (accessed t).link = s.linkBroken := by
  simp [accessed, breakLink, State.linkBroken, State.noLink, hl, hd]

/-- A load from a device drains the write buffer and changes nothing else. -/
theorem keeps_drain (w : Touched) (s t : State) (h : Keeps w s t) : Keeps { w with buffer := true } s (drain t) :=
  { h with
    gprs := fun r hr => by simpa using h.gprs r hr
    fgrs := fun i hi => by simpa using h.fgrs i hi
    buffer := fun hw => nomatch hw }

theorem stepsOn_accessed (s : State) : StepsOn s (accessed s) :=
  ⟨fun x h => (stepsOn_advance (breakLink s)).slot x h, fun h hp => (stepsOn_advance (breakLink s)).word h hp,
    (stepsOn_advance (breakLink s)).next⟩

theorem keeps_setGpr (r : Reg) (v : Word) (s : State) : Keeps { gprs := [r] } s (setGpr r v s) where
  gprs k hk := setGpr_gpr_other r k v s (by simpa using hk)
  fgrs i _ := by simp
  memory a _ := by simp
  hiLo _ := by simp
  fcr0 := by simp
  fcr31 _ := by simp
  cp0 _ := by simp
  latch _ := by simp
  hold _ := by simp
  tlb _ := by simp
  window _ := by simp [SameWindow]
  caches _ := by simp
  llbit _ := by simp
  link _ := by simp
  stores _ := by simp
  buffer _ := by simp
  time := by simp
  board := by simp

/-- Writing one register and advancing is the whole effect of most integer instructions. -/
theorem writesGpr_of (i : Instr) (s : State) (d : Reg) (v : Word) (h : exec i s = .next (advance (setGpr d v s))) :
    WritesGpr i s d v := by
  refine ⟨_, h, by simp, keeps_advance _ _ _ (keeps_setGpr d v s), ?_⟩
  have e := stepsOn_advance (setGpr d v s)
  exact ⟨fun x hx => e.slot x (by simpa using hx), fun hn hp => by
    simpa using e.word (by simpa using hn) (by simpa using hp), e.next⟩

end Sys2Proof.Machine
end

