-- ==== Sys2Proof/Laws/PerInstr.lean ====
section
/-! SUPPORT. One lemma per instruction: reading the fields its encoding writes gives the instruction back, with
every operand at every value. -/

namespace Sys2Proof.Laws

set_option Elab.async false

/-- The pieces of an immediate joined again. -/
theorem imm_join (v : BitVec 16) : v.extractLsb' 11 5 ++ v.extractLsb' 6 5 ++ v.extractLsb' 0 6 = v := by
  ext n hn
  simp only [BitVec.getElem_append, BitVec.getElem_extractLsb']
  split
  · rw [Nat.zero_add, BitVec.getLsbD_eq_getElem]
  · split
    · rw [show 6 + (n - 6) = n by omega, BitVec.getLsbD_eq_getElem]
    · rw [show 11 + (n - 6 - 5) = n by omega, BitVec.getLsbD_eq_getElem]

/-- The pieces of a jump target joined again. -/
theorem target_join (v : BitVec 26) :
    v.extractLsb' 21 5 ++ v.extractLsb' 16 5 ++ v.extractLsb' 11 5 ++ v.extractLsb' 6 5 ++ v.extractLsb' 0 6 = v := by
  ext n hn
  simp only [BitVec.getElem_append, BitVec.getElem_extractLsb']
  split
  · rw [Nat.zero_add, BitVec.getLsbD_eq_getElem]
  · split
    · rw [show 6 + (n - 6) = n by omega, BitVec.getLsbD_eq_getElem]
    · split
      · rw [show 11 + (n - 6 - 5) = n by omega, BitVec.getLsbD_eq_getElem]
      · split
        · rw [show 16 + (n - 6 - 5 - 5) = n by omega, BitVec.getLsbD_eq_getElem]
        · rw [show 21 + (n - 6 - 5 - 5 - 5) = n by omega, BitVec.getLsbD_eq_getElem]

/-- The pieces of a 20-bit code joined again. -/
theorem code20_join (v : BitVec 20) :
    v.extractLsb' 15 5 ++ v.extractLsb' 10 5 ++ v.extractLsb' 5 5 ++ v.extractLsb' 0 5 = v := by
  ext n hn
  simp only [BitVec.getElem_append, BitVec.getElem_extractLsb']
  split
  · rw [Nat.zero_add, BitVec.getLsbD_eq_getElem]
  · split
    · rw [show 5 + (n - 5) = n by omega, BitVec.getLsbD_eq_getElem]
    · split
      · rw [show 10 + (n - 5 - 5) = n by omega, BitVec.getLsbD_eq_getElem]
      · rw [show 15 + (n - 5 - 5 - 5) = n by omega, BitVec.getLsbD_eq_getElem]

/-- The pieces of a 10-bit code joined again. -/
theorem code10_join (v : BitVec 10) : v.extractLsb' 5 5 ++ v.extractLsb' 0 5 = v := by
  ext n hn
  simp only [BitVec.getElem_append, BitVec.getElem_extractLsb']
  split
  · rw [Nat.zero_add, BitVec.getLsbD_eq_getElem]
  · rw [show 5 + (n - 5) = n by omega, BitVec.getLsbD_eq_getElem]

/-- The condition code above two fixed bits. -/
theorem cc_high (cc : BitVec 3) (b : BitVec 2) : (cc ++ b).extractLsb' 2 3 = cc := by
  revert cc b; decide

/-- The two fixed bits below a condition code. -/
theorem cc_low (cc : BitVec 3) (b : BitVec 2) : (cc ++ b).extractLsb' 0 2 = b := by
  revert cc b; decide

namespace RoundTrip

/-- The instruction's fields decode to it. -/
def Statement (i : Instr) : Prop := decodeFields (encodeFields i) = .ok i

theorem lb (base : Reg) (rt : Reg) (offset : BitVec 16) : Statement (.lb base rt offset) := congrArg (fun x => Except.ok (Instr.lb base rt x)) (imm_join offset)
theorem lbu (base : Reg) (rt : Reg) (offset : BitVec 16) : Statement (.lbu base rt offset) := congrArg (fun x => Except.ok (Instr.lbu base rt x)) (imm_join offset)
theorem lh (base : Reg) (rt : Reg) (offset : BitVec 16) : Statement (.lh base rt offset) := congrArg (fun x => Except.ok (Instr.lh base rt x)) (imm_join offset)
theorem lhu (base : Reg) (rt : Reg) (offset : BitVec 16) : Statement (.lhu base rt offset) := congrArg (fun x => Except.ok (Instr.lhu base rt x)) (imm_join offset)
theorem lw (base : Reg) (rt : Reg) (offset : BitVec 16) : Statement (.lw base rt offset) := congrArg (fun x => Except.ok (Instr.lw base rt x)) (imm_join offset)
theorem lwu (base : Reg) (rt : Reg) (offset : BitVec 16) : Statement (.lwu base rt offset) := congrArg (fun x => Except.ok (Instr.lwu base rt x)) (imm_join offset)
theorem ld (base : Reg) (rt : Reg) (offset : BitVec 16) : Statement (.ld base rt offset) := congrArg (fun x => Except.ok (Instr.ld base rt x)) (imm_join offset)
theorem sb (base : Reg) (rt : Reg) (offset : BitVec 16) : Statement (.sb base rt offset) := congrArg (fun x => Except.ok (Instr.sb base rt x)) (imm_join offset)
theorem sh (base : Reg) (rt : Reg) (offset : BitVec 16) : Statement (.sh base rt offset) := congrArg (fun x => Except.ok (Instr.sh base rt x)) (imm_join offset)
theorem sw (base : Reg) (rt : Reg) (offset : BitVec 16) : Statement (.sw base rt offset) := congrArg (fun x => Except.ok (Instr.sw base rt x)) (imm_join offset)
theorem sd (base : Reg) (rt : Reg) (offset : BitVec 16) : Statement (.sd base rt offset) := congrArg (fun x => Except.ok (Instr.sd base rt x)) (imm_join offset)
theorem lwl (base : Reg) (rt : Reg) (offset : BitVec 16) : Statement (.lwl base rt offset) := congrArg (fun x => Except.ok (Instr.lwl base rt x)) (imm_join offset)
theorem lwr (base : Reg) (rt : Reg) (offset : BitVec 16) : Statement (.lwr base rt offset) := congrArg (fun x => Except.ok (Instr.lwr base rt x)) (imm_join offset)
theorem swl (base : Reg) (rt : Reg) (offset : BitVec 16) : Statement (.swl base rt offset) := congrArg (fun x => Except.ok (Instr.swl base rt x)) (imm_join offset)
theorem swr (base : Reg) (rt : Reg) (offset : BitVec 16) : Statement (.swr base rt offset) := congrArg (fun x => Except.ok (Instr.swr base rt x)) (imm_join offset)
theorem ldl (base : Reg) (rt : Reg) (offset : BitVec 16) : Statement (.ldl base rt offset) := congrArg (fun x => Except.ok (Instr.ldl base rt x)) (imm_join offset)
theorem ldr (base : Reg) (rt : Reg) (offset : BitVec 16) : Statement (.ldr base rt offset) := congrArg (fun x => Except.ok (Instr.ldr base rt x)) (imm_join offset)
theorem sdl (base : Reg) (rt : Reg) (offset : BitVec 16) : Statement (.sdl base rt offset) := congrArg (fun x => Except.ok (Instr.sdl base rt x)) (imm_join offset)
theorem sdr (base : Reg) (rt : Reg) (offset : BitVec 16) : Statement (.sdr base rt offset) := congrArg (fun x => Except.ok (Instr.sdr base rt x)) (imm_join offset)
theorem ll (base : Reg) (rt : Reg) (offset : BitVec 16) : Statement (.ll base rt offset) := congrArg (fun x => Except.ok (Instr.ll base rt x)) (imm_join offset)
theorem lld (base : Reg) (rt : Reg) (offset : BitVec 16) : Statement (.lld base rt offset) := congrArg (fun x => Except.ok (Instr.lld base rt x)) (imm_join offset)
theorem sc (base : Reg) (rt : Reg) (offset : BitVec 16) : Statement (.sc base rt offset) := congrArg (fun x => Except.ok (Instr.sc base rt x)) (imm_join offset)
theorem scd (base : Reg) (rt : Reg) (offset : BitVec 16) : Statement (.scd base rt offset) := congrArg (fun x => Except.ok (Instr.scd base rt x)) (imm_join offset)
theorem lwc1 (base : Reg) (ft : Reg) (offset : BitVec 16) : Statement (.lwc1 base ft offset) := congrArg (fun x => Except.ok (Instr.lwc1 base ft x)) (imm_join offset)
theorem ldc1 (base : Reg) (ft : Reg) (offset : BitVec 16) : Statement (.ldc1 base ft offset) := congrArg (fun x => Except.ok (Instr.ldc1 base ft x)) (imm_join offset)
theorem swc1 (base : Reg) (ft : Reg) (offset : BitVec 16) : Statement (.swc1 base ft offset) := congrArg (fun x => Except.ok (Instr.swc1 base ft x)) (imm_join offset)
theorem sdc1 (base : Reg) (ft : Reg) (offset : BitVec 16) : Statement (.sdc1 base ft offset) := congrArg (fun x => Except.ok (Instr.sdc1 base ft x)) (imm_join offset)
theorem lwxc1 (base : Reg) (index : Reg) (fd : Reg) : Statement (.lwxc1 base index fd) := rfl
theorem ldxc1 (base : Reg) (index : Reg) (fd : Reg) : Statement (.ldxc1 base index fd) := rfl
theorem swxc1 (base : Reg) (index : Reg) (fs : Reg) : Statement (.swxc1 base index fs) := rfl
theorem sdxc1 (base : Reg) (index : Reg) (fs : Reg) : Statement (.sdxc1 base index fs) := rfl
theorem pref (base : Reg) (hint : BitVec 5) (offset : BitVec 16) : Statement (.pref base hint offset) := congrArg (fun x => Except.ok (Instr.pref base hint x)) (imm_join offset)
theorem prefx (base : Reg) (index : Reg) (hint : BitVec 5) : Statement (.prefx base index hint) := rfl
theorem add (rs : Reg) (rt : Reg) (rd : Reg) : Statement (.add rs rt rd) := rfl
theorem addu (rs : Reg) (rt : Reg) (rd : Reg) : Statement (.addu rs rt rd) := rfl
theorem sub (rs : Reg) (rt : Reg) (rd : Reg) : Statement (.sub rs rt rd) := rfl
theorem subu (rs : Reg) (rt : Reg) (rd : Reg) : Statement (.subu rs rt rd) := rfl
theorem dadd (rs : Reg) (rt : Reg) (rd : Reg) : Statement (.dadd rs rt rd) := rfl
theorem daddu (rs : Reg) (rt : Reg) (rd : Reg) : Statement (.daddu rs rt rd) := rfl
theorem dsub (rs : Reg) (rt : Reg) (rd : Reg) : Statement (.dsub rs rt rd) := rfl
theorem dsubu (rs : Reg) (rt : Reg) (rd : Reg) : Statement (.dsubu rs rt rd) := rfl
theorem and (rs : Reg) (rt : Reg) (rd : Reg) : Statement (.and rs rt rd) := rfl
theorem or (rs : Reg) (rt : Reg) (rd : Reg) : Statement (.or rs rt rd) := rfl
theorem xor (rs : Reg) (rt : Reg) (rd : Reg) : Statement (.xor rs rt rd) := rfl
theorem nor (rs : Reg) (rt : Reg) (rd : Reg) : Statement (.nor rs rt rd) := rfl
theorem slt (rs : Reg) (rt : Reg) (rd : Reg) : Statement (.slt rs rt rd) := rfl
theorem sltu (rs : Reg) (rt : Reg) (rd : Reg) : Statement (.sltu rs rt rd) := rfl
theorem movn (rs : Reg) (rt : Reg) (rd : Reg) : Statement (.movn rs rt rd) := rfl
theorem movz (rs : Reg) (rt : Reg) (rd : Reg) : Statement (.movz rs rt rd) := rfl
theorem addi (rs : Reg) (rt : Reg) (imm : BitVec 16) : Statement (.addi rs rt imm) := congrArg (fun x => Except.ok (Instr.addi rs rt x)) (imm_join imm)
theorem addiu (rs : Reg) (rt : Reg) (imm : BitVec 16) : Statement (.addiu rs rt imm) := congrArg (fun x => Except.ok (Instr.addiu rs rt x)) (imm_join imm)
theorem daddi (rs : Reg) (rt : Reg) (imm : BitVec 16) : Statement (.daddi rs rt imm) := congrArg (fun x => Except.ok (Instr.daddi rs rt x)) (imm_join imm)
theorem daddiu (rs : Reg) (rt : Reg) (imm : BitVec 16) : Statement (.daddiu rs rt imm) := congrArg (fun x => Except.ok (Instr.daddiu rs rt x)) (imm_join imm)
theorem andi (rs : Reg) (rt : Reg) (imm : BitVec 16) : Statement (.andi rs rt imm) := congrArg (fun x => Except.ok (Instr.andi rs rt x)) (imm_join imm)
theorem ori (rs : Reg) (rt : Reg) (imm : BitVec 16) : Statement (.ori rs rt imm) := congrArg (fun x => Except.ok (Instr.ori rs rt x)) (imm_join imm)
theorem xori (rs : Reg) (rt : Reg) (imm : BitVec 16) : Statement (.xori rs rt imm) := congrArg (fun x => Except.ok (Instr.xori rs rt x)) (imm_join imm)
theorem slti (rs : Reg) (rt : Reg) (imm : BitVec 16) : Statement (.slti rs rt imm) := congrArg (fun x => Except.ok (Instr.slti rs rt x)) (imm_join imm)
theorem sltiu (rs : Reg) (rt : Reg) (imm : BitVec 16) : Statement (.sltiu rs rt imm) := congrArg (fun x => Except.ok (Instr.sltiu rs rt x)) (imm_join imm)
theorem lui (rt : Reg) (imm : BitVec 16) : Statement (.lui rt imm) := congrArg (fun x => Except.ok (Instr.lui rt x)) (imm_join imm)
theorem movf (rs : Reg) (cc : BitVec 3) (rd : Reg) : Statement (.movf rs cc rd) := by
  simp [Statement, encodeFields, decodeFields, decodeSpecial, cc_high, cc_low]
theorem movt (rs : Reg) (cc : BitVec 3) (rd : Reg) : Statement (.movt rs cc rd) := by
  simp [Statement, encodeFields, decodeFields, decodeSpecial, cc_high, cc_low]
theorem sll (rt : Reg) (rd : Reg) (sa : BitVec 5) : Statement (.sll rt rd sa) := rfl
theorem srl (rt : Reg) (rd : Reg) (sa : BitVec 5) : Statement (.srl rt rd sa) := rfl
theorem sra (rt : Reg) (rd : Reg) (sa : BitVec 5) : Statement (.sra rt rd sa) := rfl
theorem dsll (rt : Reg) (rd : Reg) (sa : BitVec 5) : Statement (.dsll rt rd sa) := rfl
theorem dsrl (rt : Reg) (rd : Reg) (sa : BitVec 5) : Statement (.dsrl rt rd sa) := rfl
theorem dsra (rt : Reg) (rd : Reg) (sa : BitVec 5) : Statement (.dsra rt rd sa) := rfl
theorem dsll32 (rt : Reg) (rd : Reg) (sa : BitVec 5) : Statement (.dsll32 rt rd sa) := rfl
theorem dsrl32 (rt : Reg) (rd : Reg) (sa : BitVec 5) : Statement (.dsrl32 rt rd sa) := rfl
theorem dsra32 (rt : Reg) (rd : Reg) (sa : BitVec 5) : Statement (.dsra32 rt rd sa) := rfl
theorem sllv (rs : Reg) (rt : Reg) (rd : Reg) : Statement (.sllv rs rt rd) := rfl
theorem srlv (rs : Reg) (rt : Reg) (rd : Reg) : Statement (.srlv rs rt rd) := rfl
theorem srav (rs : Reg) (rt : Reg) (rd : Reg) : Statement (.srav rs rt rd) := rfl
theorem dsllv (rs : Reg) (rt : Reg) (rd : Reg) : Statement (.dsllv rs rt rd) := rfl
theorem dsrlv (rs : Reg) (rt : Reg) (rd : Reg) : Statement (.dsrlv rs rt rd) := rfl
theorem dsrav (rs : Reg) (rt : Reg) (rd : Reg) : Statement (.dsrav rs rt rd) := rfl
theorem mult (rs : Reg) (rt : Reg) : Statement (.mult rs rt) := rfl
theorem multu (rs : Reg) (rt : Reg) : Statement (.multu rs rt) := rfl
theorem div (rs : Reg) (rt : Reg) : Statement (.div rs rt) := rfl
theorem divu (rs : Reg) (rt : Reg) : Statement (.divu rs rt) := rfl
theorem dmult (rs : Reg) (rt : Reg) : Statement (.dmult rs rt) := rfl
theorem dmultu (rs : Reg) (rt : Reg) : Statement (.dmultu rs rt) := rfl
theorem ddiv (rs : Reg) (rt : Reg) : Statement (.ddiv rs rt) := rfl
theorem ddivu (rs : Reg) (rt : Reg) : Statement (.ddivu rs rt) := rfl
theorem mfhi (rd : Reg) : Statement (.mfhi rd) := rfl
theorem mflo (rd : Reg) : Statement (.mflo rd) := rfl
theorem mthi (rs : Reg) : Statement (.mthi rs) := rfl
theorem mtlo (rs : Reg) : Statement (.mtlo rs) := rfl
theorem j (target : BitVec 26) : Statement (.j target) := congrArg (fun x => Except.ok (Instr.j x)) (target_join target)
theorem jal (target : BitVec 26) : Statement (.jal target) := congrArg (fun x => Except.ok (Instr.jal x)) (target_join target)
theorem jr (rs : Reg) : Statement (.jr rs) := rfl
theorem jalr (rs : Reg) (rd : Reg) : Statement (.jalr rs rd) := rfl
theorem beq (rs : Reg) (rt : Reg) (offset : BitVec 16) : Statement (.beq rs rt offset) := congrArg (fun x => Except.ok (Instr.beq rs rt x)) (imm_join offset)
theorem bne (rs : Reg) (rt : Reg) (offset : BitVec 16) : Statement (.bne rs rt offset) := congrArg (fun x => Except.ok (Instr.bne rs rt x)) (imm_join offset)
theorem beql (rs : Reg) (rt : Reg) (offset : BitVec 16) : Statement (.beql rs rt offset) := congrArg (fun x => Except.ok (Instr.beql rs rt x)) (imm_join offset)
theorem bnel (rs : Reg) (rt : Reg) (offset : BitVec 16) : Statement (.bnel rs rt offset) := congrArg (fun x => Except.ok (Instr.bnel rs rt x)) (imm_join offset)
theorem blez (rs : Reg) (offset : BitVec 16) : Statement (.blez rs offset) := congrArg (fun x => Except.ok (Instr.blez rs x)) (imm_join offset)
theorem bgtz (rs : Reg) (offset : BitVec 16) : Statement (.bgtz rs offset) := congrArg (fun x => Except.ok (Instr.bgtz rs x)) (imm_join offset)
theorem blezl (rs : Reg) (offset : BitVec 16) : Statement (.blezl rs offset) := congrArg (fun x => Except.ok (Instr.blezl rs x)) (imm_join offset)
theorem bgtzl (rs : Reg) (offset : BitVec 16) : Statement (.bgtzl rs offset) := congrArg (fun x => Except.ok (Instr.bgtzl rs x)) (imm_join offset)
theorem bltz (rs : Reg) (offset : BitVec 16) : Statement (.bltz rs offset) := congrArg (fun x => Except.ok (Instr.bltz rs x)) (imm_join offset)
theorem bgez (rs : Reg) (offset : BitVec 16) : Statement (.bgez rs offset) := congrArg (fun x => Except.ok (Instr.bgez rs x)) (imm_join offset)
theorem bltzal (rs : Reg) (offset : BitVec 16) : Statement (.bltzal rs offset) := congrArg (fun x => Except.ok (Instr.bltzal rs x)) (imm_join offset)
theorem bgezal (rs : Reg) (offset : BitVec 16) : Statement (.bgezal rs offset) := congrArg (fun x => Except.ok (Instr.bgezal rs x)) (imm_join offset)
theorem bltzl (rs : Reg) (offset : BitVec 16) : Statement (.bltzl rs offset) := congrArg (fun x => Except.ok (Instr.bltzl rs x)) (imm_join offset)
theorem bgezl (rs : Reg) (offset : BitVec 16) : Statement (.bgezl rs offset) := congrArg (fun x => Except.ok (Instr.bgezl rs x)) (imm_join offset)
theorem bltzall (rs : Reg) (offset : BitVec 16) : Statement (.bltzall rs offset) := congrArg (fun x => Except.ok (Instr.bltzall rs x)) (imm_join offset)
theorem bgezall (rs : Reg) (offset : BitVec 16) : Statement (.bgezall rs offset) := congrArg (fun x => Except.ok (Instr.bgezall rs x)) (imm_join offset)
theorem bc1f (cc : BitVec 3) (offset : BitVec 16) : Statement (.bc1f cc offset) := by
  simp [Statement, encodeFields, decodeFields, decodeCop1, Fields.imm, imm_join, cc_high, cc_low]
theorem bc1t (cc : BitVec 3) (offset : BitVec 16) : Statement (.bc1t cc offset) := by
  simp [Statement, encodeFields, decodeFields, decodeCop1, Fields.imm, imm_join, cc_high, cc_low]
theorem bc1fl (cc : BitVec 3) (offset : BitVec 16) : Statement (.bc1fl cc offset) := by
  simp [Statement, encodeFields, decodeFields, decodeCop1, Fields.imm, imm_join, cc_high, cc_low]
theorem bc1tl (cc : BitVec 3) (offset : BitVec 16) : Statement (.bc1tl cc offset) := by
  simp [Statement, encodeFields, decodeFields, decodeCop1, Fields.imm, imm_join, cc_high, cc_low]
theorem syscall (code : BitVec 20) : Statement (.syscall code) := congrArg (fun x => Except.ok (Instr.syscall x)) (code20_join code)
theorem brk (code : BitVec 20) : Statement (.brk code) := congrArg (fun x => Except.ok (Instr.brk x)) (code20_join code)
theorem sync (stype : BitVec 5) : Statement (.sync stype) := rfl
theorem tge (rs : Reg) (rt : Reg) (code : BitVec 10) : Statement (.tge rs rt code) := congrArg (fun x => Except.ok (Instr.tge rs rt x)) (code10_join code)
theorem tgeu (rs : Reg) (rt : Reg) (code : BitVec 10) : Statement (.tgeu rs rt code) := congrArg (fun x => Except.ok (Instr.tgeu rs rt x)) (code10_join code)
theorem tlt (rs : Reg) (rt : Reg) (code : BitVec 10) : Statement (.tlt rs rt code) := congrArg (fun x => Except.ok (Instr.tlt rs rt x)) (code10_join code)
theorem tltu (rs : Reg) (rt : Reg) (code : BitVec 10) : Statement (.tltu rs rt code) := congrArg (fun x => Except.ok (Instr.tltu rs rt x)) (code10_join code)
theorem teq (rs : Reg) (rt : Reg) (code : BitVec 10) : Statement (.teq rs rt code) := congrArg (fun x => Except.ok (Instr.teq rs rt x)) (code10_join code)
theorem tne (rs : Reg) (rt : Reg) (code : BitVec 10) : Statement (.tne rs rt code) := congrArg (fun x => Except.ok (Instr.tne rs rt x)) (code10_join code)
theorem tgei (rs : Reg) (imm : BitVec 16) : Statement (.tgei rs imm) := congrArg (fun x => Except.ok (Instr.tgei rs x)) (imm_join imm)
theorem tgeiu (rs : Reg) (imm : BitVec 16) : Statement (.tgeiu rs imm) := congrArg (fun x => Except.ok (Instr.tgeiu rs x)) (imm_join imm)
theorem tlti (rs : Reg) (imm : BitVec 16) : Statement (.tlti rs imm) := congrArg (fun x => Except.ok (Instr.tlti rs x)) (imm_join imm)
theorem tltiu (rs : Reg) (imm : BitVec 16) : Statement (.tltiu rs imm) := congrArg (fun x => Except.ok (Instr.tltiu rs x)) (imm_join imm)
theorem teqi (rs : Reg) (imm : BitVec 16) : Statement (.teqi rs imm) := congrArg (fun x => Except.ok (Instr.teqi rs x)) (imm_join imm)
theorem tnei (rs : Reg) (imm : BitVec 16) : Statement (.tnei rs imm) := congrArg (fun x => Except.ok (Instr.tnei rs x)) (imm_join imm)
theorem mfc0 (rt : Reg) (rd : Reg) : Statement (.mfc0 rt rd) := by
  simp [Statement, encodeFields, decodeFields, decodeCop0]
theorem dmfc0 (rt : Reg) (rd : Reg) : Statement (.dmfc0 rt rd) := by
  simp [Statement, encodeFields, decodeFields, decodeCop0]
theorem mtc0 (rt : Reg) (rd : Reg) : Statement (.mtc0 rt rd) := by
  simp [Statement, encodeFields, decodeFields, decodeCop0]
theorem dmtc0 (rt : Reg) (rd : Reg) : Statement (.dmtc0 rt rd) := by
  simp [Statement, encodeFields, decodeFields, decodeCop0]
theorem tlbr : Statement .tlbr := rfl
theorem tlbwi : Statement .tlbwi := rfl
theorem tlbwr : Statement .tlbwr := rfl
theorem tlbp : Statement .tlbp := rfl
theorem eret : Statement .eret := rfl
theorem cache (base : Reg) (op5 : BitVec 5) (offset : BitVec 16) : Statement (.cache base op5 offset) := congrArg (fun x => Except.ok (Instr.cache base op5 x)) (imm_join offset)
theorem mfc1 (rt : Reg) (fs : Reg) : Statement (.mfc1 rt fs) := rfl
theorem dmfc1 (rt : Reg) (fs : Reg) : Statement (.dmfc1 rt fs) := rfl
theorem cfc1 (rt : Reg) (fs : Reg) : Statement (.cfc1 rt fs) := rfl
theorem mtc1 (rt : Reg) (fs : Reg) : Statement (.mtc1 rt fs) := rfl
theorem dmtc1 (rt : Reg) (fs : Reg) : Statement (.dmtc1 rt fs) := rfl
theorem ctc1 (rt : Reg) (fs : Reg) : Statement (.ctc1 rt fs) := rfl
theorem movS (fs : Reg) (fd : Reg) : Statement (.movS fs fd) := rfl
theorem movfS (cc : BitVec 3) (fs : Reg) (fd : Reg) : Statement (.movfS cc fs fd) := by
  simp [Statement, encodeFields, decodeFields, decodeCop1, decodeFmtS, cc_high, cc_low]
theorem movtS (cc : BitVec 3) (fs : Reg) (fd : Reg) : Statement (.movtS cc fs fd) := by
  simp [Statement, encodeFields, decodeFields, decodeCop1, decodeFmtS, cc_high, cc_low]
theorem movnS (rt : Reg) (fs : Reg) (fd : Reg) : Statement (.movnS rt fs fd) := rfl
theorem movzS (rt : Reg) (fs : Reg) (fd : Reg) : Statement (.movzS rt fs fd) := rfl
theorem movD (fs : Reg) (fd : Reg) : Statement (.movD fs fd) := rfl
theorem movfD (cc : BitVec 3) (fs : Reg) (fd : Reg) : Statement (.movfD cc fs fd) := by
  simp [Statement, encodeFields, decodeFields, decodeCop1, decodeFmtD, cc_high, cc_low]
theorem movtD (cc : BitVec 3) (fs : Reg) (fd : Reg) : Statement (.movtD cc fs fd) := by
  simp [Statement, encodeFields, decodeFields, decodeCop1, decodeFmtD, cc_high, cc_low]
theorem movnD (rt : Reg) (fs : Reg) (fd : Reg) : Statement (.movnD rt fs fd) := rfl
theorem movzD (rt : Reg) (fs : Reg) (fd : Reg) : Statement (.movzD rt fs fd) := rfl
theorem addS (ft : Reg) (fs : Reg) (fd : Reg) : Statement (.addS ft fs fd) := rfl
theorem subS (ft : Reg) (fs : Reg) (fd : Reg) : Statement (.subS ft fs fd) := rfl
theorem mulS (ft : Reg) (fs : Reg) (fd : Reg) : Statement (.mulS ft fs fd) := rfl
theorem divS (ft : Reg) (fs : Reg) (fd : Reg) : Statement (.divS ft fs fd) := rfl
theorem sqrtS (fs : Reg) (fd : Reg) : Statement (.sqrtS fs fd) := rfl
theorem absS (fs : Reg) (fd : Reg) : Statement (.absS fs fd) := rfl
theorem negS (fs : Reg) (fd : Reg) : Statement (.negS fs fd) := rfl
theorem recipS (fs : Reg) (fd : Reg) : Statement (.recipS fs fd) := rfl
theorem rsqrtS (fs : Reg) (fd : Reg) : Statement (.rsqrtS fs fd) := rfl
theorem addD (ft : Reg) (fs : Reg) (fd : Reg) : Statement (.addD ft fs fd) := rfl
theorem subD (ft : Reg) (fs : Reg) (fd : Reg) : Statement (.subD ft fs fd) := rfl
theorem mulD (ft : Reg) (fs : Reg) (fd : Reg) : Statement (.mulD ft fs fd) := rfl
theorem divD (ft : Reg) (fs : Reg) (fd : Reg) : Statement (.divD ft fs fd) := rfl
theorem sqrtD (fs : Reg) (fd : Reg) : Statement (.sqrtD fs fd) := rfl
theorem absD (fs : Reg) (fd : Reg) : Statement (.absD fs fd) := rfl
theorem negD (fs : Reg) (fd : Reg) : Statement (.negD fs fd) := rfl
theorem recipD (fs : Reg) (fd : Reg) : Statement (.recipD fs fd) := rfl
theorem rsqrtD (fs : Reg) (fd : Reg) : Statement (.rsqrtD fs fd) := rfl
theorem maddS (fr : Reg) (ft : Reg) (fs : Reg) (fd : Reg) : Statement (.maddS fr ft fs fd) := rfl
theorem maddD (fr : Reg) (ft : Reg) (fs : Reg) (fd : Reg) : Statement (.maddD fr ft fs fd) := rfl
theorem msubS (fr : Reg) (ft : Reg) (fs : Reg) (fd : Reg) : Statement (.msubS fr ft fs fd) := rfl
theorem msubD (fr : Reg) (ft : Reg) (fs : Reg) (fd : Reg) : Statement (.msubD fr ft fs fd) := rfl
theorem nmaddS (fr : Reg) (ft : Reg) (fs : Reg) (fd : Reg) : Statement (.nmaddS fr ft fs fd) := rfl
theorem nmaddD (fr : Reg) (ft : Reg) (fs : Reg) (fd : Reg) : Statement (.nmaddD fr ft fs fd) := rfl
theorem nmsubS (fr : Reg) (ft : Reg) (fs : Reg) (fd : Reg) : Statement (.nmsubS fr ft fs fd) := rfl
theorem nmsubD (fr : Reg) (ft : Reg) (fs : Reg) (fd : Reg) : Statement (.nmsubD fr ft fs fd) := rfl
theorem cFS (ft : Reg) (fs : Reg) (cc : BitVec 3) : Statement (.cFS ft fs cc) := by
  simp [Statement, encodeFields, decodeFields, decodeCop1, decodeFmtS, cc_high, cc_low]
theorem cUnS (ft : Reg) (fs : Reg) (cc : BitVec 3) : Statement (.cUnS ft fs cc) := by
  simp [Statement, encodeFields, decodeFields, decodeCop1, decodeFmtS, cc_high, cc_low]
theorem cEqS (ft : Reg) (fs : Reg) (cc : BitVec 3) : Statement (.cEqS ft fs cc) := by
  simp [Statement, encodeFields, decodeFields, decodeCop1, decodeFmtS, cc_high, cc_low]
theorem cUeqS (ft : Reg) (fs : Reg) (cc : BitVec 3) : Statement (.cUeqS ft fs cc) := by
  simp [Statement, encodeFields, decodeFields, decodeCop1, decodeFmtS, cc_high, cc_low]
theorem cOltS (ft : Reg) (fs : Reg) (cc : BitVec 3) : Statement (.cOltS ft fs cc) := by
  simp [Statement, encodeFields, decodeFields, decodeCop1, decodeFmtS, cc_high, cc_low]
theorem cUltS (ft : Reg) (fs : Reg) (cc : BitVec 3) : Statement (.cUltS ft fs cc) := by
  simp [Statement, encodeFields, decodeFields, decodeCop1, decodeFmtS, cc_high, cc_low]
theorem cOleS (ft : Reg) (fs : Reg) (cc : BitVec 3) : Statement (.cOleS ft fs cc) := by
  simp [Statement, encodeFields, decodeFields, decodeCop1, decodeFmtS, cc_high, cc_low]
theorem cUleS (ft : Reg) (fs : Reg) (cc : BitVec 3) : Statement (.cUleS ft fs cc) := by
  simp [Statement, encodeFields, decodeFields, decodeCop1, decodeFmtS, cc_high, cc_low]
theorem cSfS (ft : Reg) (fs : Reg) (cc : BitVec 3) : Statement (.cSfS ft fs cc) := by
  simp [Statement, encodeFields, decodeFields, decodeCop1, decodeFmtS, cc_high, cc_low]
theorem cNgleS (ft : Reg) (fs : Reg) (cc : BitVec 3) : Statement (.cNgleS ft fs cc) := by
  simp [Statement, encodeFields, decodeFields, decodeCop1, decodeFmtS, cc_high, cc_low]
theorem cSeqS (ft : Reg) (fs : Reg) (cc : BitVec 3) : Statement (.cSeqS ft fs cc) := by
  simp [Statement, encodeFields, decodeFields, decodeCop1, decodeFmtS, cc_high, cc_low]
theorem cNglS (ft : Reg) (fs : Reg) (cc : BitVec 3) : Statement (.cNglS ft fs cc) := by
  simp [Statement, encodeFields, decodeFields, decodeCop1, decodeFmtS, cc_high, cc_low]
theorem cLtS (ft : Reg) (fs : Reg) (cc : BitVec 3) : Statement (.cLtS ft fs cc) := by
  simp [Statement, encodeFields, decodeFields, decodeCop1, decodeFmtS, cc_high, cc_low]
theorem cNgeS (ft : Reg) (fs : Reg) (cc : BitVec 3) : Statement (.cNgeS ft fs cc) := by
  simp [Statement, encodeFields, decodeFields, decodeCop1, decodeFmtS, cc_high, cc_low]
theorem cLeS (ft : Reg) (fs : Reg) (cc : BitVec 3) : Statement (.cLeS ft fs cc) := by
  simp [Statement, encodeFields, decodeFields, decodeCop1, decodeFmtS, cc_high, cc_low]
theorem cNgtS (ft : Reg) (fs : Reg) (cc : BitVec 3) : Statement (.cNgtS ft fs cc) := by
  simp [Statement, encodeFields, decodeFields, decodeCop1, decodeFmtS, cc_high, cc_low]
theorem cFD (ft : Reg) (fs : Reg) (cc : BitVec 3) : Statement (.cFD ft fs cc) := by
  simp [Statement, encodeFields, decodeFields, decodeCop1, decodeFmtD, cc_high, cc_low]
theorem cUnD (ft : Reg) (fs : Reg) (cc : BitVec 3) : Statement (.cUnD ft fs cc) := by
  simp [Statement, encodeFields, decodeFields, decodeCop1, decodeFmtD, cc_high, cc_low]
theorem cEqD (ft : Reg) (fs : Reg) (cc : BitVec 3) : Statement (.cEqD ft fs cc) := by
  simp [Statement, encodeFields, decodeFields, decodeCop1, decodeFmtD, cc_high, cc_low]
theorem cUeqD (ft : Reg) (fs : Reg) (cc : BitVec 3) : Statement (.cUeqD ft fs cc) := by
  simp [Statement, encodeFields, decodeFields, decodeCop1, decodeFmtD, cc_high, cc_low]
theorem cOltD (ft : Reg) (fs : Reg) (cc : BitVec 3) : Statement (.cOltD ft fs cc) := by
  simp [Statement, encodeFields, decodeFields, decodeCop1, decodeFmtD, cc_high, cc_low]
theorem cUltD (ft : Reg) (fs : Reg) (cc : BitVec 3) : Statement (.cUltD ft fs cc) := by
  simp [Statement, encodeFields, decodeFields, decodeCop1, decodeFmtD, cc_high, cc_low]
theorem cOleD (ft : Reg) (fs : Reg) (cc : BitVec 3) : Statement (.cOleD ft fs cc) := by
  simp [Statement, encodeFields, decodeFields, decodeCop1, decodeFmtD, cc_high, cc_low]
theorem cUleD (ft : Reg) (fs : Reg) (cc : BitVec 3) : Statement (.cUleD ft fs cc) := by
  simp [Statement, encodeFields, decodeFields, decodeCop1, decodeFmtD, cc_high, cc_low]
theorem cSfD (ft : Reg) (fs : Reg) (cc : BitVec 3) : Statement (.cSfD ft fs cc) := by
  simp [Statement, encodeFields, decodeFields, decodeCop1, decodeFmtD, cc_high, cc_low]
theorem cNgleD (ft : Reg) (fs : Reg) (cc : BitVec 3) : Statement (.cNgleD ft fs cc) := by
  simp [Statement, encodeFields, decodeFields, decodeCop1, decodeFmtD, cc_high, cc_low]
theorem cSeqD (ft : Reg) (fs : Reg) (cc : BitVec 3) : Statement (.cSeqD ft fs cc) := by
  simp [Statement, encodeFields, decodeFields, decodeCop1, decodeFmtD, cc_high, cc_low]
theorem cNglD (ft : Reg) (fs : Reg) (cc : BitVec 3) : Statement (.cNglD ft fs cc) := by
  simp [Statement, encodeFields, decodeFields, decodeCop1, decodeFmtD, cc_high, cc_low]
theorem cLtD (ft : Reg) (fs : Reg) (cc : BitVec 3) : Statement (.cLtD ft fs cc) := by
  simp [Statement, encodeFields, decodeFields, decodeCop1, decodeFmtD, cc_high, cc_low]
theorem cNgeD (ft : Reg) (fs : Reg) (cc : BitVec 3) : Statement (.cNgeD ft fs cc) := by
  simp [Statement, encodeFields, decodeFields, decodeCop1, decodeFmtD, cc_high, cc_low]
theorem cLeD (ft : Reg) (fs : Reg) (cc : BitVec 3) : Statement (.cLeD ft fs cc) := by
  simp [Statement, encodeFields, decodeFields, decodeCop1, decodeFmtD, cc_high, cc_low]
theorem cNgtD (ft : Reg) (fs : Reg) (cc : BitVec 3) : Statement (.cNgtD ft fs cc) := by
  simp [Statement, encodeFields, decodeFields, decodeCop1, decodeFmtD, cc_high, cc_low]
theorem cvtWS (fs : Reg) (fd : Reg) : Statement (.cvtWS fs fd) := rfl
theorem cvtLS (fs : Reg) (fd : Reg) : Statement (.cvtLS fs fd) := rfl
theorem roundWS (fs : Reg) (fd : Reg) : Statement (.roundWS fs fd) := rfl
theorem truncWS (fs : Reg) (fd : Reg) : Statement (.truncWS fs fd) := rfl
theorem ceilWS (fs : Reg) (fd : Reg) : Statement (.ceilWS fs fd) := rfl
theorem floorWS (fs : Reg) (fd : Reg) : Statement (.floorWS fs fd) := rfl
theorem roundLS (fs : Reg) (fd : Reg) : Statement (.roundLS fs fd) := rfl
theorem truncLS (fs : Reg) (fd : Reg) : Statement (.truncLS fs fd) := rfl
theorem ceilLS (fs : Reg) (fd : Reg) : Statement (.ceilLS fs fd) := rfl
theorem floorLS (fs : Reg) (fd : Reg) : Statement (.floorLS fs fd) := rfl
theorem cvtWD (fs : Reg) (fd : Reg) : Statement (.cvtWD fs fd) := rfl
theorem cvtLD (fs : Reg) (fd : Reg) : Statement (.cvtLD fs fd) := rfl
theorem roundWD (fs : Reg) (fd : Reg) : Statement (.roundWD fs fd) := rfl
theorem truncWD (fs : Reg) (fd : Reg) : Statement (.truncWD fs fd) := rfl
theorem ceilWD (fs : Reg) (fd : Reg) : Statement (.ceilWD fs fd) := rfl
theorem floorWD (fs : Reg) (fd : Reg) : Statement (.floorWD fs fd) := rfl
theorem roundLD (fs : Reg) (fd : Reg) : Statement (.roundLD fs fd) := rfl
theorem truncLD (fs : Reg) (fd : Reg) : Statement (.truncLD fs fd) := rfl
theorem ceilLD (fs : Reg) (fd : Reg) : Statement (.ceilLD fs fd) := rfl
theorem floorLD (fs : Reg) (fd : Reg) : Statement (.floorLD fs fd) := rfl
theorem cvtSD (fs : Reg) (fd : Reg) : Statement (.cvtSD fs fd) := rfl
theorem cvtSW (fs : Reg) (fd : Reg) : Statement (.cvtSW fs fd) := rfl
theorem cvtSL (fs : Reg) (fd : Reg) : Statement (.cvtSL fs fd) := rfl
theorem cvtDS (fs : Reg) (fd : Reg) : Statement (.cvtDS fs fd) := rfl
theorem cvtDW (fs : Reg) (fd : Reg) : Statement (.cvtDW fs fd) := rfl
theorem cvtDL (fs : Reg) (fd : Reg) : Statement (.cvtDL fs fd) := rfl

end RoundTrip

end Sys2Proof.Laws
end

