-- ==== Sys2Proof/Tests/Slice0.lean ====
section
/-! SUPPORT. The model's own tests: each check of WellFormed refuses an ill-formed term; every constructor's decoding from
a word written out field by field; vectors of spec/95_test_vectors.md and spec/96_test_vectors_fpu.md; and for
each obligation with hypotheses a state that meets them. -/

namespace Sys2Proof.Tests
open Sys2Proof Sys2Proof.Machine

set_option Elab.async false

/-! ### WellFormed: one ill-formed term for each check, and its well-formed neighbour -/

theorem test_jalr_rd_rs : wellFormed (.jalr 5#5 5#5) = false ∧ wellFormed (.jalr 5#5 6#5) = true := by decide
theorem test_bltzal_r31 : wellFormed (.bltzal 31#5 4#16) = false ∧ wellFormed (.bltzal 30#5 4#16) = true := by decide
theorem test_bgezal_r31 : wellFormed (.bgezal 31#5 4#16) = false ∧ wellFormed (.bgezal 30#5 4#16) = true := by decide
theorem test_bltzall_r31 : wellFormed (.bltzall 31#5 4#16) = false ∧ wellFormed (.bltzall 30#5 4#16) = true := by
  decide
theorem test_bgezall_r31 : wellFormed (.bgezall 31#5 4#16) = false ∧ wellFormed (.bgezall 30#5 4#16) = true := by
  decide
theorem test_cache_unlisted : wellFormed (.cache 4#5 0x0C#5 0#16) = false ∧ wellFormed (.cache 4#5 0x0D#5 0#16) = true := by
  decide

/-! ### Decoding -/

/-- Loads and stores (40_load_store): words by field, from 30_encoding and the instruction rules. -/
theorem test_decode_loads_stores_a :
    decode (32#6 ++ 9#5 ++ 18#5 ++ 0x8F31#16) = .ok (.lb 9#5 18#5 0x8F31#16)
    ∧ decode (36#6 ++ 9#5 ++ 18#5 ++ 0x8F31#16) = .ok (.lbu 9#5 18#5 0x8F31#16)
    ∧ decode (33#6 ++ 9#5 ++ 18#5 ++ 0x8F31#16) = .ok (.lh 9#5 18#5 0x8F31#16)
    ∧ decode (37#6 ++ 9#5 ++ 18#5 ++ 0x8F31#16) = .ok (.lhu 9#5 18#5 0x8F31#16)
    ∧ decode (35#6 ++ 9#5 ++ 18#5 ++ 0x8F31#16) = .ok (.lw 9#5 18#5 0x8F31#16)
    ∧ decode (39#6 ++ 9#5 ++ 18#5 ++ 0x8F31#16) = .ok (.lwu 9#5 18#5 0x8F31#16)
    ∧ decode (55#6 ++ 9#5 ++ 18#5 ++ 0x8F31#16) = .ok (.ld 9#5 18#5 0x8F31#16)
    ∧ decode (40#6 ++ 9#5 ++ 18#5 ++ 0x8F31#16) = .ok (.sb 9#5 18#5 0x8F31#16)
    ∧ decode (41#6 ++ 9#5 ++ 18#5 ++ 0x8F31#16) = .ok (.sh 9#5 18#5 0x8F31#16)
    ∧ decode (43#6 ++ 9#5 ++ 18#5 ++ 0x8F31#16) = .ok (.sw 9#5 18#5 0x8F31#16)
    ∧ decode (63#6 ++ 9#5 ++ 18#5 ++ 0x8F31#16) = .ok (.sd 9#5 18#5 0x8F31#16)
    ∧ decode (34#6 ++ 9#5 ++ 18#5 ++ 0x8F31#16) = .ok (.lwl 9#5 18#5 0x8F31#16)
    ∧ decode (38#6 ++ 9#5 ++ 18#5 ++ 0x8F31#16) = .ok (.lwr 9#5 18#5 0x8F31#16)
    ∧ decode (42#6 ++ 9#5 ++ 18#5 ++ 0x8F31#16) = .ok (.swl 9#5 18#5 0x8F31#16)
    ∧ decode (46#6 ++ 9#5 ++ 18#5 ++ 0x8F31#16) = .ok (.swr 9#5 18#5 0x8F31#16)
    ∧ decode (26#6 ++ 9#5 ++ 18#5 ++ 0x8F31#16) = .ok (.ldl 9#5 18#5 0x8F31#16) := by decide +kernel

/-- Loads and stores (40_load_store): words by field, from 30_encoding and the instruction rules. -/
theorem test_decode_loads_stores_b :
    decode (27#6 ++ 9#5 ++ 18#5 ++ 0x8F31#16) = .ok (.ldr 9#5 18#5 0x8F31#16)
    ∧ decode (44#6 ++ 9#5 ++ 18#5 ++ 0x8F31#16) = .ok (.sdl 9#5 18#5 0x8F31#16)
    ∧ decode (45#6 ++ 9#5 ++ 18#5 ++ 0x8F31#16) = .ok (.sdr 9#5 18#5 0x8F31#16)
    ∧ decode (48#6 ++ 9#5 ++ 18#5 ++ 0x8F31#16) = .ok (.ll 9#5 18#5 0x8F31#16)
    ∧ decode (52#6 ++ 9#5 ++ 18#5 ++ 0x8F31#16) = .ok (.lld 9#5 18#5 0x8F31#16)
    ∧ decode (56#6 ++ 9#5 ++ 18#5 ++ 0x8F31#16) = .ok (.sc 9#5 18#5 0x8F31#16)
    ∧ decode (60#6 ++ 9#5 ++ 18#5 ++ 0x8F31#16) = .ok (.scd 9#5 18#5 0x8F31#16)
    ∧ decode (49#6 ++ 9#5 ++ 18#5 ++ 0x8F31#16) = .ok (.lwc1 9#5 18#5 0x8F31#16)
    ∧ decode (53#6 ++ 9#5 ++ 18#5 ++ 0x8F31#16) = .ok (.ldc1 9#5 18#5 0x8F31#16)
    ∧ decode (57#6 ++ 9#5 ++ 18#5 ++ 0x8F31#16) = .ok (.swc1 9#5 18#5 0x8F31#16)
    ∧ decode (61#6 ++ 9#5 ++ 18#5 ++ 0x8F31#16) = .ok (.sdc1 9#5 18#5 0x8F31#16)
    ∧ decode (19#6 ++ 9#5 ++ 18#5 ++ 0#5 ++ 7#5 ++ 0#6) = .ok (.lwxc1 9#5 18#5 7#5)
    ∧ decode (19#6 ++ 9#5 ++ 18#5 ++ 0#5 ++ 7#5 ++ 1#6) = .ok (.ldxc1 9#5 18#5 7#5)
    ∧ decode (19#6 ++ 9#5 ++ 18#5 ++ 7#5 ++ 0#5 ++ 8#6) = .ok (.swxc1 9#5 18#5 7#5)
    ∧ decode (19#6 ++ 9#5 ++ 18#5 ++ 7#5 ++ 0#5 ++ 9#6) = .ok (.sdxc1 9#5 18#5 7#5)
    ∧ decode (51#6 ++ 9#5 ++ 18#5 ++ 0x8F31#16) = .ok (.pref 9#5 18#5 0x8F31#16) := by decide +kernel

/-- Loads and stores (40_load_store): words by field, from 30_encoding and the instruction rules. -/
theorem test_decode_loads_stores_c :
    decode (19#6 ++ 9#5 ++ 18#5 ++ 7#5 ++ 0#5 ++ 15#6) = .ok (.prefx 9#5 18#5 7#5) := by decide +kernel

/-- Integer arithmetic, logic, compare, conditional move (41_alu): words by field, from 30_encoding and the instruction rules. -/
theorem test_decode_alu_a :
    decode (0#6 ++ 9#5 ++ 18#5 ++ 7#5 ++ 0#5 ++ 32#6) = .ok (.add 9#5 18#5 7#5)
    ∧ decode (0#6 ++ 9#5 ++ 18#5 ++ 7#5 ++ 0#5 ++ 33#6) = .ok (.addu 9#5 18#5 7#5)
    ∧ decode (0#6 ++ 9#5 ++ 18#5 ++ 7#5 ++ 0#5 ++ 34#6) = .ok (.sub 9#5 18#5 7#5)
    ∧ decode (0#6 ++ 9#5 ++ 18#5 ++ 7#5 ++ 0#5 ++ 35#6) = .ok (.subu 9#5 18#5 7#5)
    ∧ decode (0#6 ++ 9#5 ++ 18#5 ++ 7#5 ++ 0#5 ++ 44#6) = .ok (.dadd 9#5 18#5 7#5)
    ∧ decode (0#6 ++ 9#5 ++ 18#5 ++ 7#5 ++ 0#5 ++ 45#6) = .ok (.daddu 9#5 18#5 7#5)
    ∧ decode (0#6 ++ 9#5 ++ 18#5 ++ 7#5 ++ 0#5 ++ 46#6) = .ok (.dsub 9#5 18#5 7#5)
    ∧ decode (0#6 ++ 9#5 ++ 18#5 ++ 7#5 ++ 0#5 ++ 47#6) = .ok (.dsubu 9#5 18#5 7#5)
    ∧ decode (0#6 ++ 9#5 ++ 18#5 ++ 7#5 ++ 0#5 ++ 36#6) = .ok (.and 9#5 18#5 7#5)
    ∧ decode (0#6 ++ 9#5 ++ 18#5 ++ 7#5 ++ 0#5 ++ 37#6) = .ok (.or 9#5 18#5 7#5)
    ∧ decode (0#6 ++ 9#5 ++ 18#5 ++ 7#5 ++ 0#5 ++ 38#6) = .ok (.xor 9#5 18#5 7#5)
    ∧ decode (0#6 ++ 9#5 ++ 18#5 ++ 7#5 ++ 0#5 ++ 39#6) = .ok (.nor 9#5 18#5 7#5)
    ∧ decode (0#6 ++ 9#5 ++ 18#5 ++ 7#5 ++ 0#5 ++ 42#6) = .ok (.slt 9#5 18#5 7#5)
    ∧ decode (0#6 ++ 9#5 ++ 18#5 ++ 7#5 ++ 0#5 ++ 43#6) = .ok (.sltu 9#5 18#5 7#5)
    ∧ decode (0#6 ++ 9#5 ++ 18#5 ++ 7#5 ++ 0#5 ++ 11#6) = .ok (.movn 9#5 18#5 7#5)
    ∧ decode (0#6 ++ 9#5 ++ 18#5 ++ 7#5 ++ 0#5 ++ 10#6) = .ok (.movz 9#5 18#5 7#5) := by decide +kernel

/-- Integer arithmetic, logic, compare, conditional move (41_alu): words by field, from 30_encoding and the instruction rules. -/
theorem test_decode_alu_b :
    decode (8#6 ++ 9#5 ++ 18#5 ++ 0x8F31#16) = .ok (.addi 9#5 18#5 0x8F31#16)
    ∧ decode (9#6 ++ 9#5 ++ 18#5 ++ 0x8F31#16) = .ok (.addiu 9#5 18#5 0x8F31#16)
    ∧ decode (24#6 ++ 9#5 ++ 18#5 ++ 0x8F31#16) = .ok (.daddi 9#5 18#5 0x8F31#16)
    ∧ decode (25#6 ++ 9#5 ++ 18#5 ++ 0x8F31#16) = .ok (.daddiu 9#5 18#5 0x8F31#16)
    ∧ decode (12#6 ++ 9#5 ++ 18#5 ++ 0x8F31#16) = .ok (.andi 9#5 18#5 0x8F31#16)
    ∧ decode (13#6 ++ 9#5 ++ 18#5 ++ 0x8F31#16) = .ok (.ori 9#5 18#5 0x8F31#16)
    ∧ decode (14#6 ++ 9#5 ++ 18#5 ++ 0x8F31#16) = .ok (.xori 9#5 18#5 0x8F31#16)
    ∧ decode (10#6 ++ 9#5 ++ 18#5 ++ 0x8F31#16) = .ok (.slti 9#5 18#5 0x8F31#16)
    ∧ decode (11#6 ++ 9#5 ++ 18#5 ++ 0x8F31#16) = .ok (.sltiu 9#5 18#5 0x8F31#16)
    ∧ decode (15#6 ++ 0#5 ++ 9#5 ++ 0x8F31#16) = .ok (.lui 9#5 0x8F31#16)
    ∧ decode (0#6 ++ 9#5 ++ 5#3 ++ 0#2 ++ 18#5 ++ 0#5 ++ 1#6) = .ok (.movf 9#5 5#3 18#5)
    ∧ decode (0#6 ++ 9#5 ++ 5#3 ++ 1#2 ++ 18#5 ++ 0#5 ++ 1#6) = .ok (.movt 9#5 5#3 18#5) := by decide +kernel

/-- Shifts (42_shift): words by field, from 30_encoding and the instruction rules. -/
theorem test_decode_shifts :
    decode (0#6 ++ 0#5 ++ 9#5 ++ 18#5 ++ 7#5 ++ 0#6) = .ok (.sll 9#5 18#5 7#5)
    ∧ decode (0#6 ++ 0#5 ++ 9#5 ++ 18#5 ++ 7#5 ++ 2#6) = .ok (.srl 9#5 18#5 7#5)
    ∧ decode (0#6 ++ 0#5 ++ 9#5 ++ 18#5 ++ 7#5 ++ 3#6) = .ok (.sra 9#5 18#5 7#5)
    ∧ decode (0#6 ++ 0#5 ++ 9#5 ++ 18#5 ++ 7#5 ++ 56#6) = .ok (.dsll 9#5 18#5 7#5)
    ∧ decode (0#6 ++ 0#5 ++ 9#5 ++ 18#5 ++ 7#5 ++ 58#6) = .ok (.dsrl 9#5 18#5 7#5)
    ∧ decode (0#6 ++ 0#5 ++ 9#5 ++ 18#5 ++ 7#5 ++ 59#6) = .ok (.dsra 9#5 18#5 7#5)
    ∧ decode (0#6 ++ 0#5 ++ 9#5 ++ 18#5 ++ 7#5 ++ 60#6) = .ok (.dsll32 9#5 18#5 7#5)
    ∧ decode (0#6 ++ 0#5 ++ 9#5 ++ 18#5 ++ 7#5 ++ 62#6) = .ok (.dsrl32 9#5 18#5 7#5)
    ∧ decode (0#6 ++ 0#5 ++ 9#5 ++ 18#5 ++ 7#5 ++ 63#6) = .ok (.dsra32 9#5 18#5 7#5)
    ∧ decode (0#6 ++ 9#5 ++ 18#5 ++ 7#5 ++ 0#5 ++ 4#6) = .ok (.sllv 9#5 18#5 7#5)
    ∧ decode (0#6 ++ 9#5 ++ 18#5 ++ 7#5 ++ 0#5 ++ 6#6) = .ok (.srlv 9#5 18#5 7#5)
    ∧ decode (0#6 ++ 9#5 ++ 18#5 ++ 7#5 ++ 0#5 ++ 7#6) = .ok (.srav 9#5 18#5 7#5)
    ∧ decode (0#6 ++ 9#5 ++ 18#5 ++ 7#5 ++ 0#5 ++ 20#6) = .ok (.dsllv 9#5 18#5 7#5)
    ∧ decode (0#6 ++ 9#5 ++ 18#5 ++ 7#5 ++ 0#5 ++ 22#6) = .ok (.dsrlv 9#5 18#5 7#5)
    ∧ decode (0#6 ++ 9#5 ++ 18#5 ++ 7#5 ++ 0#5 ++ 23#6) = .ok (.dsrav 9#5 18#5 7#5) := by decide +kernel

/-- Multiply, divide, HI and LO (43_muldiv): words by field, from 30_encoding and the instruction rules. -/
theorem test_decode_muldiv :
    decode (0#6 ++ 9#5 ++ 18#5 ++ 0#5 ++ 0#5 ++ 24#6) = .ok (.mult 9#5 18#5)
    ∧ decode (0#6 ++ 9#5 ++ 18#5 ++ 0#5 ++ 0#5 ++ 25#6) = .ok (.multu 9#5 18#5)
    ∧ decode (0#6 ++ 9#5 ++ 18#5 ++ 0#5 ++ 0#5 ++ 26#6) = .ok (.div 9#5 18#5)
    ∧ decode (0#6 ++ 9#5 ++ 18#5 ++ 0#5 ++ 0#5 ++ 27#6) = .ok (.divu 9#5 18#5)
    ∧ decode (0#6 ++ 9#5 ++ 18#5 ++ 0#5 ++ 0#5 ++ 28#6) = .ok (.dmult 9#5 18#5)
    ∧ decode (0#6 ++ 9#5 ++ 18#5 ++ 0#5 ++ 0#5 ++ 29#6) = .ok (.dmultu 9#5 18#5)
    ∧ decode (0#6 ++ 9#5 ++ 18#5 ++ 0#5 ++ 0#5 ++ 30#6) = .ok (.ddiv 9#5 18#5)
    ∧ decode (0#6 ++ 9#5 ++ 18#5 ++ 0#5 ++ 0#5 ++ 31#6) = .ok (.ddivu 9#5 18#5)
    ∧ decode (0#6 ++ 0#5 ++ 0#5 ++ 9#5 ++ 0#5 ++ 16#6) = .ok (.mfhi 9#5)
    ∧ decode (0#6 ++ 0#5 ++ 0#5 ++ 9#5 ++ 0#5 ++ 18#6) = .ok (.mflo 9#5)
    ∧ decode (0#6 ++ 9#5 ++ 0#5 ++ 0#5 ++ 0#5 ++ 17#6) = .ok (.mthi 9#5)
    ∧ decode (0#6 ++ 9#5 ++ 0#5 ++ 0#5 ++ 0#5 ++ 19#6) = .ok (.mtlo 9#5) := by decide +kernel

/-- Jumps and branches (44_jump_branch): words by field, from 30_encoding and the instruction rules. -/
theorem test_decode_jumps_branches_a :
    decode (2#6 ++ 0x2345678#26) = .ok (.j 0x2345678#26)
    ∧ decode (3#6 ++ 0x2345678#26) = .ok (.jal 0x2345678#26)
    ∧ decode (0#6 ++ 9#5 ++ 0#5 ++ 0#5 ++ 0#5 ++ 8#6) = .ok (.jr 9#5)
    ∧ decode (0#6 ++ 9#5 ++ 0#5 ++ 18#5 ++ 0#5 ++ 9#6) = .ok (.jalr 9#5 18#5)
    ∧ decode (4#6 ++ 9#5 ++ 18#5 ++ 0x8F31#16) = .ok (.beq 9#5 18#5 0x8F31#16)
    ∧ decode (5#6 ++ 9#5 ++ 18#5 ++ 0x8F31#16) = .ok (.bne 9#5 18#5 0x8F31#16)
    ∧ decode (20#6 ++ 9#5 ++ 18#5 ++ 0x8F31#16) = .ok (.beql 9#5 18#5 0x8F31#16)
    ∧ decode (21#6 ++ 9#5 ++ 18#5 ++ 0x8F31#16) = .ok (.bnel 9#5 18#5 0x8F31#16)
    ∧ decode (6#6 ++ 9#5 ++ 0#5 ++ 0x8F31#16) = .ok (.blez 9#5 0x8F31#16)
    ∧ decode (7#6 ++ 9#5 ++ 0#5 ++ 0x8F31#16) = .ok (.bgtz 9#5 0x8F31#16)
    ∧ decode (22#6 ++ 9#5 ++ 0#5 ++ 0x8F31#16) = .ok (.blezl 9#5 0x8F31#16)
    ∧ decode (23#6 ++ 9#5 ++ 0#5 ++ 0x8F31#16) = .ok (.bgtzl 9#5 0x8F31#16)
    ∧ decode (1#6 ++ 9#5 ++ 0#5 ++ 0x8F31#16) = .ok (.bltz 9#5 0x8F31#16)
    ∧ decode (1#6 ++ 9#5 ++ 1#5 ++ 0x8F31#16) = .ok (.bgez 9#5 0x8F31#16)
    ∧ decode (1#6 ++ 9#5 ++ 16#5 ++ 0x8F31#16) = .ok (.bltzal 9#5 0x8F31#16)
    ∧ decode (1#6 ++ 9#5 ++ 17#5 ++ 0x8F31#16) = .ok (.bgezal 9#5 0x8F31#16) := by decide +kernel

/-- Jumps and branches (44_jump_branch): words by field, from 30_encoding and the instruction rules. -/
theorem test_decode_jumps_branches_b :
    decode (1#6 ++ 9#5 ++ 2#5 ++ 0x8F31#16) = .ok (.bltzl 9#5 0x8F31#16)
    ∧ decode (1#6 ++ 9#5 ++ 3#5 ++ 0x8F31#16) = .ok (.bgezl 9#5 0x8F31#16)
    ∧ decode (1#6 ++ 9#5 ++ 18#5 ++ 0x8F31#16) = .ok (.bltzall 9#5 0x8F31#16)
    ∧ decode (1#6 ++ 9#5 ++ 19#5 ++ 0x8F31#16) = .ok (.bgezall 9#5 0x8F31#16)
    ∧ decode (17#6 ++ 8#5 ++ 5#3 ++ 0#2 ++ 0x8F31#16) = .ok (.bc1f 5#3 0x8F31#16)
    ∧ decode (17#6 ++ 8#5 ++ 5#3 ++ 1#2 ++ 0x8F31#16) = .ok (.bc1t 5#3 0x8F31#16)
    ∧ decode (17#6 ++ 8#5 ++ 5#3 ++ 2#2 ++ 0x8F31#16) = .ok (.bc1fl 5#3 0x8F31#16)
    ∧ decode (17#6 ++ 8#5 ++ 5#3 ++ 3#2 ++ 0x8F31#16) = .ok (.bc1tl 5#3 0x8F31#16) := by decide +kernel

/-- System call, breakpoint, SYNC, traps (45_trap_system): words by field, from 30_encoding and the instruction rules. -/
theorem test_decode_system_traps :
    decode (0#6 ++ 0xABCDE#20 ++ 12#6) = .ok (.syscall 0xABCDE#20)
    ∧ decode (0#6 ++ 0xABCDE#20 ++ 13#6) = .ok (.brk 0xABCDE#20)
    ∧ decode (0#6 ++ 0#5 ++ 0#5 ++ 0#5 ++ 9#5 ++ 15#6) = .ok (.sync 9#5)
    ∧ decode (0#6 ++ 9#5 ++ 18#5 ++ 0x2F5#10 ++ 48#6) = .ok (.tge 9#5 18#5 0x2F5#10)
    ∧ decode (0#6 ++ 9#5 ++ 18#5 ++ 0x2F5#10 ++ 49#6) = .ok (.tgeu 9#5 18#5 0x2F5#10)
    ∧ decode (0#6 ++ 9#5 ++ 18#5 ++ 0x2F5#10 ++ 50#6) = .ok (.tlt 9#5 18#5 0x2F5#10)
    ∧ decode (0#6 ++ 9#5 ++ 18#5 ++ 0x2F5#10 ++ 51#6) = .ok (.tltu 9#5 18#5 0x2F5#10)
    ∧ decode (0#6 ++ 9#5 ++ 18#5 ++ 0x2F5#10 ++ 52#6) = .ok (.teq 9#5 18#5 0x2F5#10)
    ∧ decode (0#6 ++ 9#5 ++ 18#5 ++ 0x2F5#10 ++ 54#6) = .ok (.tne 9#5 18#5 0x2F5#10)
    ∧ decode (1#6 ++ 9#5 ++ 8#5 ++ 0x8F31#16) = .ok (.tgei 9#5 0x8F31#16)
    ∧ decode (1#6 ++ 9#5 ++ 9#5 ++ 0x8F31#16) = .ok (.tgeiu 9#5 0x8F31#16)
    ∧ decode (1#6 ++ 9#5 ++ 10#5 ++ 0x8F31#16) = .ok (.tlti 9#5 0x8F31#16)
    ∧ decode (1#6 ++ 9#5 ++ 11#5 ++ 0x8F31#16) = .ok (.tltiu 9#5 0x8F31#16)
    ∧ decode (1#6 ++ 9#5 ++ 12#5 ++ 0x8F31#16) = .ok (.teqi 9#5 0x8F31#16)
    ∧ decode (1#6 ++ 9#5 ++ 14#5 ++ 0x8F31#16) = .ok (.tnei 9#5 0x8F31#16) := by decide +kernel

/-- CP0 and CACHE (46_cp0): words by field, from 30_encoding and the instruction rules. -/
theorem test_decode_cp0 :
    decode (16#6 ++ 0#5 ++ 9#5 ++ 18#5 ++ 0#5 ++ 0#6) = .ok (.mfc0 9#5 18#5)
    ∧ decode (16#6 ++ 1#5 ++ 9#5 ++ 18#5 ++ 0#5 ++ 0#6) = .ok (.dmfc0 9#5 18#5)
    ∧ decode (16#6 ++ 4#5 ++ 9#5 ++ 18#5 ++ 0#5 ++ 0#6) = .ok (.mtc0 9#5 18#5)
    ∧ decode (16#6 ++ 5#5 ++ 9#5 ++ 18#5 ++ 0#5 ++ 0#6) = .ok (.dmtc0 9#5 18#5)
    ∧ decode (16#6 ++ 16#5 ++ 0#5 ++ 0#5 ++ 0#5 ++ 1#6) = .ok .tlbr
    ∧ decode (16#6 ++ 16#5 ++ 0#5 ++ 0#5 ++ 0#5 ++ 2#6) = .ok .tlbwi
    ∧ decode (16#6 ++ 16#5 ++ 0#5 ++ 0#5 ++ 0#5 ++ 6#6) = .ok .tlbwr
    ∧ decode (16#6 ++ 16#5 ++ 0#5 ++ 0#5 ++ 0#5 ++ 8#6) = .ok .tlbp
    ∧ decode (16#6 ++ 16#5 ++ 0#5 ++ 0#5 ++ 0#5 ++ 24#6) = .ok .eret
    ∧ decode (47#6 ++ 9#5 ++ 18#5 ++ 0x8F31#16) = .ok (.cache 9#5 18#5 0x8F31#16) := by decide +kernel

/-- FPU moves (47_fpu_move): words by field, from 30_encoding and the instruction rules. -/
theorem test_decode_fpu_moves :
    decode (17#6 ++ 0#5 ++ 9#5 ++ 18#5 ++ 0#5 ++ 0#6) = .ok (.mfc1 9#5 18#5)
    ∧ decode (17#6 ++ 1#5 ++ 9#5 ++ 18#5 ++ 0#5 ++ 0#6) = .ok (.dmfc1 9#5 18#5)
    ∧ decode (17#6 ++ 2#5 ++ 9#5 ++ 18#5 ++ 0#5 ++ 0#6) = .ok (.cfc1 9#5 18#5)
    ∧ decode (17#6 ++ 4#5 ++ 9#5 ++ 18#5 ++ 0#5 ++ 0#6) = .ok (.mtc1 9#5 18#5)
    ∧ decode (17#6 ++ 5#5 ++ 9#5 ++ 18#5 ++ 0#5 ++ 0#6) = .ok (.dmtc1 9#5 18#5)
    ∧ decode (17#6 ++ 6#5 ++ 9#5 ++ 18#5 ++ 0#5 ++ 0#6) = .ok (.ctc1 9#5 18#5)
    ∧ decode (17#6 ++ 16#5 ++ 0#5 ++ 9#5 ++ 18#5 ++ 6#6) = .ok (.movS 9#5 18#5)
    ∧ decode (17#6 ++ 16#5 ++ 5#3 ++ 0#2 ++ 9#5 ++ 18#5 ++ 17#6) = .ok (.movfS 5#3 9#5 18#5)
    ∧ decode (17#6 ++ 16#5 ++ 5#3 ++ 1#2 ++ 9#5 ++ 18#5 ++ 17#6) = .ok (.movtS 5#3 9#5 18#5)
    ∧ decode (17#6 ++ 16#5 ++ 9#5 ++ 18#5 ++ 7#5 ++ 19#6) = .ok (.movnS 9#5 18#5 7#5)
    ∧ decode (17#6 ++ 16#5 ++ 9#5 ++ 18#5 ++ 7#5 ++ 18#6) = .ok (.movzS 9#5 18#5 7#5)
    ∧ decode (17#6 ++ 17#5 ++ 0#5 ++ 9#5 ++ 18#5 ++ 6#6) = .ok (.movD 9#5 18#5)
    ∧ decode (17#6 ++ 17#5 ++ 5#3 ++ 0#2 ++ 9#5 ++ 18#5 ++ 17#6) = .ok (.movfD 5#3 9#5 18#5)
    ∧ decode (17#6 ++ 17#5 ++ 5#3 ++ 1#2 ++ 9#5 ++ 18#5 ++ 17#6) = .ok (.movtD 5#3 9#5 18#5)
    ∧ decode (17#6 ++ 17#5 ++ 9#5 ++ 18#5 ++ 7#5 ++ 19#6) = .ok (.movnD 9#5 18#5 7#5)
    ∧ decode (17#6 ++ 17#5 ++ 9#5 ++ 18#5 ++ 7#5 ++ 18#6) = .ok (.movzD 9#5 18#5 7#5) := by decide +kernel

/-- FPU arithmetic and compare (48_fpu_arith): words by field, from 30_encoding and the instruction rules. -/
theorem test_decode_fpu_arith_a :
    decode (17#6 ++ 16#5 ++ 9#5 ++ 18#5 ++ 7#5 ++ 0#6) = .ok (.addS 9#5 18#5 7#5)
    ∧ decode (17#6 ++ 16#5 ++ 9#5 ++ 18#5 ++ 7#5 ++ 1#6) = .ok (.subS 9#5 18#5 7#5)
    ∧ decode (17#6 ++ 16#5 ++ 9#5 ++ 18#5 ++ 7#5 ++ 2#6) = .ok (.mulS 9#5 18#5 7#5)
    ∧ decode (17#6 ++ 16#5 ++ 9#5 ++ 18#5 ++ 7#5 ++ 3#6) = .ok (.divS 9#5 18#5 7#5)
    ∧ decode (17#6 ++ 16#5 ++ 0#5 ++ 9#5 ++ 18#5 ++ 4#6) = .ok (.sqrtS 9#5 18#5)
    ∧ decode (17#6 ++ 16#5 ++ 0#5 ++ 9#5 ++ 18#5 ++ 5#6) = .ok (.absS 9#5 18#5)
    ∧ decode (17#6 ++ 16#5 ++ 0#5 ++ 9#5 ++ 18#5 ++ 7#6) = .ok (.negS 9#5 18#5)
    ∧ decode (17#6 ++ 16#5 ++ 0#5 ++ 9#5 ++ 18#5 ++ 21#6) = .ok (.recipS 9#5 18#5)
    ∧ decode (17#6 ++ 16#5 ++ 0#5 ++ 9#5 ++ 18#5 ++ 22#6) = .ok (.rsqrtS 9#5 18#5)
    ∧ decode (17#6 ++ 17#5 ++ 9#5 ++ 18#5 ++ 7#5 ++ 0#6) = .ok (.addD 9#5 18#5 7#5)
    ∧ decode (17#6 ++ 17#5 ++ 9#5 ++ 18#5 ++ 7#5 ++ 1#6) = .ok (.subD 9#5 18#5 7#5)
    ∧ decode (17#6 ++ 17#5 ++ 9#5 ++ 18#5 ++ 7#5 ++ 2#6) = .ok (.mulD 9#5 18#5 7#5)
    ∧ decode (17#6 ++ 17#5 ++ 9#5 ++ 18#5 ++ 7#5 ++ 3#6) = .ok (.divD 9#5 18#5 7#5)
    ∧ decode (17#6 ++ 17#5 ++ 0#5 ++ 9#5 ++ 18#5 ++ 4#6) = .ok (.sqrtD 9#5 18#5)
    ∧ decode (17#6 ++ 17#5 ++ 0#5 ++ 9#5 ++ 18#5 ++ 5#6) = .ok (.absD 9#5 18#5)
    ∧ decode (17#6 ++ 17#5 ++ 0#5 ++ 9#5 ++ 18#5 ++ 7#6) = .ok (.negD 9#5 18#5) := by decide +kernel

/-- FPU arithmetic and compare (48_fpu_arith): words by field, from 30_encoding and the instruction rules. -/
theorem test_decode_fpu_arith_b :
    decode (17#6 ++ 17#5 ++ 0#5 ++ 9#5 ++ 18#5 ++ 21#6) = .ok (.recipD 9#5 18#5)
    ∧ decode (17#6 ++ 17#5 ++ 0#5 ++ 9#5 ++ 18#5 ++ 22#6) = .ok (.rsqrtD 9#5 18#5)
    ∧ decode (19#6 ++ 9#5 ++ 18#5 ++ 7#5 ++ 21#5 ++ 32#6) = .ok (.maddS 9#5 18#5 7#5 21#5)
    ∧ decode (19#6 ++ 9#5 ++ 18#5 ++ 7#5 ++ 21#5 ++ 33#6) = .ok (.maddD 9#5 18#5 7#5 21#5)
    ∧ decode (19#6 ++ 9#5 ++ 18#5 ++ 7#5 ++ 21#5 ++ 40#6) = .ok (.msubS 9#5 18#5 7#5 21#5)
    ∧ decode (19#6 ++ 9#5 ++ 18#5 ++ 7#5 ++ 21#5 ++ 41#6) = .ok (.msubD 9#5 18#5 7#5 21#5)
    ∧ decode (19#6 ++ 9#5 ++ 18#5 ++ 7#5 ++ 21#5 ++ 48#6) = .ok (.nmaddS 9#5 18#5 7#5 21#5)
    ∧ decode (19#6 ++ 9#5 ++ 18#5 ++ 7#5 ++ 21#5 ++ 49#6) = .ok (.nmaddD 9#5 18#5 7#5 21#5)
    ∧ decode (19#6 ++ 9#5 ++ 18#5 ++ 7#5 ++ 21#5 ++ 56#6) = .ok (.nmsubS 9#5 18#5 7#5 21#5)
    ∧ decode (19#6 ++ 9#5 ++ 18#5 ++ 7#5 ++ 21#5 ++ 57#6) = .ok (.nmsubD 9#5 18#5 7#5 21#5)
    ∧ decode (17#6 ++ 16#5 ++ 9#5 ++ 18#5 ++ 5#3 ++ 0#2 ++ 48#6) = .ok (.cFS 9#5 18#5 5#3)
    ∧ decode (17#6 ++ 16#5 ++ 9#5 ++ 18#5 ++ 5#3 ++ 0#2 ++ 49#6) = .ok (.cUnS 9#5 18#5 5#3)
    ∧ decode (17#6 ++ 16#5 ++ 9#5 ++ 18#5 ++ 5#3 ++ 0#2 ++ 50#6) = .ok (.cEqS 9#5 18#5 5#3)
    ∧ decode (17#6 ++ 16#5 ++ 9#5 ++ 18#5 ++ 5#3 ++ 0#2 ++ 51#6) = .ok (.cUeqS 9#5 18#5 5#3)
    ∧ decode (17#6 ++ 16#5 ++ 9#5 ++ 18#5 ++ 5#3 ++ 0#2 ++ 52#6) = .ok (.cOltS 9#5 18#5 5#3)
    ∧ decode (17#6 ++ 16#5 ++ 9#5 ++ 18#5 ++ 5#3 ++ 0#2 ++ 53#6) = .ok (.cUltS 9#5 18#5 5#3) := by decide +kernel

/-- FPU arithmetic and compare (48_fpu_arith): words by field, from 30_encoding and the instruction rules. -/
theorem test_decode_fpu_arith_c :
    decode (17#6 ++ 16#5 ++ 9#5 ++ 18#5 ++ 5#3 ++ 0#2 ++ 54#6) = .ok (.cOleS 9#5 18#5 5#3)
    ∧ decode (17#6 ++ 16#5 ++ 9#5 ++ 18#5 ++ 5#3 ++ 0#2 ++ 55#6) = .ok (.cUleS 9#5 18#5 5#3)
    ∧ decode (17#6 ++ 16#5 ++ 9#5 ++ 18#5 ++ 5#3 ++ 0#2 ++ 56#6) = .ok (.cSfS 9#5 18#5 5#3)
    ∧ decode (17#6 ++ 16#5 ++ 9#5 ++ 18#5 ++ 5#3 ++ 0#2 ++ 57#6) = .ok (.cNgleS 9#5 18#5 5#3)
    ∧ decode (17#6 ++ 16#5 ++ 9#5 ++ 18#5 ++ 5#3 ++ 0#2 ++ 58#6) = .ok (.cSeqS 9#5 18#5 5#3)
    ∧ decode (17#6 ++ 16#5 ++ 9#5 ++ 18#5 ++ 5#3 ++ 0#2 ++ 59#6) = .ok (.cNglS 9#5 18#5 5#3)
    ∧ decode (17#6 ++ 16#5 ++ 9#5 ++ 18#5 ++ 5#3 ++ 0#2 ++ 60#6) = .ok (.cLtS 9#5 18#5 5#3)
    ∧ decode (17#6 ++ 16#5 ++ 9#5 ++ 18#5 ++ 5#3 ++ 0#2 ++ 61#6) = .ok (.cNgeS 9#5 18#5 5#3)
    ∧ decode (17#6 ++ 16#5 ++ 9#5 ++ 18#5 ++ 5#3 ++ 0#2 ++ 62#6) = .ok (.cLeS 9#5 18#5 5#3)
    ∧ decode (17#6 ++ 16#5 ++ 9#5 ++ 18#5 ++ 5#3 ++ 0#2 ++ 63#6) = .ok (.cNgtS 9#5 18#5 5#3)
    ∧ decode (17#6 ++ 17#5 ++ 9#5 ++ 18#5 ++ 5#3 ++ 0#2 ++ 48#6) = .ok (.cFD 9#5 18#5 5#3)
    ∧ decode (17#6 ++ 17#5 ++ 9#5 ++ 18#5 ++ 5#3 ++ 0#2 ++ 49#6) = .ok (.cUnD 9#5 18#5 5#3)
    ∧ decode (17#6 ++ 17#5 ++ 9#5 ++ 18#5 ++ 5#3 ++ 0#2 ++ 50#6) = .ok (.cEqD 9#5 18#5 5#3)
    ∧ decode (17#6 ++ 17#5 ++ 9#5 ++ 18#5 ++ 5#3 ++ 0#2 ++ 51#6) = .ok (.cUeqD 9#5 18#5 5#3)
    ∧ decode (17#6 ++ 17#5 ++ 9#5 ++ 18#5 ++ 5#3 ++ 0#2 ++ 52#6) = .ok (.cOltD 9#5 18#5 5#3)
    ∧ decode (17#6 ++ 17#5 ++ 9#5 ++ 18#5 ++ 5#3 ++ 0#2 ++ 53#6) = .ok (.cUltD 9#5 18#5 5#3) := by decide +kernel

/-- FPU arithmetic and compare (48_fpu_arith): words by field, from 30_encoding and the instruction rules. -/
theorem test_decode_fpu_arith_d :
    decode (17#6 ++ 17#5 ++ 9#5 ++ 18#5 ++ 5#3 ++ 0#2 ++ 54#6) = .ok (.cOleD 9#5 18#5 5#3)
    ∧ decode (17#6 ++ 17#5 ++ 9#5 ++ 18#5 ++ 5#3 ++ 0#2 ++ 55#6) = .ok (.cUleD 9#5 18#5 5#3)
    ∧ decode (17#6 ++ 17#5 ++ 9#5 ++ 18#5 ++ 5#3 ++ 0#2 ++ 56#6) = .ok (.cSfD 9#5 18#5 5#3)
    ∧ decode (17#6 ++ 17#5 ++ 9#5 ++ 18#5 ++ 5#3 ++ 0#2 ++ 57#6) = .ok (.cNgleD 9#5 18#5 5#3)
    ∧ decode (17#6 ++ 17#5 ++ 9#5 ++ 18#5 ++ 5#3 ++ 0#2 ++ 58#6) = .ok (.cSeqD 9#5 18#5 5#3)
    ∧ decode (17#6 ++ 17#5 ++ 9#5 ++ 18#5 ++ 5#3 ++ 0#2 ++ 59#6) = .ok (.cNglD 9#5 18#5 5#3)
    ∧ decode (17#6 ++ 17#5 ++ 9#5 ++ 18#5 ++ 5#3 ++ 0#2 ++ 60#6) = .ok (.cLtD 9#5 18#5 5#3)
    ∧ decode (17#6 ++ 17#5 ++ 9#5 ++ 18#5 ++ 5#3 ++ 0#2 ++ 61#6) = .ok (.cNgeD 9#5 18#5 5#3)
    ∧ decode (17#6 ++ 17#5 ++ 9#5 ++ 18#5 ++ 5#3 ++ 0#2 ++ 62#6) = .ok (.cLeD 9#5 18#5 5#3)
    ∧ decode (17#6 ++ 17#5 ++ 9#5 ++ 18#5 ++ 5#3 ++ 0#2 ++ 63#6) = .ok (.cNgtD 9#5 18#5 5#3) := by decide +kernel

/-- FPU conversions (49_fpu_convert): words by field, from 30_encoding and the instruction rules. -/
theorem test_decode_fpu_convert_a :
    decode (17#6 ++ 16#5 ++ 0#5 ++ 9#5 ++ 18#5 ++ 36#6) = .ok (.cvtWS 9#5 18#5)
    ∧ decode (17#6 ++ 16#5 ++ 0#5 ++ 9#5 ++ 18#5 ++ 37#6) = .ok (.cvtLS 9#5 18#5)
    ∧ decode (17#6 ++ 16#5 ++ 0#5 ++ 9#5 ++ 18#5 ++ 12#6) = .ok (.roundWS 9#5 18#5)
    ∧ decode (17#6 ++ 16#5 ++ 0#5 ++ 9#5 ++ 18#5 ++ 13#6) = .ok (.truncWS 9#5 18#5)
    ∧ decode (17#6 ++ 16#5 ++ 0#5 ++ 9#5 ++ 18#5 ++ 14#6) = .ok (.ceilWS 9#5 18#5)
    ∧ decode (17#6 ++ 16#5 ++ 0#5 ++ 9#5 ++ 18#5 ++ 15#6) = .ok (.floorWS 9#5 18#5)
    ∧ decode (17#6 ++ 16#5 ++ 0#5 ++ 9#5 ++ 18#5 ++ 8#6) = .ok (.roundLS 9#5 18#5)
    ∧ decode (17#6 ++ 16#5 ++ 0#5 ++ 9#5 ++ 18#5 ++ 9#6) = .ok (.truncLS 9#5 18#5)
    ∧ decode (17#6 ++ 16#5 ++ 0#5 ++ 9#5 ++ 18#5 ++ 10#6) = .ok (.ceilLS 9#5 18#5)
    ∧ decode (17#6 ++ 16#5 ++ 0#5 ++ 9#5 ++ 18#5 ++ 11#6) = .ok (.floorLS 9#5 18#5)
    ∧ decode (17#6 ++ 17#5 ++ 0#5 ++ 9#5 ++ 18#5 ++ 36#6) = .ok (.cvtWD 9#5 18#5)
    ∧ decode (17#6 ++ 17#5 ++ 0#5 ++ 9#5 ++ 18#5 ++ 37#6) = .ok (.cvtLD 9#5 18#5)
    ∧ decode (17#6 ++ 17#5 ++ 0#5 ++ 9#5 ++ 18#5 ++ 12#6) = .ok (.roundWD 9#5 18#5)
    ∧ decode (17#6 ++ 17#5 ++ 0#5 ++ 9#5 ++ 18#5 ++ 13#6) = .ok (.truncWD 9#5 18#5)
    ∧ decode (17#6 ++ 17#5 ++ 0#5 ++ 9#5 ++ 18#5 ++ 14#6) = .ok (.ceilWD 9#5 18#5)
    ∧ decode (17#6 ++ 17#5 ++ 0#5 ++ 9#5 ++ 18#5 ++ 15#6) = .ok (.floorWD 9#5 18#5) := by decide +kernel

/-- FPU conversions (49_fpu_convert): words by field, from 30_encoding and the instruction rules. -/
theorem test_decode_fpu_convert_b :
    decode (17#6 ++ 17#5 ++ 0#5 ++ 9#5 ++ 18#5 ++ 8#6) = .ok (.roundLD 9#5 18#5)
    ∧ decode (17#6 ++ 17#5 ++ 0#5 ++ 9#5 ++ 18#5 ++ 9#6) = .ok (.truncLD 9#5 18#5)
    ∧ decode (17#6 ++ 17#5 ++ 0#5 ++ 9#5 ++ 18#5 ++ 10#6) = .ok (.ceilLD 9#5 18#5)
    ∧ decode (17#6 ++ 17#5 ++ 0#5 ++ 9#5 ++ 18#5 ++ 11#6) = .ok (.floorLD 9#5 18#5)
    ∧ decode (17#6 ++ 17#5 ++ 0#5 ++ 9#5 ++ 18#5 ++ 32#6) = .ok (.cvtSD 9#5 18#5)
    ∧ decode (17#6 ++ 20#5 ++ 0#5 ++ 9#5 ++ 18#5 ++ 32#6) = .ok (.cvtSW 9#5 18#5)
    ∧ decode (17#6 ++ 21#5 ++ 0#5 ++ 9#5 ++ 18#5 ++ 32#6) = .ok (.cvtSL 9#5 18#5)
    ∧ decode (17#6 ++ 16#5 ++ 0#5 ++ 9#5 ++ 18#5 ++ 33#6) = .ok (.cvtDS 9#5 18#5)
    ∧ decode (17#6 ++ 20#5 ++ 0#5 ++ 9#5 ++ 18#5 ++ 33#6) = .ok (.cvtDW 9#5 18#5)
    ∧ decode (17#6 ++ 21#5 ++ 0#5 ++ 9#5 ++ 18#5 ++ 33#6) = .ok (.cvtDL 9#5 18#5) := by decide +kernel

/-- The encoder writes the same word (30_encoding R224), a reserved word and a non-zero fixed field are refused, and the
bytes are read in the byte order of the memory. -/
theorem test_encode_and_reject :
    encode (.lw 9#5 2#5 4#16) = 35#6 ++ 9#5 ++ 2#5 ++ 4#16 ∧ decode (0#6 ++ 0#20 ++ 5#6) = .error (.reserved none)
    ∧ decode (0#6 ++ 1#5 ++ 4#5 ++ 5#5 ++ 0#5 ++ 0#6) = .error (.mustBeZero none)
    ∧ decodeTableWord 32 0x8D220004 = some (.lw 9#5 2#5 4#16)
    ∧ wordOfBytes true 0x8D#8 0x22#8 0x00#8 0x04#8 = 0x8D220004#32
    ∧ wordOfBytes false 0x04#8 0x00#8 0x22#8 0x8D#8 = 0x8D220004#32 := by decide +kernel

/-! ### Vectors: the state B0 of 70_reset_and_hazards R706 with Status.CU3 = 1 -/

/-- B0, big- or little-endian, with the pc at 0xFFFFFFFF80020000 and the caches initialised. -/
def boot (be : Bool) : State :=
  { State.reset with
    pc := 0xFFFFFFFF80020000#64
    caches := CacheInit.all
    tlb := State.reset.tlb.map fun e => { e with written := true }
    cp0 := { State.reset.cp0 with status := 0xB4000000#32, config := if be then 0x0000E6F3#32 else 0x000066F3#32 } }

/-- The word completes and leaves a state with the property. -/
def after (w : BitVec 32) (s : State) (p : State → Bool) : Bool :=
  match execWord w s with
  | .next t => p t
  | _ => false

/-- The word is refused for a reason. -/
def refuses (w : BitVec 32) (s : State) (r : Refusal) : Bool :=
  match execWord w s with
  | .refused q => q == r
  | _ => false

/-- $4 = a, $5 = b, $2 = 0xBAD. -/
def with45 (a b : Word) : State := setGpr 4#5 a (setGpr 5#5 b (setGpr 2#5 0xBAD#64 (boot true)))

/-- $2 afterwards, or (none) an exception taken with $2 unchanged. -/
def gprCase (x : BitVec 32 × Word × Word × Option Word) : Bool :=
  after x.1 (with45 x.2.1 x.2.2.1) fun t =>
    match x.2.2.2 with
    | some v => t.gpr 2#5 == v && t.pc == 0xFFFFFFFF80020004#64 && t.cp0.cause == 0#32
    | none => t.gpr 2#5 == 0xBAD#64 && t.pc == 0xFFFFFFFF80000180#64 && t.cp0.epc == 0xFFFFFFFF80020000#64

/-- HI and LO afterwards. -/
def hiLoCase (x : BitVec 32 × Word × Word × Word × Word) : Bool :=
  after x.1 (with45 x.2.1 x.2.2.1) fun t => t.hi == x.2.2.2.1 && t.lo == x.2.2.2.2

/-- $9 names the doubleword 80 91 A2 B3 C4 D5 E6 F7 at physical 0x30000. -/
def withData (be : Bool) : State :=
  setGpr 9#5 0xFFFFFFFF80030000#64
    { boot be with
      mem := memWriteAll id [] 0x30000 [0x80#8, 0x91#8, 0xA2#8, 0xB3#8, 0xC4#8, 0xD5#8, 0xE6#8, 0xF7#8] }

/-- $2 after a load. -/
def loadCase (x : Bool × Word × BitVec 32 × Word) : Bool :=
  after x.2.2.1 (setGpr 2#5 x.2.1 (withData x.1)) fun t => t.gpr 2#5 == x.2.2.2

/-- The doubleword at physical 0x30000 after a store of $2 over zeros, as eight bytes from the lowest address. -/
def storeCase (x : Bool × BitVec 32 × Word) : Bool :=
  after x.2.1 (setGpr 2#5 0x1122334455667788#64 (setGpr 9#5 0xFFFFFFFF80030000#64 (boot x.1))) fun t =>
    Memory.wf t.mem && (List.range 8).all fun k =>
      memRead t.mem (0x30000 + k) == x.2.2.extractLsb' (56 - 8 * k) 8

/-- Where a branch goes and what it links. -/
def branchCase (x : BitVec 32 × Word × Word × BitVec 32 × Word × Bool × Word) : Bool :=
  let s := { setGpr 4#5 x.2.1 (setGpr 5#5 x.2.2.1 (boot true)) with fcr31 := x.2.2.2.1 }
  after x.1 { s with fccPrev := s.fccAll } fun t =>
    t.gpr 31#5 == x.2.2.2.2.2.2
      && (if x.2.2.2.2.2.1 then t.pc == x.2.2.2.2.1 && t.next == none
          else t.pc == 0xFFFFFFFF80020004#64 && t.next == some x.2.2.2.2.1)

/-- $f0 (the bits under the mask) and FCR31 after an FPU instruction, or its trap; a single-precision result with FR = 0,
so that no bit of the register is open. -/
def fpuCase (x : BitVec 32 × BitVec 32 × Word × Word × Word × Option (Word × Word) × BitVec 32) : Bool :=
  let single := match x.2.2.2.2.2.1 with | some (_, m) => m == 0xFFFFFFFF#64 | none => false
  let b := boot true
  let s := { b with cp0 := { b.cp0 with status := if single then 0xB0000000#32 else 0xB4000000#32 }, fcr31 := x.2.1 }
  let put := fun (i : Reg) (v : Word) s => setFgr (i + 1#5) (v >>> 32) (setFgr i v s)
  let a := x.2.2.1
  let s := setFgr 0#5 0x5555555555555555#64 (put 2#5 a (put 4#5 x.2.2.2.1 (put 6#5 x.2.2.2.2.1 s)))
  after x.1 s fun t =>
    t.fcr31 == x.2.2.2.2.2.2
      && (match x.2.2.2.2.2.1 with
        | none => t.fgrRead 0#5 == 0x5555555555555555#64 && t.pc == 0xFFFFFFFF80000180#64
        | some (v, m) => t.pc == 0xFFFFFFFF80020004#64 && t.fgrRead 0#5 &&& m == v)

/-- spec/95_test_vectors.md V41: $4, $5 and the value of $2, or none where it takes an exception -/
theorem test_alu :
    [(0x851020#32, 0xFFFFFFFFFFFFFFFF#64, 0x1#64, some 0x0#64), (0x851020#32, 0x7FFFFFFF#64, 0x1#64, none),
     (0x851021#32, 0x7FFFFFFF#64, 0x1#64, some 0xFFFFFFFF80000000#64),
     (0x851021#32, 0xFFFFFFFF80000000#64, 0xFFFFFFFF80000000#64, some 0x0#64),
     (0x851022#32, 0x5#64, 0x7#64, some 0xFFFFFFFFFFFFFFFE#64), (0x851022#32, 0xFFFFFFFF80000000#64, 0x1#64, none),
     (0x851023#32, 0x0#64, 0x1#64, some 0xFFFFFFFFFFFFFFFF#64),
     (0x851023#32, 0xFFFFFFFF80000000#64, 0x1#64, some 0x7FFFFFFF#64),
     (0x2082FFFF#32, 0x0#64, 0x0#64, some 0xFFFFFFFFFFFFFFFF#64), (0x20820001#32, 0x7FFFFFFF#64, 0x0#64, none),
     (0x24820001#32, 0x7FFFFFFF#64, 0x0#64, some 0xFFFFFFFF80000000#64),
     (0x24828000#32, 0x0#64, 0x0#64, some 0xFFFFFFFFFFFF8000#64),
     (0x85102C#32, 0x7FFFFFFF#64, 0x1#64, some 0x80000000#64), (0x85102C#32, 0x7FFFFFFFFFFFFFFF#64, 0x1#64, none),
     (0x85102D#32, 0x7FFFFFFFFFFFFFFF#64, 0x1#64, some 0x8000000000000000#64),
     (0x85102D#32, 0xFFFFFFFFFFFFFFFF#64, 0x1#64, some 0x0#64),
     (0x85102E#32, 0x0#64, 0x1#64, some 0xFFFFFFFFFFFFFFFF#64), (0x85102E#32, 0x8000000000000000#64, 0x1#64, none),
     (0x85102F#32, 0x0#64, 0x1#64, some 0xFFFFFFFFFFFFFFFF#64),
     (0x85102F#32, 0x8000000000000000#64, 0x1#64, some 0x7FFFFFFFFFFFFFFF#64),
     (0x6082FFFF#32, 0x100000000#64, 0x0#64, some 0xFFFFFFFF#64),
     (0x60820001#32, 0x7FFFFFFFFFFFFFFF#64, 0x0#64, none),
     (0x64820001#32, 0x7FFFFFFFFFFFFFFF#64, 0x0#64, some 0x8000000000000000#64),
     (0x64828000#32, 0x0#64, 0x0#64, some 0xFFFFFFFFFFFF8000#64),
     (0x851024#32, 0xFFFF0000FFFF0000#64, 0xF0F0F0F0F0F0F0F#64, some 0xF0F00000F0F0000#64),
     (0x851025#32, 0xFFFF0000FFFF0000#64, 0xF0F0F0F0F0F0F0F#64, some 0xFFFF0F0FFFFF0F0F#64),
     (0x851026#32, 0xFFFF0000FFFF0000#64, 0xF0F0F0F0F0F0F0F#64, some 0xF0F00F0FF0F00F0F#64),
     (0x851027#32, 0xFFFF0000FFFF0000#64, 0xF0F0F0F0F0F0F0F#64, some 0xF0F00000F0F0#64),
     (0x851027#32, 0x0#64, 0x0#64, some 0xFFFFFFFFFFFFFFFF#64),
     (0x30828001#32, 0xFFFFFFFFFFFFFFFF#64, 0x0#64, some 0x8001#64),
     (0x34828001#32, 0x0#64, 0x0#64, some 0x8001#64),
     (0x3882FFFF#32, 0xFFFFFFFFFFFFFFFF#64, 0x0#64, some 0xFFFFFFFFFFFF0000#64),
     (0x85102A#32, 0xFFFFFFFFFFFFFFFF#64, 0x1#64, some 0x1#64),
     (0x85102A#32, 0x1#64, 0xFFFFFFFFFFFFFFFF#64, some 0x0#64),
     (0x85102B#32, 0xFFFFFFFFFFFFFFFF#64, 0x1#64, some 0x0#64),
     (0x85102B#32, 0x1#64, 0xFFFFFFFFFFFFFFFF#64, some 0x1#64),
     (0x2882FFFF#32, 0xFFFFFFFFFFFFFFFE#64, 0x0#64, some 0x1#64), (0x2882FFFF#32, 0x0#64, 0x0#64, some 0x0#64),
     (0x2C82FFFF#32, 0x0#64, 0x0#64, some 0x1#64), (0x2C82FFFF#32, 0xFFFFFFFFFFFFFFFF#64, 0x0#64, some 0x0#64),
     (0x85100B#32, 0x1234#64, 0x0#64, some 0xBAD#64), (0x85100B#32, 0x1234#64, 0x100000000#64, some 0x1234#64),
     (0x85100A#32, 0x1234#64, 0x0#64, some 0x1234#64), (0x85100A#32, 0x1234#64, 0x1#64, some 0xBAD#64),
     (0x3C028000#32, 0x0#64, 0x0#64, some 0xFFFFFFFF80000000#64),
     (0x3C027FFF#32, 0x0#64, 0x0#64, some 0x7FFF0000#64)].all gprCase = true := by decide +kernel

/-- V42, the same -/
theorem test_shifts :
    [(0x51040#32, 0x0#64, 0x40000001#64, some 0xFFFFFFFF80000002#64),
     (0x51000#32, 0x0#64, 0x123456789ABCDEF0#64, some 0xFFFFFFFF9ABCDEF0#64),
     (0x51102#32, 0x0#64, 0xFFFFFFFF80000000#64, some 0x8000000#64),
     (0x51002#32, 0x0#64, 0xFFFFFFFF80000000#64, some 0xFFFFFFFF80000000#64),
     (0x51103#32, 0x0#64, 0xFFFFFFFF80000000#64, some 0xFFFFFFFFF8000000#64),
     (0x517C3#32, 0x0#64, 0xFFFFFFFF80000000#64, some 0xFFFFFFFFFFFFFFFF#64),
     (0x851004#32, 0x21#64, 0x1#64, some 0x2#64),
     (0x851004#32, 0xFFFFFFFFFFFFFFE1#64, 0x40000000#64, some 0xFFFFFFFF80000000#64),
     (0x851006#32, 0x3F#64, 0xFFFFFFFF80000000#64, some 0x1#64),
     (0x851007#32, 0x24#64, 0xFFFFFFFF80000000#64, some 0xFFFFFFFFF8000000#64),
     (0x517F8#32, 0x0#64, 0x1#64, some 0x80000000#64), (0x51078#32, 0x0#64, 0x8000000000000001#64, some 0x2#64),
     (0x517FA#32, 0x0#64, 0x8000000000000000#64, some 0x100000000#64),
     (0x517FB#32, 0x0#64, 0x8000000000000000#64, some 0xFFFFFFFF00000000#64),
     (0x851014#32, 0x7F#64, 0x1#64, some 0x8000000000000000#64), (0x851014#32, 0x40#64, 0x1#64, some 0x1#64),
     (0x851016#32, 0x3F#64, 0x8000000000000000#64, some 0x1#64),
     (0x851017#32, 0x3F#64, 0x8000000000000000#64, some 0xFFFFFFFFFFFFFFFF#64),
     (0x5103C#32, 0x0#64, 0x1#64, some 0x100000000#64), (0x517FC#32, 0x0#64, 0x1#64, some 0x8000000000000000#64),
     (0x517FE#32, 0x0#64, 0x8000000000000000#64, some 0x1#64),
     (0x5103E#32, 0x0#64, 0xFFFFFFFF00000000#64, some 0xFFFFFFFF#64),
     (0x5103F#32, 0x0#64, 0x8000000000000000#64, some 0xFFFFFFFF80000000#64),
     (0x517FF#32, 0x0#64, 0x8000000000000000#64, some 0xFFFFFFFFFFFFFFFF#64)].all gprCase = true := by decide +kernel

/-- V45, the same ($2 keeps 0xBAD where nothing traps) -/
theorem test_traps :
    [(0x850030#32, 0xFFFFFFFFFFFFFFFF#64, 0x0#64, some 0xBAD#64), (0x850030#32, 0x5#64, 0x5#64, none),
     (0x850031#32, 0x0#64, 0xFFFFFFFFFFFFFFFF#64, some 0xBAD#64),
     (0x850031#32, 0xFFFFFFFFFFFFFFFF#64, 0x0#64, none), (0x850032#32, 0x5#64, 0x5#64, some 0xBAD#64),
     (0x850032#32, 0xFFFFFFFFFFFFFFFF#64, 0x0#64, none),
     (0x850033#32, 0xFFFFFFFFFFFFFFFF#64, 0x0#64, some 0xBAD#64),
     (0x850033#32, 0x0#64, 0xFFFFFFFFFFFFFFFF#64, none), (0x850034#32, 0x7#64, 0x100000007#64, some 0xBAD#64),
     (0x850034#32, 0x7#64, 0x7#64, none), (0x850036#32, 0x7#64, 0x7#64, some 0xBAD#64),
     (0x850036#32, 0x7#64, 0x100000007#64, none), (0x488FFFF#32, 0xFFFFFFFFFFFFFFFE#64, 0x0#64, some 0xBAD#64),
     (0x488FFFF#32, 0x0#64, 0x0#64, none), (0x489FFFF#32, 0x0#64, 0x0#64, some 0xBAD#64),
     (0x489FFFF#32, 0xFFFFFFFFFFFFFFFF#64, 0x0#64, none), (0x48AFFFF#32, 0x0#64, 0x0#64, some 0xBAD#64),
     (0x48AFFFF#32, 0xFFFFFFFFFFFFFFFE#64, 0x0#64, none),
     (0x48BFFFF#32, 0xFFFFFFFFFFFFFFFF#64, 0x0#64, some 0xBAD#64), (0x48BFFFF#32, 0x0#64, 0x0#64, none),
     (0x48CFFFF#32, 0xFFFF#64, 0x0#64, some 0xBAD#64), (0x48CFFFF#32, 0xFFFFFFFFFFFFFFFF#64, 0x0#64, none),
     (0x48EFFFF#32, 0xFFFFFFFFFFFFFFFF#64, 0x0#64, some 0xBAD#64), (0x48EFFFF#32, 0xFFFF#64, 0x0#64, none)].all gprCase = true :=
  by decide +kernel

/-- V43: $4, $5, then HI and LO -/
theorem test_muldiv :
    [(0x850018#32, 0xFFFFFFFFFFFFFFFF#64, 0x2#64, 0xFFFFFFFFFFFFFFFF#64, 0xFFFFFFFFFFFFFFFE#64),
     (0x850018#32, 0x10000#64, 0x10000#64, 0x1#64, 0x0#64),
     (0x850019#32, 0xFFFFFFFFFFFFFFFF#64, 0xFFFFFFFFFFFFFFFF#64, 0xFFFFFFFFFFFFFFFE#64, 0x1#64),
     (0x850019#32, 0xFFFFFFFF80000000#64, 0x2#64, 0x1#64, 0x0#64),
     (0x85001A#32, 0xFFFFFFFFFFFFFFF9#64, 0x2#64, 0xFFFFFFFFFFFFFFFF#64, 0xFFFFFFFFFFFFFFFD#64),
     (0x85001A#32, 0x7#64, 0xFFFFFFFFFFFFFFFE#64, 0x1#64, 0xFFFFFFFFFFFFFFFD#64),
     (0x85001B#32, 0xFFFFFFFFFFFFFFFF#64, 0x2#64, 0x1#64, 0x7FFFFFFF#64),
     (0x85001B#32, 0xFFFFFFFF80000000#64, 0xFFFFFFFFFFFFFFFF#64, 0xFFFFFFFF80000000#64, 0x0#64),
     (0x85001C#32, 0xFFFFFFFFFFFFFFFF#64, 0xFFFFFFFFFFFFFFFF#64, 0x0#64, 0x1#64),
     (0x85001C#32, 0x8000000000000000#64, 0x2#64, 0xFFFFFFFFFFFFFFFF#64, 0x0#64),
     (0x85001D#32, 0xFFFFFFFFFFFFFFFF#64, 0xFFFFFFFFFFFFFFFF#64, 0xFFFFFFFFFFFFFFFE#64, 0x1#64),
     (0x85001D#32, 0x8000000000000000#64, 0x2#64, 0x1#64, 0x0#64),
     (0x85001E#32, 0xFFFFFFFFFFFFFFF9#64, 0x2#64, 0xFFFFFFFFFFFFFFFF#64, 0xFFFFFFFFFFFFFFFD#64),
     (0x85001E#32, 0x8000000000000000#64, 0x2#64, 0x0#64, 0xC000000000000000#64),
     (0x85001F#32, 0xFFFFFFFFFFFFFFFF#64, 0x10#64, 0xF#64, 0xFFFFFFFFFFFFFFF#64),
     (0x85001F#32, 0x8000000000000000#64, 0xFFFFFFFFFFFFFFFF#64, 0x8000000000000000#64, 0x0#64)].all hiLoCase = true :=
  by decide +kernel

/-- V40: byte order, $2 before, and $2 after a load at $9 -/
theorem test_loads :
    [(true, 0x1111222233334444#64, 0x81220007#32, 0xFFFFFFFFFFFFFFF7#64),
     (false, 0x1111222233334444#64, 0x81220007#32, 0xFFFFFFFFFFFFFFF7#64),
     (true, 0x1111222233334444#64, 0x91220000#32, 0x80#64), (false, 0x1111222233334444#64, 0x91220000#32, 0x80#64),
     (true, 0x1111222233334444#64, 0x85220006#32, 0xFFFFFFFFFFFFE6F7#64),
     (false, 0x1111222233334444#64, 0x85220006#32, 0xFFFFFFFFFFFFF7E6#64),
     (true, 0x1111222233334444#64, 0x95220002#32, 0xA2B3#64),
     (false, 0x1111222233334444#64, 0x95220002#32, 0xB3A2#64),
     (true, 0x1111222233334444#64, 0x8D220004#32, 0xFFFFFFFFC4D5E6F7#64),
     (false, 0x1111222233334444#64, 0x8D220004#32, 0xFFFFFFFFF7E6D5C4#64),
     (true, 0x1111222233334444#64, 0x9D220000#32, 0x8091A2B3#64),
     (false, 0x1111222233334444#64, 0x9D220000#32, 0xB3A29180#64),
     (true, 0x1111222233334444#64, 0xDD220000#32, 0x8091A2B3C4D5E6F7#64),
     (false, 0x1111222233334444#64, 0xDD220000#32, 0xF7E6D5C4B3A29180#64),
     (true, 0x33334444#64, 0x89220001#32, 0xFFFFFFFF91A2B344#64),
     (false, 0x33334444#64, 0x89220001#32, 0xFFFFFFFF91804444#64),
     (true, 0x33334444#64, 0x99220001#32, 0x33338091#64), (false, 0x33334444#64, 0x99220001#32, 0x33B3A291#64),
     (true, 0x1111222233334444#64, 0x69220001#32, 0x91A2B3C4D5E6F744#64),
     (false, 0x1111222233334444#64, 0x69220001#32, 0x9180222233334444#64),
     (true, 0x1111222233334444#64, 0x6D220001#32, 0x1111222233338091#64),
     (false, 0x1111222233334444#64, 0x6D220001#32, 0x11F7E6D5C4B3A291#64)].all loadCase = true := by decide +kernel

/-- V40: byte order, and the eight bytes at $9 after a store of $2 over zeros -/
theorem test_stores :
    [(true, 0xA1220003#32, 0x8800000000#64), (false, 0xA1220003#32, 0x8800000000#64),
     (true, 0xA5220002#32, 0x778800000000#64), (false, 0xA5220002#32, 0x887700000000#64),
     (true, 0xAD220004#32, 0x55667788#64), (false, 0xAD220004#32, 0x88776655#64),
     (true, 0xFD220000#32, 0x1122334455667788#64), (false, 0xFD220000#32, 0x8877665544332211#64),
     (true, 0xA9220001#32, 0x55667700000000#64), (false, 0xA9220001#32, 0x6655000000000000#64),
     (true, 0xB9220001#32, 0x7788000000000000#64), (false, 0xB9220001#32, 0x88776600000000#64),
     (true, 0xB1220001#32, 0x11223344556677#64), (false, 0xB1220001#32, 0x2211000000000000#64),
     (true, 0xB5220002#32, 0x6677880000000000#64), (false, 0xB5220002#32, 0x887766554433#64)].all storeCase = true :=
  by decide +kernel

/-- V44: $4, $5, FCR31, where the run goes after the delay slot, whether that is nullified, $31 -/
theorem test_branches :
    [(0x8008040#32, 0x0#64, 0x0#64, 0x0#32, 0xFFFFFFFF80020100#64, false, 0x0#64),
     (0xC008040#32, 0x0#64, 0x0#64, 0x0#32, 0xFFFFFFFF80020100#64, false, 0xFFFFFFFF80020008#64),
     (0xA00008#32, 0x0#64, 0xFFFFFFFF80020100#64, 0x0#32, 0xFFFFFFFF80020100#64, false, 0x0#64),
     (0xA0F809#32, 0x0#64, 0xFFFFFFFF80020100#64, 0x0#32, 0xFFFFFFFF80020100#64, false, 0xFFFFFFFF80020008#64),
     (0x10850010#32, 0x7#64, 0x7#64, 0x0#32, 0xFFFFFFFF80020044#64, false, 0x0#64),
     (0x10850010#32, 0x7#64, 0x100000007#64, 0x0#32, 0xFFFFFFFF80020008#64, false, 0x0#64),
     (0x14850010#32, 0x7#64, 0x8#64, 0x0#32, 0xFFFFFFFF80020044#64, false, 0x0#64),
     (0x14850010#32, 0x7#64, 0x7#64, 0x0#32, 0xFFFFFFFF80020008#64, false, 0x0#64),
     (0x18800010#32, 0x0#64, 0x0#64, 0x0#32, 0xFFFFFFFF80020044#64, false, 0x0#64),
     (0x18800010#32, 0x1#64, 0x0#64, 0x0#32, 0xFFFFFFFF80020008#64, false, 0x0#64),
     (0x1C800010#32, 0x100000000#64, 0x0#64, 0x0#32, 0xFFFFFFFF80020044#64, false, 0x0#64),
     (0x1C800010#32, 0x0#64, 0x0#64, 0x0#32, 0xFFFFFFFF80020008#64, false, 0x0#64),
     (0x4800010#32, 0xFFFFFFFFFFFFFFFF#64, 0x0#64, 0x0#32, 0xFFFFFFFF80020044#64, false, 0x0#64),
     (0x4800010#32, 0x80000000#64, 0x0#64, 0x0#32, 0xFFFFFFFF80020008#64, false, 0x0#64),
     (0x4810010#32, 0x0#64, 0x0#64, 0x0#32, 0xFFFFFFFF80020044#64, false, 0x0#64),
     (0x4810010#32, 0xFFFFFFFFFFFFFFFF#64, 0x0#64, 0x0#32, 0xFFFFFFFF80020008#64, false, 0x0#64),
     (0x4900010#32, 0xFFFFFFFFFFFFFFFF#64, 0x0#64, 0x0#32, 0xFFFFFFFF80020044#64, false, 0xFFFFFFFF80020008#64),
     (0x4900010#32, 0x1#64, 0x0#64, 0x0#32, 0xFFFFFFFF80020008#64, false, 0xFFFFFFFF80020008#64),
     (0x4110010#32, 0x0#64, 0x0#64, 0x0#32, 0xFFFFFFFF80020044#64, false, 0xFFFFFFFF80020008#64),
     (0x50850010#32, 0x7#64, 0x7#64, 0x0#32, 0xFFFFFFFF80020044#64, false, 0x0#64),
     (0x50850010#32, 0x7#64, 0x8#64, 0x0#32, 0xFFFFFFFF80020008#64, true, 0x0#64),
     (0x54850010#32, 0x7#64, 0x8#64, 0x0#32, 0xFFFFFFFF80020044#64, false, 0x0#64),
     (0x54850010#32, 0x7#64, 0x7#64, 0x0#32, 0xFFFFFFFF80020008#64, true, 0x0#64),
     (0x58800010#32, 0x0#64, 0x0#64, 0x0#32, 0xFFFFFFFF80020044#64, false, 0x0#64),
     (0x58800010#32, 0x1#64, 0x0#64, 0x0#32, 0xFFFFFFFF80020008#64, true, 0x0#64),
     (0x5C800010#32, 0x9#64, 0x0#64, 0x0#32, 0xFFFFFFFF80020044#64, false, 0x0#64),
     (0x5C800010#32, 0x0#64, 0x0#64, 0x0#32, 0xFFFFFFFF80020008#64, true, 0x0#64),
     (0x4820010#32, 0xFFFFFFFFFFFFFFFF#64, 0x0#64, 0x0#32, 0xFFFFFFFF80020044#64, false, 0x0#64),
     (0x4820010#32, 0x0#64, 0x0#64, 0x0#32, 0xFFFFFFFF80020008#64, true, 0x0#64),
     (0x4830010#32, 0x0#64, 0x0#64, 0x0#32, 0xFFFFFFFF80020044#64, false, 0x0#64),
     (0x4830010#32, 0xFFFFFFFFFFFFFFFF#64, 0x0#64, 0x0#32, 0xFFFFFFFF80020008#64, true, 0x0#64),
     (0x4920010#32, 0xFFFFFFFFFFFFFFFF#64, 0x0#64, 0x0#32, 0xFFFFFFFF80020044#64, false, 0xFFFFFFFF80020008#64),
     (0x4920010#32, 0x0#64, 0x0#64, 0x0#32, 0xFFFFFFFF80020008#64, true, 0xFFFFFFFF80020008#64),
     (0x4930010#32, 0x0#64, 0x0#64, 0x0#32, 0xFFFFFFFF80020044#64, false, 0xFFFFFFFF80020008#64),
     (0x4930010#32, 0xFFFFFFFFFFFFFFFF#64, 0x0#64, 0x0#32, 0xFFFFFFFF80020008#64, true, 0xFFFFFFFF80020008#64),
     (0x45000010#32, 0x0#64, 0x0#64, 0x0#32, 0xFFFFFFFF80020044#64, false, 0x0#64),
     (0x45000010#32, 0x0#64, 0x0#64, 0x800000#32, 0xFFFFFFFF80020008#64, false, 0x0#64),
     (0x45010010#32, 0x0#64, 0x0#64, 0x800000#32, 0xFFFFFFFF80020044#64, false, 0x0#64),
     (0x45010010#32, 0x0#64, 0x0#64, 0x1000000#32, 0xFFFFFFFF80020008#64, false, 0x0#64),
     (0x45020010#32, 0x0#64, 0x0#64, 0x0#32, 0xFFFFFFFF80020044#64, false, 0x0#64),
     (0x45020010#32, 0x0#64, 0x0#64, 0x800000#32, 0xFFFFFFFF80020008#64, true, 0x0#64),
     (0x45070010#32, 0x0#64, 0x0#64, 0x2000000#32, 0xFFFFFFFF80020044#64, false, 0x0#64),
     (0x45070010#32, 0x0#64, 0x0#64, 0x800000#32, 0xFFFFFFFF80020008#64, true, 0x0#64)].all branchCase = true :=
  by decide +kernel

/-- spec/96_test_vectors_fpu.md V48: FCR31, $f2, $f4, $f6 before; $f0 with the bits of it that count (none: a trap), FCR31 after -/
theorem test_fpu_arith :
    [(0x46041000#32, 0x0#32, 0x3FC00000#64, 0x40100000#64, 0x0#64, some (0x40700000#64, 0xFFFFFFFF#64), 0x0#32),
     (0x46041000#32, 0x0#32, 0x3F800000#64, 0x33800000#64, 0x0#64, some (0x3F800000#64, 0xFFFFFFFF#64), 0x1004#32),
     (0x46241000#32, 0x0#32, 0x3FF0000000000000#64, 0x3CA0000000000000#64, 0x0#64, some (0x3FF0000000000000#64, ~~~0#64), 0x1004#32),
     (0x46241000#32, 0x2#32, 0x3FF0000000000000#64, 0x3CA0000000000000#64, 0x0#64, some (0x3FF0000000000001#64, ~~~0#64), 0x1006#32),
     (0x46041001#32, 0x0#32, 0x40A00000#64, 0x40E00000#64, 0x0#64, some (0xC0000000#64, 0xFFFFFFFF#64), 0x0#32),
     (0x46041001#32, 0x1000000#32, 0x800001#64, 0x800000#64, 0x0#64, some (0x0#64, 0xFFFFFFFF#64), 0x100300C#32),
     (0x46241001#32, 0x3#32, 0x3FF0000000000000#64, 0x3FF0000000000000#64, 0x0#64, some (0x8000000000000000#64, ~~~0#64), 0x3#32),
     (0x46041002#32, 0x0#32, 0x40400000#64, 0xBF000000#64, 0x0#64, some (0xBFC00000#64, 0xFFFFFFFF#64), 0x0#32),
     (0x46041002#32, 0x0#32, 0x7F7FFFFF#64, 0x40000000#64, 0x0#64, some (0x7F800000#64, 0xFFFFFFFF#64), 0x5014#32),
     (0x46241002#32, 0x0#32, 0x7FEFFFFFFFFFFFFF#64, 0x4000000000000000#64, 0x0#64, some (0x7FF0000000000000#64, ~~~0#64), 0x5014#32),
     (0x46241002#32, 0x1000000#32, 0x10000000000000#64, 0x3FE0000000000000#64, 0x0#64, some (0x0#64, ~~~0#64), 0x100300C#32),
     (0x46041003#32, 0x0#32, 0x3F800000#64, 0x40400000#64, 0x0#64, some (0x3EAAAAAB#64, 0xFFFFFFFF#64), 0x1004#32),
     (0x46041003#32, 0x2#32, 0x3F800000#64, 0x40400000#64, 0x0#64, some (0x3EAAAAAB#64, 0xFFFFFFFF#64), 0x1006#32),
     (0x46241003#32, 0x0#32, 0x3FF0000000000000#64, 0x4008000000000000#64, 0x0#64, some (0x3FD5555555555555#64, ~~~0#64), 0x1004#32),
     (0x46241003#32, 0x0#32, 0x3FF0000000000000#64, 0x4024000000000000#64, 0x0#64, some (0x3FB999999999999A#64, ~~~0#64), 0x1004#32),
     (0x46001004#32, 0x0#32, 0x40800000#64, 0x0#64, 0x0#64, some (0x40000000#64, 0xFFFFFFFF#64), 0x0#32),
     (0x46001004#32, 0x0#32, 0x40000000#64, 0x0#64, 0x0#64, some (0x3FB504F3#64, 0xFFFFFFFF#64), 0x1004#32),
     (0x46201004#32, 0x0#32, 0x4000000000000000#64, 0x0#64, 0x0#64, some (0x3FF6A09E667F3BCD#64, ~~~0#64), 0x1004#32),
     (0x46201004#32, 0x1#32, 0x4000000000000000#64, 0x0#64, 0x0#64, some (0x3FF6A09E667F3BCC#64, ~~~0#64), 0x1005#32),
     (0x46001005#32, 0x0#32, 0xBFC00000#64, 0x0#64, 0x0#64, some (0x3FC00000#64, 0xFFFFFFFF#64), 0x0#32),
     (0x46001005#32, 0x0#32, 0xFF800001#64, 0x0#64, 0x0#64, none, 0x20000#32),
     (0x46201005#32, 0x0#32, 0x8000000000000000#64, 0x0#64, 0x0#64, some (0x0#64, ~~~0#64), 0x0#32),
     (0x46201007#32, 0x0#32, 0x0#64, 0x0#64, 0x0#64, some (0x8000000000000000#64, ~~~0#64), 0x0#32),
     (0x46001007#32, 0x3F000#32, 0x3FC00000#64, 0x0#64, 0x0#64, some (0xBFC00000#64, 0xFFFFFFFF#64), 0x0#32),
     (0x46001007#32, 0x800#32, 0x7FC00001#64, 0x0#64, 0x0#64, none, 0x10800#32),
     (0x4CC41020#32, 0x0#32, 0x40000000#64, 0x40400000#64, 0x3F800000#64, some (0x40E00000#64, 0xFFFFFFFF#64), 0x0#32),
     (0x4CC41020#32, 0x0#32, 0x3F800001#64, 0x3F800001#64, 0xBF800002#64, some (0x0#64, 0xFFFFFFFF#64), 0x1004#32),
     (0x4CC41028#32, 0x0#32, 0x40000000#64, 0x40400000#64, 0x3F800000#64, some (0x40A00000#64, 0xFFFFFFFF#64), 0x0#32),
     (0x4CC41031#32, 0x0#32, 0x4000000000000000#64, 0x4008000000000000#64, 0x3FF0000000000000#64, some (0xC01C000000000000#64, ~~~0#64), 0x0#32),
     (0x4CC41038#32, 0x0#32, 0x40000000#64, 0x40400000#64, 0x3F800000#64, some (0xC0A00000#64, 0xFFFFFFFF#64), 0x0#32),
     (0x4CC41030#32, 0x0#32, 0x3F800000#64, 0x3F800000#64, 0xBF800000#64, some (0x80000000#64, 0xFFFFFFFF#64), 0x0#32),
     (0x4CC41030#32, 0x0#32, 0x0#64, 0x7F800000#64, 0x3F800000#64, some (0x7FBFFFFF#64, 0xFFFFFFFF#64), 0x10040#32),
     (0x4CC41021#32, 0x0#32, 0x3FF0000000000001#64, 0x3FF0000000000001#64, 0xBFF0000000000000#64, some (0x3CC0000000000000#64, ~~~0#64), 0x1004#32),
     (0x46001015#32, 0x0#32, 0x0#64, 0x0#64, 0x0#64, some (0x7F800000#64, 0xFFFFFFFF#64), 0x8020#32),
     (0x46001015#32, 0x400#32, 0x0#64, 0x0#64, 0x0#64, none, 0x8400#32),
     (0x46201015#32, 0x0#32, 0x7FF0000000000000#64, 0x0#64, 0x0#64, some (0x0#64, ~~~0#64), 0x0#32),
     (0x46201015#32, 0x0#32, 0xFFF0000000000000#64, 0x0#64, 0x0#64, some (0x8000000000000000#64, ~~~0#64), 0x0#32),
     (0x46001016#32, 0x0#32, 0xBF800000#64, 0x0#64, 0x0#64, some (0x7FBFFFFF#64, 0xFFFFFFFF#64), 0x10040#32),
     (0x46001016#32, 0x0#32, 0x0#64, 0x0#64, 0x0#64, some (0x7F800000#64, 0xFFFFFFFF#64), 0x8020#32)].all fpuCase = true :=
  by decide +kernel

/-- V48: the same -/
theorem test_fpu_compare :
    [
     (0x4624113C#32, 0x0#32, 0x3FF0000000000000#64, 0x4000000000000000#64, 0x0#64, some (0#64, 0#64), 0x2000000#32),
     (0x4624113C#32, 0xFE800000#32, 0x3FF0000000000000#64, 0x4000000000000000#64, 0x0#64, some (0#64, 0#64), 0xFE800000#32),
     (0x46241732#32, 0xFE800000#32, 0x3FF0000000000000#64, 0x3FF0000000000000#64, 0x0#64, some (0#64, 0#64), 0xFE800000#32),
     (0x46241732#32, 0xFE800000#32, 0x3FF0000000000000#64, 0x4000000000000000#64, 0x0#64, some (0#64, 0#64), 0x7E800000#32),
     (0x46041737#32, 0x0#32, 0x7F800001#64, 0x3F800000#64, 0x0#64, some (0#64, 0#64), 0x80000000#32),
     (0x46041037#32, 0x0#32, 0x3F800000#64, 0x40000000#64, 0x0#64, some (0#64, 0#64), 0x800000#32),
     (0x4604103C#32, 0x800800#32, 0x7F800001#64, 0x3F800000#64, 0x0#64, none, 0x810800#32),
     (0x4604103C#32, 0x0#32, 0x3F800000#64, 0x40000000#64, 0x0#64, some (0#64, 0#64), 0x800000#32),
     (0x46041032#32, 0x800#32, 0x7FC00000#64, 0x3F800000#64, 0x0#64, none, 0x10800#32),
     (0x46041032#32, 0x0#32, 0x3F800000#64, 0x40000000#64, 0x0#64, some (0#64, 0#64), 0x0#32),
     (0x4604103E#32, 0x3F000#32, 0x40000000#64, 0x40000000#64, 0x0#64, some (0#64, 0#64), 0x800000#32),
     (0x4604103E#32, 0x0#32, 0x3F800000#64, 0x40000000#64, 0x0#64, some (0#64, 0#64), 0x800000#32),
     (0x46041030#32, 0x0#32, 0x3F800000#64, 0x40000000#64, 0x0#64, some (0#64, 0#64), 0x0#32),
     (0x46041030#32, 0x0#32, 0x3F800000#64, 0x7FC00000#64, 0x0#64, some (0#64, 0#64), 0x10040#32),
     (0x46041031#32, 0x0#32, 0x3F800000#64, 0x40000000#64, 0x0#64, some (0#64, 0#64), 0x0#32),
     (0x46041031#32, 0x0#32, 0x3F800000#64, 0x7FC00000#64, 0x0#64, some (0#64, 0#64), 0x810040#32),
     (0x46041033#32, 0x0#32, 0x3F800000#64, 0x40000000#64, 0x0#64, some (0#64, 0#64), 0x0#32),
     (0x46041033#32, 0x0#32, 0x3F800000#64, 0x7FC00000#64, 0x0#64, some (0#64, 0#64), 0x810040#32),
     (0x46041034#32, 0x0#32, 0x3F800000#64, 0x40000000#64, 0x0#64, some (0#64, 0#64), 0x800000#32),
     (0x46041034#32, 0x0#32, 0x3F800000#64, 0x7FC00000#64, 0x0#64, some (0#64, 0#64), 0x10040#32),
     (0x46041035#32, 0x0#32, 0x3F800000#64, 0x40000000#64, 0x0#64, some (0#64, 0#64), 0x800000#32),
     (0x46041035#32, 0x0#32, 0x3F800000#64, 0x7FC00000#64, 0x0#64, some (0#64, 0#64), 0x810040#32),
     (0x46041036#32, 0x0#32, 0x3F800000#64, 0x40000000#64, 0x0#64, some (0#64, 0#64), 0x800000#32),
     (0x46041036#32, 0x0#32, 0x3F800000#64, 0x7FC00000#64, 0x0#64, some (0#64, 0#64), 0x10040#32),
     (0x46041038#32, 0x0#32, 0x3F800000#64, 0x40000000#64, 0x0#64, some (0#64, 0#64), 0x0#32),
     (0x46041038#32, 0x0#32, 0x3F800000#64, 0x7FC00000#64, 0x0#64, some (0#64, 0#64), 0x10040#32),
     (0x46041039#32, 0x0#32, 0x3F800000#64, 0x40000000#64, 0x0#64, some (0#64, 0#64), 0x0#32),
     (0x46041039#32, 0x0#32, 0x3F800000#64, 0x7FC00000#64, 0x0#64, some (0#64, 0#64), 0x810040#32),
     (0x4604103A#32, 0x0#32, 0x3F800000#64, 0x40000000#64, 0x0#64, some (0#64, 0#64), 0x0#32),
     (0x4604103A#32, 0x0#32, 0x3F800000#64, 0x7FC00000#64, 0x0#64, some (0#64, 0#64), 0x10040#32),
     (0x4604103B#32, 0x0#32, 0x3F800000#64, 0x40000000#64, 0x0#64, some (0#64, 0#64), 0x0#32),
     (0x4604103B#32, 0x0#32, 0x3F800000#64, 0x7FC00000#64, 0x0#64, some (0#64, 0#64), 0x810040#32),
     (0x4604103D#32, 0x0#32, 0x3F800000#64, 0x40000000#64, 0x0#64, some (0#64, 0#64), 0x800000#32),
     (0x4604103D#32, 0x0#32, 0x3F800000#64, 0x7FC00000#64, 0x0#64, some (0#64, 0#64), 0x810040#32),
     (0x4604103F#32, 0x0#32, 0x3F800000#64, 0x40000000#64, 0x0#64, some (0#64, 0#64), 0x800000#32),
     (0x4604103F#32, 0x0#32, 0x3F800000#64, 0x7FC00000#64, 0x0#64, some (0#64, 0#64), 0x810040#32)].all fpuCase = true :=
  by decide +kernel

/-- V49: the same -/
theorem test_fpu_convert :
    [(0x46001024#32, 0x0#32, 0x40200000#64, 0x0#64, 0x0#64, some (0x2#64, 0xFFFFFFFF#64), 0x1004#32),
     (0x46001024#32, 0x1#32, 0x40200000#64, 0x0#64, 0x0#64, some (0x2#64, 0xFFFFFFFF#64), 0x1005#32),
     (0x46201024#32, 0x0#32, 0x41DFFFFFFFC00000#64, 0x0#64, 0x0#64, some (0x7FFFFFFF#64, 0xFFFFFFFF#64), 0x0#32),
     (0x46201024#32, 0x1#32, 0x41DFFFFFFFE00000#64, 0x0#64, 0x0#64, some (0x7FFFFFFF#64, 0xFFFFFFFF#64), 0x1005#32),
     (0x46201025#32, 0x0#32, 0x4202A05F20000000#64, 0x0#64, 0x0#64, some (0x2540BE400#64, ~~~0#64), 0x0#32),
     (0x46201025#32, 0x0#32, 0x4340000000000000#64, 0x0#64, 0x0#64, none, 0x20000#32),
     (0x46001025#32, 0x0#32, 0xBFC00000#64, 0x0#64, 0x0#64, some (0xFFFFFFFFFFFFFFFE#64, ~~~0#64), 0x1004#32),
     (0x46001025#32, 0x0#32, 0x5D800000#64, 0x0#64, 0x0#64, none, 0x20000#32),
     (0x4600100C#32, 0x3#32, 0x40200000#64, 0x0#64, 0x0#64, some (0x2#64, 0xFFFFFFFF#64), 0x1007#32),
     (0x4600100C#32, 0x3#32, 0xC0200000#64, 0x0#64, 0x0#64, some (0xFFFFFFFE#64, 0xFFFFFFFF#64), 0x1007#32),
     (0x4620100C#32, 0x0#32, 0x3FF8000000000000#64, 0x0#64, 0x0#64, some (0x2#64, 0xFFFFFFFF#64), 0x1004#32),
     (0x4620100C#32, 0x0#32, 0xBFE0000000000000#64, 0x0#64, 0x0#64, some (0x0#64, 0xFFFFFFFF#64), 0x1004#32),
     (0x4600100D#32, 0x3#32, 0x40200000#64, 0x0#64, 0x0#64, some (0x2#64, 0xFFFFFFFF#64), 0x1007#32),
     (0x4600100D#32, 0x3#32, 0xC0200000#64, 0x0#64, 0x0#64, some (0xFFFFFFFE#64, 0xFFFFFFFF#64), 0x1007#32),
     (0x4620100D#32, 0x0#32, 0x3FF8000000000000#64, 0x0#64, 0x0#64, some (0x1#64, 0xFFFFFFFF#64), 0x1004#32),
     (0x4620100D#32, 0x0#32, 0xBFE0000000000000#64, 0x0#64, 0x0#64, some (0x0#64, 0xFFFFFFFF#64), 0x1004#32),
     (0x4600100E#32, 0x3#32, 0x40200000#64, 0x0#64, 0x0#64, some (0x3#64, 0xFFFFFFFF#64), 0x1007#32),
     (0x4600100E#32, 0x3#32, 0xC0200000#64, 0x0#64, 0x0#64, some (0xFFFFFFFE#64, 0xFFFFFFFF#64), 0x1007#32),
     (0x4620100E#32, 0x0#32, 0x3FF8000000000000#64, 0x0#64, 0x0#64, some (0x2#64, 0xFFFFFFFF#64), 0x1004#32),
     (0x4620100E#32, 0x0#32, 0xBFE0000000000000#64, 0x0#64, 0x0#64, some (0x0#64, 0xFFFFFFFF#64), 0x1004#32),
     (0x4600100F#32, 0x0#32, 0x40200000#64, 0x0#64, 0x0#64, some (0x2#64, 0xFFFFFFFF#64), 0x1004#32),
     (0x4600100F#32, 0x0#32, 0xC0200000#64, 0x0#64, 0x0#64, some (0xFFFFFFFD#64, 0xFFFFFFFF#64), 0x1004#32),
     (0x4620100F#32, 0x0#32, 0x3FF8000000000000#64, 0x0#64, 0x0#64, some (0x1#64, 0xFFFFFFFF#64), 0x1004#32),
     (0x4620100F#32, 0x0#32, 0xBFE0000000000000#64, 0x0#64, 0x0#64, some (0xFFFFFFFF#64, 0xFFFFFFFF#64), 0x1004#32),
     (0x46201008#32, 0x0#32, 0x4004000000000000#64, 0x0#64, 0x0#64, some (0x2#64, ~~~0#64), 0x1004#32),
     (0x46201008#32, 0x0#32, 0xC004000000000000#64, 0x0#64, 0x0#64, some (0xFFFFFFFFFFFFFFFE#64, ~~~0#64), 0x1004#32),
     (0x46001008#32, 0x0#32, 0x4F800000#64, 0x0#64, 0x0#64, some (0x100000000#64, ~~~0#64), 0x0#32),
     (0x46201009#32, 0x0#32, 0x4004000000000000#64, 0x0#64, 0x0#64, some (0x2#64, ~~~0#64), 0x1004#32),
     (0x46201009#32, 0x0#32, 0xC004000000000000#64, 0x0#64, 0x0#64, some (0xFFFFFFFFFFFFFFFE#64, ~~~0#64), 0x1004#32),
     (0x46001009#32, 0x0#32, 0x4F800000#64, 0x0#64, 0x0#64, some (0x100000000#64, ~~~0#64), 0x0#32),
     (0x4620100A#32, 0x0#32, 0x4004000000000000#64, 0x0#64, 0x0#64, some (0x3#64, ~~~0#64), 0x1004#32),
     (0x4620100A#32, 0x0#32, 0xC004000000000000#64, 0x0#64, 0x0#64, some (0xFFFFFFFFFFFFFFFE#64, ~~~0#64), 0x1004#32),
     (0x4600100A#32, 0x0#32, 0x4F800000#64, 0x0#64, 0x0#64, some (0x100000000#64, ~~~0#64), 0x0#32),
     (0x4620100B#32, 0x0#32, 0x4004000000000000#64, 0x0#64, 0x0#64, some (0x2#64, ~~~0#64), 0x1004#32),
     (0x4620100B#32, 0x0#32, 0xC004000000000000#64, 0x0#64, 0x0#64, some (0xFFFFFFFFFFFFFFFD#64, ~~~0#64), 0x1004#32),
     (0x4600100B#32, 0x0#32, 0x4F800000#64, 0x0#64, 0x0#64, some (0x100000000#64, ~~~0#64), 0x0#32),
     (0x46201020#32, 0x0#32, 0x3FB999999999999A#64, 0x0#64, 0x0#64, some (0x3DCCCCCD#64, 0xFFFFFFFF#64), 0x1004#32),
     (0x46201020#32, 0x1#32, 0x3FB999999999999A#64, 0x0#64, 0x0#64, some (0x3DCCCCCC#64, 0xFFFFFFFF#64), 0x1005#32),
     (0x46001021#32, 0x0#32, 0x3DCCCCCD#64, 0x0#64, 0x0#64, some (0x3FB99999A0000000#64, ~~~0#64), 0x0#32),
     (0x46001021#32, 0x0#32, 0x1#64, 0x0#64, 0x0#64, none, 0x20000#32),
     (0x46801020#32, 0x0#32, 0x1000001#64, 0x0#64, 0x0#64, some (0x4B800000#64, 0xFFFFFFFF#64), 0x1004#32),
     (0x46801020#32, 0x2#32, 0x1000001#64, 0x0#64, 0x0#64, some (0x4B800001#64, 0xFFFFFFFF#64), 0x1006#32),
     (0x46A01020#32, 0x0#32, 0x75BCD15#64, 0x0#64, 0x0#64, some (0x4CEB79A3#64, 0xFFFFFFFF#64), 0x1004#32),
     (0x46A01020#32, 0x0#32, 0xFFFFFFFFFFFFF#64, 0x0#64, 0x0#64, some (0x59800000#64, 0xFFFFFFFF#64), 0x1004#32),
     (0x46801021#32, 0x0#32, 0x80000000#64, 0x0#64, 0x0#64, some (0xC1E0000000000000#64, ~~~0#64), 0x0#32),
     (0x46801021#32, 0x0#32, 0xFFFFFFFF#64, 0x0#64, 0x0#64, some (0xBFF0000000000000#64, ~~~0#64), 0x0#32),
     (0x46A01021#32, 0x0#32, 0x75BCD15#64, 0x0#64, 0x0#64, some (0x419D6F3454000000#64, ~~~0#64), 0x0#32),
     (0x46A01021#32, 0x0#32, 0x7FFFFFFFFFFFFFFF#64, 0x0#64, 0x0#64, none, 0x20000#32),
     (0x46001020#32, 0x0#32, 0x3F800000#64, 0x0#64, 0x0#64, none, 0x20000#32),
     (0x46201021#32, 0x0#32, 0x3FF0000000000000#64, 0x0#64, 0x0#64, none, 0x20000#32),
     (0x46801024#32, 0x0#32, 0x1#64, 0x0#64, 0x0#64, none, 0x20000#32)].all fpuCase = true := by decide +kernel

/-! ### Single cases of V4x, V46, V47 and V60 -/

/-- boot with Status and FCR31. -/
def bootWith (status fcr31 : BitVec 32) : State :=
  { boot true with cp0 := { (boot true).cp0 with status := status }, fcr31 := fcr31 }

/-- boot with FCR31, all of whose condition codes the last instruction left alone. -/
def settled (fcr31 : BitVec 32) : State :=
  { bootWith 0xB4000000#32 fcr31 with fccPrev := (bootWith 0xB4000000#32 fcr31).fccAll }

/-- MOVF, MOVT (M4-1 to M4-5), PREF and PREFX (M4-15, M4-16). -/
theorem test_movf_movt_pref :
    after 0x00601001#32 (setGpr 3#5 0x1234#64 (settled 0#32)) (fun t => t.gpr 2#5 == 0x1234#64) = true
    ∧ after 0x00641001#32 (setGpr 3#5 0x1234#64 (settled 0x00800000#32)) (fun t => t.gpr 2#5 == 0x1234#64) = true
    ∧ after 0x006D1001#32 (setGpr 3#5 0x1234#64 (settled 0x08000000#32)) (fun t => t.gpr 2#5 == 0x1234#64) = true
    ∧ after 0x006D1001#32 (setGpr 3#5 0x1234#64 (settled 0x00800000#32)) (fun t => t.gpr 2#5 == 0#64) = true
    ∧ after 0xCC9F8000#32 (with45 1#64 0#64) (fun t => t.pc == 0xFFFFFFFF80020004#64) = true
    ∧ after 0x4C85000F#32 (with45 1#64 0#64) (fun t => t.pc == 0xFFFFFFFF80020004#64) = true := by decide +kernel

/-- The data of M4-7 to M4-13: $4 = 0xFFFFFFFF80030000, $5 = 8, eight bytes at their sum. -/
def indexed : State :=
  { with45 0xFFFFFFFF80030000#64 8#64 with
    mem := memWriteAll id [] 0x30008 [0x40#8, 0x49#8, 0x0F#8, 0xDB#8, 0x3F#8, 0x80#8, 0x00#8, 0x00#8] }

/-- LDXC1 (M4-8), SWXC1 (M4-11), SDXC1 (M4-12), LWXC1 misaligned (M4-9), LDXC1 across regions (M4-10). -/
theorem test_indexed :
    after 0x4C850081#32 indexed (fun t => t.fgrRead 2#5 == 0x40490FDB3F800000#64) = true
    ∧ after 0x4C851008#32 (setFgr 2#5 0x11111111C0000000#64 indexed)
        (fun t => (List.range 8).map (fun k => memRead t.mem (0x30008 + k))
          == [0xC0#8, 0#8, 0#8, 0#8, 0x3F#8, 0x80#8, 0#8, 0#8]) = true
    ∧ after 0x4C851009#32 (setFgr 2#5 0x11111111C0000000#64 indexed)
        (fun t => (List.range 8).map (fun k => memRead t.mem (0x30008 + k))
          == [0x11#8, 0x11#8, 0x11#8, 0x11#8, 0xC0#8, 0#8, 0#8, 0#8]) = true
    ∧ after 0x4C850080#32 (setGpr 5#5 2#64 indexed) (fun t => t.cp0.badVAddr == 0xFFFFFFFF80030002#64) = true
    ∧ after 0x4C850081#32 (setGpr 4#5 0x4000000000000000#64 (setGpr 5#5 0xC000000000000000#64 indexed))
        (fun t => t.cp0.badVAddr == 0#64 && t.pc == 0xFFFFFFFF80000180#64) = true := by decide +kernel

/-- LWXC1 (M4-7) and LWC1 load the word into the low half (FR = 0). -/
theorem test_load_word_fpu :
    after 0x4C850080#32 { indexed with cp0 := { indexed.cp0 with status := 0xB0000000#32 } }
        (fun t => t.fpr32 2#5 == 0x40490FDB#32) = true
    ∧ after (49#6 ++ 4#5 ++ 2#5 ++ 8#16) { indexed with cp0 := { indexed.cp0 with status := 0xB0000000#32 } }
        (fun t => t.fpr32 2#5 == 0x40490FDB#32) = true
    ∧ after (53#6 ++ 4#5 ++ 2#5 ++ 8#16) indexed (fun t => t.fgrRead 2#5 == 0x40490FDB3F800000#64) = true
    ∧ after (57#6 ++ 4#5 ++ 2#5 ++ 8#16) (setFgr 2#5 0x11111111C0000000#64 indexed)
        (fun t => memRead t.mem 0x30008 == 0xC0#8 && memRead t.mem 0x3000C == 0x3F#8) = true
    ∧ after (61#6 ++ 4#5 ++ 2#5 ++ 8#16) (setFgr 2#5 0x11111111C0000000#64 indexed)
        (fun t => memRead t.mem 0x3000B == 0x11#8 && memRead t.mem 0x3000C == 0xC0#8) = true := by decide +kernel

/-- LL sets LLbit and LLAddr (40_load_store R283); SC with LLbit clear fails and stores nothing (R285). -/
theorem test_linked :
    after (48#6 ++ 9#5 ++ 2#5 ++ 4#16) (withData true)
        (fun t => t.gpr 2#5 == 0xFFFFFFFFC4D5E6F7#64 && t.llbit && t.cp0.llAddr == 0x3000#32) = true
    ∧ after (52#6 ++ 9#5 ++ 2#5 ++ 0#16) (withData true) (fun t => t.gpr 2#5 == 0x8091A2B3C4D5E6F7#64 && t.llbit) = true
    ∧ after (56#6 ++ 9#5 ++ 2#5 ++ 4#16) (setGpr 2#5 5#64 (withData true))
        (fun t => t.gpr 2#5 == 0#64 && t.mem == (withData true).mem) = true
    ∧ after (60#6 ++ 9#5 ++ 2#5 ++ 0#16) (setGpr 2#5 5#64 (withData true))
        (fun t => t.gpr 2#5 == 0#64 && t.mem == (withData true).mem) = true := by decide +kernel

/-- MFC1 (FM1), DMFC1 (FM4, FM5), MTC1 (FM9), DMTC1 (FM10, FM11), CFC1 (FM13, FM14), CTC1 (FM16, FM17, FM20). -/
theorem test_fpu_transfers :
    after 0x44081000#32 (setFgr 2#5 0xBF800000#64 (boot true)) (fun t => t.gpr 8#5 == 0xFFFFFFFFBF800000#64) = true
    ∧ after 0x44292000#32 (setFgr 4#5 0x4000000000000000#64 (boot true))
        (fun t => t.gpr 9#5 == 0x4000000000000000#64) = true
    ∧ after 0x44292000#32 (setFgr 4#5 1#64 (setFgr 5#5 0x40000000#64 (bootWith 0x30000000#32 0#32)))
        (fun t => t.gpr 9#5 == 0x4000000000000001#64) = true
    ∧ after 0x44880800#32 (setGpr 8#5 0x40080000#64 (bootWith 0x30000000#32 0#32))
        (fun t => t.fpr64 0#5 == 0x4008000000000000#64) = true
    ∧ after 0x44A93000#32 (setGpr 9#5 0x3FF0000000000000#64 (boot true))
        (fun t => t.fgrRead 6#5 == 0x3FF0000000000000#64) = true
    ∧ after 0x44A93000#32 (setGpr 9#5 0x3FF0000000000002#64 (bootWith 0x30000000#32 0#32))
        (fun t => t.fpr32 6#5 == 2#32 && t.fpr32 7#5 == 0x3FF00000#32) = true
    ∧ after 0x4442F800#32 (bootWith 0x34000000#32 0x80000000#32) (fun t => t.gpr 2#5 == 0xFFFFFFFF80000000#64) = true
    ∧ after 0x44420000#32 (boot true) (fun t => (t.gpr 2#5).extractLsb' 8 56 == 0x23#56) = true
    ∧ after 0x44C8F800#32 (setGpr 8#5 1#64 (bootWith 0x34000000#32 0x00801004#32)) (fun t => t.fcr31 == 1#32) = true
    ∧ after 0x44C8F800#32 (setGpr 8#5 0xFF7C0003#64 (boot true)) (fun t => t.fcr31 == 0xFF000003#32) = true
    ∧ after 0x44C8F800#32 (setGpr 8#5 0x20000#64 (boot true))
        (fun t => t.fcr31 == 0x20000#32 && t.pc == 0xFFFFFFFF80000180#64) = true := by decide +kernel

/-- FM23, FM25, FM30, FM31, FM33, FM36, FM38, FM39 with FR = 0 where the format is single; with FR = 0 a MOVT.D that names
odd registers and does not move completes (R478). -/
theorem test_fpr_moves :
    after 0x46001106#32 (setFgr 2#5 0x7FC00000#64 (bootWith 0xB0000000#32 0#32))
        (fun t => t.fpr32 4#5 == 0x7FC00000#32 && t.fcr31 == 0#32) = true
    ∧ after 0x46201106#32 (setFgr 2#5 0xFFF0000000000001#64 (boot true))
        (fun t => t.fgrRead 4#5 == 0xFFF0000000000001#64) = true
    ∧ after 0x46002091#32 (setFgr 4#5 0x40000000#64 (bootWith 0xB0000000#32 0#32))
        (fun t => t.fpr32 2#5 == 0x40000000#32) = true
    ∧ after 0x462D2091#32 (setFgr 4#5 0x4008000000000000#64 (settled 0x08000000#32))
        (fun t => t.fgrRead 2#5 == 0x4008000000000000#64) = true
    ∧ after 0x46052093#32 (setGpr 5#5 0x100000000#64 (setFgr 4#5 0x40000000#64 (bootWith 0xB0000000#32 0#32)))
        (fun t => t.fpr32 2#5 == 0x40000000#32) = true
    ∧ after 0x46202093#32 (setFgr 4#5 1#64 (boot true)) (fun t => t.fgrRead 2#5 == 0#64) = true
    ∧ after (17#6 ++ 17#5 ++ 1#5 ++ 5#5 ++ 3#5 ++ 17#6) (bootWith 0xB0000000#32 0#32)
        (fun t => t.pc == 0xFFFFFFFF80020004#64) = true
    ∧ after 0x46202092#32 (setFgr 4#5 0x7FF8000000000001#64 (boot true))
        (fun t => t.fgrRead 2#5 == 0x7FF8000000000001#64) = true := by decide +kernel

/-- K1, K3, K4 (reads), K5, K7, K8, K9, K10 (writes). -/
theorem test_cp0_moves :
    after 0x40026000#32 (boot true) (fun t => t.gpr 2#5 == 0xFFFFFFFFB4000000#64) = true
    ∧ after 0x40027000#32 { boot true with cp0 := { (boot true).cp0 with epc := 0x0000000180020008#64 } }
        (fun t => t.gpr 2#5 == 0xFFFFFFFF80020008#64) = true
    ∧ after 0x40227000#32 { boot true with cp0 := { (boot true).cp0 with epc := 0x0000000180020008#64 } }
        (fun t => t.gpr 2#5 == 0x0000000180020008#64) = true
    ∧ after 0x40843000#32 (with45 8#64 0#64) (fun t => t.cp0.wired == 8#32 && t.cp0.random == 47#6) = true
    ∧ after 0x40846800#32 (with45 0xFFFFFFFFFFFFFFFF#64 0#64) (fun t => t.cp0.cause == 0x300#32) = true
    ∧ after 0x40840000#32 (with45 0xFFFFFFFF80000023#64 0#64) (fun t => t.cp0.index == 0x23#32) = true
    ∧ after 0x40842800#32 (with45 0xFFFFFFFFFFFFFFFF#64 0#64) (fun t => t.cp0.pageMask == 0x01FFE000#32) = true
    ∧ after 0x40A45000#32 (with45 0xFFFFFFFFFFFFFFFF#64 0#64)
        (fun t => t.cp0.entryHi == 0xC00000FFFFFFE0FF#64) = true := by decide +kernel

/-- R712: with CP0_HAZARD = 1 the state before an MTC0 may be seen by the next instruction and no later one; with 0 by
none. -/
theorem test_cp0_hazard :
    after 0x40843000#32 { with45 8#64 0#64 with cp0Hazard := 1 }
      (fun t => (ageRecent t).recent.map (fun o => (o.left, o.cp0.wired)) == [(1, 0#32)]
        && (ageRecent (ageRecent t)).recent.isEmpty) = true
    ∧ after 0x40843000#32 (with45 8#64 0#64) (fun t => t.recent.isEmpty) = true := by decide +kernel

/-- R362: MULT and MTHI one instruction after MFHI are refused, and run without HILO_HAZARD; MFHI sets its guard to 2
and ADDU counts both down. -/
theorem test_hilo_hazard :
    refuses 0x00850018#32 { with45 1#64 2#64 with hiGuard := 2 } .hiLoHazard = true
    ∧ refuses 0x00800011#32 { with45 1#64 2#64 with hiGuard := 1 } .hiLoHazard = true
    ∧ after 0x00850018#32 { with45 1#64 2#64 with hiGuard := 2, hiloHazard := false } (fun t => t.lo == 2#64) = true
    ∧ after (0#6 ++ 0#10 ++ 2#5 ++ 0#5 ++ 16#6) { boot true with loGuard := 2 }
        (fun t => t.hiGuard == 2 && t.loGuard == 1 && after 0x00851021#32 t fun u => u.hiGuard == 1 && u.loGuard == 0)
        = true := by
  decide +kernel

/-- The state before K12 and K13. -/
def forTlb (index pageMask : BitVec 32) (hi lo0 lo1 : Word) : State :=
  { boot true with
    cp0 := { (boot true).cp0 with index := index, pageMask := pageMask, entryHi := hi, entryLo0 := lo0, entryLo1 := lo1 } }

/-- TLB[3] of K12 and TLB[4] of K13. -/
def k12 : State := tlbWrite 3 (forTlb 3#32 0#32 0x400005#64 0x401E#64 0#64)
def k13 : State :=
  tlbWrite 4
    { k12 with
      cp0 := { k12.cp0 with index := 4#32, pageMask := 0x6000#32, entryHi := 0x10000005#64, entryLo0 := 0x80017#64,
                            entryLo1 := 0x80117#64 } }

/-- K12, K13 (TLBWI), K15 (TLBR), K17, K19 (TLBP), K20 (TLBWR). -/
theorem test_tlb_instructions :
    after 0x42000002#32 (forTlb 3#32 0#32 0x400005#64 0x401E#64 0#64)
        (fun t => t.tlb[3] == { mask := 0#12, r := 0#2, vpn2 := 0x200#27, asid := 5#8, g := false, pfn0 := 0x100#24,
                                c0 := 3#3, d0 := true, v0 := true, pfn1 := 0#24, c1 := 0#3, d1 := false,
                                v1 := false, written := true }) = true
    ∧ (k13.tlb[4] == { mask := 3#12, r := 0#2, vpn2 := 0x8000#27, asid := 5#8, g := true, pfn0 := 0x2000#24, c0 := 2#3,
                       d0 := true, v0 := true, pfn1 := 0x2004#24, c1 := 2#3, d1 := true, v1 := true,
                       written := true }) = true
    ∧ after 0x42000001#32 { k12 with cp0 := { k12.cp0 with entryHi := 9#64, entryLo0 := 0#64 } }
        (fun t => t.cp0.entryLo0 == 0x401E#64 && t.cp0.pageMask == 0#32 && t.cp0.entryLo1 == 0#64) = true
    ∧ after 0x42000008#32 k12 (fun t => t.cp0.index == 3#32) = true
    ∧ after 0x42000008#32 { k13 with cp0 := { k13.cp0 with entryHi := 0x10006077#64 } }
        (fun t => t.cp0.index == 4#32) = true
    ∧ after 0x42000006#32 (forTlb 3#32 0#32 0x400005#64 0x401E#64 0#64)
        (fun t => t.tlb[47].vpn2 == 0x200#27 && t.tlb[3] == (boot true).tlb[3]) = true := by decide +kernel

/-- K21, K23, K24, K26, K27, K28, K32 to K36. -/
theorem test_translation :
    Machine.translate k13 .load 0x400123#64 = .ok (0x100123#36, 3#3)
    ∧ Machine.translate k13 .load 0x401123#64 = .error (.exc (.tlbInvalid false 0x401123#64))
    ∧ Machine.translate k13 .load 0x402000#64 = .error (.exc (.tlbRefill false 0x402000#64))
    ∧ Machine.translate { k13 with cp0 := { k13.cp0 with entryHi := 6#64 } } .load 0x10003678#64 = .ok (0x2003678#36, 2#3)
    ∧ Machine.translate k13 .load 0x10005678#64 = .ok (0x2005678#36, 2#3)
    ∧ Machine.translate k13 .load 0x10008000#64 = .error (.exc (.tlbRefill false 0x10008000#64))
    ∧ Machine.translate k13 .load 0xFFFFFFFF80400123#64 = .ok (0x400123#36, 3#3)
    ∧ Machine.translate k13 .load 0xFFFFFFFFA0400123#64 = .ok (0x400123#36, 2#3)
    ∧ Machine.translate k13 .load 0x9000000000001000#64 = .error (.exc (.addressError false 0x9000000000001000#64)) := by
  decide +kernel

/-- K39, K41 (ERET); CACHE Hit Write Back Invalidate of the data cache leaves the registers; SYNC. -/
theorem test_eret_cache_sync :
    after 0x42000018#32
        { bootWith 0x34000002#32 0#32 with
          cp0 := { (bootWith 0x34000002#32 0#32).cp0 with epc := 0xFFFFFFFF80020008#64 }, llbit := true }
        (fun t => t.pc == 0xFFFFFFFF80020008#64 && t.cp0.status == 0x34000000#32 && !t.llbit) = true
    ∧ after 0x42000018#32
        { bootWith 0x34000006#32 0#32 with
          cp0 := { (bootWith 0x34000006#32 0#32).cp0 with errorEpc := 0xFFFFFFFF80020100#64 } }
        (fun t => t.pc == 0xFFFFFFFF80020100#64 && t.cp0.status == 0x34000002#32) = true
    ∧ after 0xBC950000#32 (with45 0xFFFFFFFF80030000#64 0#64)
        (fun t => t.gpr 4#5 == 0xFFFFFFFF80030000#64 && t.mem == [] && t.pc == 0xFFFFFFFF80020004#64) = true
    ∧ after 0x0000000F#32 (boot true) (fun t => t.pc == 0xFFFFFFFF80020004#64) = true := by decide +kernel

/-- R703: a cached load before the caches are initialised is refused, an uncached one runs; CACHE 0x09 with TagLo = 0
initialises one line, P (bit 0) being ignored (R92). R155: an uncached store to a device changes no memory. -/
theorem test_cache_initialisation :
    let s := { withData true with caches := CacheInit.none }
    refuses (35#6 ++ 9#5 ++ 2#5 ++ 0#16) s .cacheNotInitialised = true
    ∧ after (35#6 ++ 9#5 ++ 2#5 ++ 0#16) (setGpr 9#5 0xFFFFFFFFA0030000#64 s) (fun t => t.gpr 2#5 == 0xFFFFFFFF8091A2B3#64) = true
    ∧ after 0xBD290000#32 s (fun t => t.caches.dcache == 1#1024 && t.caches.icache == 0#1024) = true
    ∧ after 0xBD290000#32 { s with cp0 := { s.cp0 with tagLo := 1#32 } } (fun t => t.caches.dcache == 1#1024) = true
    ∧ after 0xBD290000#32 { s with cp0 := { s.cp0 with tagLo := 0x80#32 } } (fun t => t.caches.dcache == 0#1024) = true := by
  decide +kernel

/-- withData with a device at all of its physical addresses, $9 an uncached one. -/
def onDevice : State :=
  setGpr 9#5 0xFFFFFFFFA0030000#64
    { withData true with physMap := [{ base := 0, size := 0x1000000000, kind := .device }] }

/-- R191, R654, R701: an uncached store may be in the write buffer; SYNC (R424) leaves it there; a store to a device is
one that the device may not have seen, until a load from the device or SYNC. -/
theorem test_write_buffer :
    let bytes := [0x30000, 0x30001, 0x30002, 0x30003]
    after (43#6 ++ 9#5 ++ 2#5 ++ 0#16) (setGpr 9#5 0xFFFFFFFFA0030000#64 (withData true))
        (fun t => t.writeBuffer.map Buffered.bytes == [bytes] && t.deviceStores.isEmpty
          && after 0x0000000F#32 t fun u => u.writeBuffer == t.writeBuffer && u.stale == t.stale) = true
    ∧ after (43#6 ++ 9#5 ++ 2#5 ++ 0#16) onDevice
        (fun t => t.mem == onDevice.mem && t.deviceStores == [bytes]
          && t.writeBuffer == [{ bytes := bytes, olds := [], after := 0 }]
          && after 0x0000000F#32 t (fun u => u.deviceStores.isEmpty && u.writeBuffer == t.writeBuffer)
          && after (35#6 ++ 9#5 ++ 2#5 ++ 0#16) t fun u => u.deviceStores.isEmpty && u.writeBuffer.isEmpty) = true := by
  decide +kernel

/-- R194: a cached store of a byte (0x80 before) leaves the old byte to the instruction cache and to memory. Hit Write
Back (0x19) leaves it to the write buffer, so that an uncached fetch may see it until the buffer is drained, while the
instruction cache can be filled with the new one only: after Hit Invalidate (0x10) no cached fetch sees it. -/
theorem test_stale_bytes :
    let s := (withData true).setField 3#3 0x30000 1 7#64
    let t := writeBackStep 0x1800 s
    let u := { t with stale := staleInvalidate t.stale 0x1800 }
    s.stale = [{ addr := 0x30000, olds := [0x80#8], held := [0x80#8] }] ∧ s.maybeDirty = [0x1800]
    ∧ s.oldBytes 2#3 0x30000 = [0x80#8] ∧ t.maybeDirty = [] ∧ t.oldBytes 3#3 0x30000 = [0x80#8]
    ∧ u.oldBytes 3#3 0x30000 = [] ∧ u.oldBytes 2#3 0x30000 = [0x80#8] ∧ (drain u).oldBytes 2#3 0x30000 = []
    ∧ (writeBackLine 0x1800 s).stale = s.stale := by
  decide +kernel

/-- R194, R191: a store that is in the write buffer stays there when a line that may be clean is written back (0x15), and
leaves it with the fourth store after it; a byte that has been written back is not behind again for a later store to
another byte of its line. -/
theorem test_write_buffer_order :
    let s := { (withData true).setField 2#3 0x30004 1 7#64 with maybeDirty := [0x1900] }
    let t := writeBackLine 0x1900 s
    let later := fun u : State => u.setField 2#3 0x40000 8 0#64
    let a := (writeBackLine 0x1800 ((withData true).setField 3#3 0x30000 1 7#64)).setField 3#3 0x30001 1 7#64
    s.oldBytes 2#3 0x30004 = [0xC4#8] ∧ t.oldBytes 2#3 0x30004 = [0xC4#8] ∧ t.maybeDirty = []
    ∧ (later (later (later t))).oldBytes 2#3 0x30004 = [0xC4#8] ∧ (later (later (later (later t)))).oldBytes 2#3 0x30004 = []
    ∧ a.oldBytes 2#3 0x30000 = [0x80#8] ∧ (drain a).oldBytes 2#3 0x30000 = [] ∧ (drain a).oldBytes 2#3 0x30001 = [0x91#8] := by
  decide +kernel

/-- R704: a mapped access before every TLB entry has been written is refused, with 47 of them written too; TLBWI of the
last one lets it run. -/
theorem test_tlb_initialisation :
    let last := { forTlb 3#32 0#32 0x400005#64 0x401E#64 0#64 with
      tlb := (boot true).tlb.set 3 { (boot true).tlb[3] with written := false } }
    Machine.translate { boot true with tlb := State.reset.tlb } .load 0x400123#64 = .error (.refuse .tlbNotInitialised)
    ∧ Machine.translate last .fetch 0x400123#64 = .error (.refuse .tlbNotInitialised)
    ∧ after 0x42000002#32 last (fun t => Machine.translate t .load 0x400123#64 == .ok (0x100123#36, 3#3)) = true := by
  decide +kernel

/-- R285: LL begins a loop; a load between it and the SC ends it, a load after the SC does not; R283: an uncached LL
begins none. -/
theorem test_link_loop :
    let ll : BitVec 32 := 48#6 ++ 9#5 ++ 2#5 ++ 0#16
    let lw : BitVec 32 := 35#6 ++ 9#5 ++ 3#5 ++ 0#16
    after ll (withData true) (fun t => t.link == { addr := some 0x30000#36, armed := true, start := 0, fails := 0 }
      && after lw t (fun u => u.link == { addr := none, armed := false, start := 0, fails := 0 })) = true
    ∧ after lw { withData true with link := { addr := some 0x30000#36, armed := false, start := 0, fails := 2 } }
      (fun t => after ll t fun u => u.link == { addr := some 0x30000#36, armed := true, start := 0, fails := 2 }) = true
    ∧ after ll (setGpr 9#5 0xFFFFFFFFA0030000#64 (withData true))
      (fun t => t.llbit && t.link == { addr := none, armed := false, start := 0, fails := 0 }) = true := by
  decide +kernel

/-- R540: C.F.W with cc = 1 checks the MIPS IV gate before its format; with cc = 0 it is Unimplemented. -/
theorem test_reserved_compare :
    execWord 0x46841130#32 (boot true) = .next (takeException .floatingPoint (setFcrCause 0x20#6 (boot true)))
    ∧ refuses 0x46841130#32 (bootWith 0x24000000#32 0#32) .mips4NotEnabled = true
    ∧ execWord 0x46841130#32 (bootWith 0x24000010#32 0#32)
        = .next (takeException .reservedInstruction (bootWith 0x24000010#32 0#32))
    ∧ execWord 0x46841030#32 (bootWith 0x24000010#32 0#32)
        = .next (takeException .floatingPoint (setFcrCause 0x20#6 (bootWith 0x24000010#32 0#32))) := ⟨rfl, by decide +kernel, rfl, rfl⟩

/-- X1, X4, X6 to X9, X36, X37: the exception that each word takes. -/
theorem test_exceptions_taken :
    execWord 0x00851020#32 (with45 0x7FFFFFFF#64 1#64) = .next (takeException .overflow (with45 0x7FFFFFFF#64 1#64))
    ∧ execWord 0x0000000C#32 (boot true) = .next (takeException .syscall (boot true))
    ∧ execWord 0x0000000D#32 (boot true) = .next (takeException .breakpoint (boot true))
    ∧ execWord 0x00000034#32 (boot true) = .next (takeException .trap (boot true))
    ∧ execWord 0x00000005#32 (boot true) = .next (takeException .reservedInstruction (boot true))
    ∧ execWord 0x46041000#32 (bootWith 0x14000000#32 0#32)
        = .next (takeException (.coprocessorUnusable 1#2) (bootWith 0x14000000#32 0#32))
    ∧ execWord 0xC4020001#32 (bootWith 0x14000000#32 0#32)
        = .next (takeException (.coprocessorUnusable 1#2) (bootWith 0x14000000#32 0#32))
    ∧ execWord 0x0085102D#32 (bootWith 0x34000010#32 0#32)
        = .next (takeException .reservedInstruction (bootWith 0x34000010#32 0#32)) :=
  ⟨rfl, rfl, rfl, rfl, rfl, rfl, rfl, rfl⟩

/-- A parity error in a data field. -/
def dataParity : ParityError := { ed := true, et := false, es := false, ee := false }

/-- The codes of R600, and X2, X3, X14, X17, X31: vector and restart address. -/
theorem test_exception_entry :
    excCode .overflow = 12#5 ∧ excCode .syscall = 8#5 ∧ excCode (.tlbRefill true 0#64) = 3#5
    ∧ excCode (.addressError false 0#64) = 4#5 ∧ excCode (.coprocessorUnusable 1#2) = 11#5
    ∧ (takeException .overflow (bootWith 0x34400000#32 0#32)).pc = 0xFFFFFFFFBFC00380#64
    ∧ (takeException .breakpoint { boot true with next := some 0#64 }).cp0.epc = 0xFFFFFFFF8001FFFC#64
    ∧ (takeException (.tlbRefill false 0x402000#64) (boot true)).pc = 0xFFFFFFFF80000000#64
    ∧ (takeException (.tlbRefill false 0x402000#64) (boot true)).cp0.badVAddr = 0x402000#64
    ∧ (takeException (.tlbRefill false 0x402000#64) (bootWith 0x34000020#32 0#32)).pc = 0xFFFFFFFF80000080#64
    ∧ (takeException (.cacheError (dataParity.onData)) (bootWith 0x34400000#32 0#32)).pc = 0xFFFFFFFFBFC00300#64 := by
  decide +kernel

/-- The outcome is a next state. -/
def nexts (o : Host.Outcome State Fault Refusal) : Bool :=
  match o with
  | .next _ => true
  | _ => false

theorem exists_next {o : Host.Outcome State Fault Refusal} (h : nexts o = true) : ∃ t, o = .next t := by
  cases o with
  | next t => exact ⟨t, rfl⟩
  | fault _ => cases h
  | refused _ => cases h

/-- A property of the state a step gives. -/
def stepsTo (s : State) (p : State → Bool) : Bool :=
  match step s with
  | .next t => p t
  | _ => false

/-- The first instruction after reset runs from where it was placed; X22 and X27 take their events instead. -/
theorem test_step :
    stepsTo (State.reset.withFetchWord 32 0x24020007) (fun t => t.gpr 2#5 == 7#64 && t.pc == 0xFFFFFFFFBFC00004#64) = true
    ∧ stepsTo { bootWith 0x34000401#32 0#32 with pins := { Pins.quiet with int := 1#6 } }
        (fun t => t.pc == 0xFFFFFFFF80000180#64 && t.cp0.epc == 0xFFFFFFFF80020000#64
          && t.cp0.status == 0x34000403#32) = true
    ∧ stepsTo { bootWith 0x3400FF01#32 0#32 with pins := { Pins.quiet with nmi := true } }
        (fun t => t.pc == 0xFFFFFFFFBFC00000#64 && t.cp0.errorEpc == 0xFFFFFFFF80020000#64
          && t.cp0.status == 0x3450FF05#32) = true := by decide +kernel

/-- X30 and R91: CacheErr after a Cache Error on a load (ER, ED) and on a fetch with a data error in addition (ED, EB);
MFC0 reads it. -/
theorem test_cache_error :
    stepsTo { bootWith 0x34000000#32 0#32 with
        mem := memWriteAll id [] 0x20000 [0x8D#8, 0x22#8, 0#8, 0#8]
        regs := (setGpr 9#5 0xFFFFFFFF80030000#64 (boot true)).regs
        pins := { Pins.quiet with dataCacheError := some dataParity } }
      (fun t => t.cp0.cacheErr == 0xA0000000#32 && t.pc == 0xFFFFFFFFA0000100#64
        && t.cp0.errorEpc == 0xFFFFFFFF80020000#64 && t.cp0.status == 0x34000004#32) = true
    ∧ stepsTo { bootWith 0x34000000#32 0#32 with pins := { Pins.quiet with fetchCacheError := some (dataParity, true) } }
        (fun t => t.cp0.cacheErr == 0x22000000#32 && t.cp0Read 27#5 == 0x22000000#64) = true := by decide +kernel

/-! ### Witnesses: for each obligation with hypotheses, states and operands that meet them -/

/-- boot in User mode, with UX as given, CU3, CU1 and FR set. -/
def userBoot (ux : Bool) : State := bootWith (if ux then 0xA4000030#32 else 0xA4000010#32) 0#32

theorem witness_StepKeepsInvariant : ∃ t, State.reset.Inv ∧ step State.reset = .next t := by
  obtain ⟨t, h⟩ := exists_next (o := step State.reset) (by decide +kernel)
  exact ⟨t, ⟨by decide, by decide, by decide, by decide, by decide, by decide, by decide, by decide, by decide,
    by decide⟩, h⟩

/-- Random at Wired = 47, the boundary of its range. -/
theorem witness_StepKeepsInvariant_random :
    State.randomInRange { boot true with cp0 := { (boot true).cp0 with wired := 47#32 } } = true
    ∧ State.randomInRange { boot true with cp0 := { (boot true).cp0 with wired := 48#32, random := 5#6 } } = true := by
  decide +kernel

/-- boot with a word placed at its pc. -/
def placed (w : Nat) : State := (boot true).withFetchWord 32 w

/-- A word whose execution goes on, one that is refused (JALR $5, $5) and one that has no next state (TLBWI with
Index = 63). -/
theorem witness_StepRunsDecodedInstruction :
    (takeEvent (placed 0x24020007) = none ∧ fetch (placed 0x24020007) = .ok 0x24020007#32
      ∧ decode 0x24020007#32 = .ok (.addiu 0#5 2#5 7#16) ∧ nexts (exec (.addiu 0#5 2#5 7#16) (placed 0x24020007)) = true)
    ∧ (takeEvent (placed 0x00A02809) = none ∧ fetch (placed 0x00A02809) = .ok 0x00A02809#32
      ∧ decode 0x00A02809#32 = .ok (.jalr 5#5 5#5)
      ∧ exec (.jalr 5#5 5#5) (placed 0x00A02809) = .refused .linkRegisterSource)
    ∧ (let s := { placed 0x42000002 with cp0 := { (boot true).cp0 with index := 63#32 } }
       takeEvent s = none ∧ fetch s = .ok 0x42000002#32 ∧ decode 0x42000002#32 = .ok .tlbwi
        ∧ exec .tlbwi s = .fault .indexAboveTlb) := by
  refine ⟨by decide +kernel, ⟨?_, ?_, ?_, rfl⟩, ⟨?_, ?_, ?_, rfl⟩⟩ <;> decide +kernel

/-- A fetch from memory; a misaligned pc; a pc whose translation is a TLB Refill; an injected Cache Error and Bus Error. -/
theorem witness_StepRunsDecodedInstruction_fetch :
    let s := placed 0x24020007
    let p := fun pins : Pins => ({ s with pins := pins } : State)
    (FetchesFrom s 0x20000#36 3#3 ∧ s.pins.fetchCacheError = none ∧ s.pins.fetchBusError = false
      ∧ regionAt s.physMap (0x20000#36 : PAddr).toNat = .ram)
    ∧ (takeEvent { s with pc := 0xFFFFFFFF80020002#64 } = none ∧ (0xFFFFFFFF80020002#64 : Word).toNat % 4 ≠ 0)
    ∧ (takeEvent { s with pc := 0x402000#64 } = none
      ∧ Machine.translate (({ s with pc := 0x402000#64 } : State).view true) .fetch 0x402000#64
          = .error (.exc (.tlbRefill false 0x402000#64)))
    ∧ (takeEvent (p { Pins.quiet with fetchCacheError := some (dataParity, true) }) = none ∧ s.de = false)
    ∧ takeEvent (p { Pins.quiet with fetchBusError := true }) = none := by
  refine ⟨⟨⟨?_, ?_, ?_, ?_⟩, ?_, ?_, ?_⟩, ?_⟩ <;> decide +kernel

/-- boot in User mode and in Supervisor mode with CU0, and the first with UX. -/
def userCp0 : State := bootWith 0xB4000010#32 0#32
def supervisorCp0 : State := bootWith 0xB4000008#32 0#32
def userCp0Wide : State := bootWith 0xB4000030#32 0#32

/-- CP0 usable in each mode: what the statements about its instructions ask of the mode. -/
theorem witness_Cp0Usable :
    Cp0Usable (bootWith 0x34000012#32 0#32) ∧ (Cp0Usable userCp0 ∧ BelowKernel userCp0.seen ∧ ¬Enabled64 userCp0.seen)
    ∧ (Cp0Usable supervisorCp0 ∧ BelowKernel supervisorCp0.seen)
    ∧ (Cp0Usable userCp0Wide ∧ BelowKernel userCp0Wide.seen ∧ Enabled64 userCp0Wide.seen) := by
  simp only [Cp0Usable, KernelMode, BelowKernel, Enabled64]; decide +kernel

theorem witness_EncodeOfDecode : decode 0x8D220004#32 = .ok (.lw 9#5 2#5 4#16) := by decide +kernel

/-- An instruction that completes in User mode, and one (SYSCALL) that takes an exception. -/
theorem witness_UserModeKeepsSystemState :
    ((userBoot false).seen.exl = false ∧ (userBoot false).seen.erl = false ∧ (userBoot false).seen.ksu = 2#2
      ∧ (userBoot false).cu 0 = false)
    ∧ nexts (exec (.addiu 0#5 2#5 7#16) (userBoot false)) = true ∧ nexts (exec (.syscall 0#20) (userBoot false)) = true := by
  decide +kernel

theorem witness_UnusableUnitTraps :
    (unitOf (.mfc0 2#5 12#5) = some 0#2 ∧ (userBoot false).cu 0 = false ∧ BelowKernel (userBoot false).seen)
    ∧ (unitOf (.movS 2#5 4#5) = some 1#2 ∧ (bootWith 0x14000000#32 0#32).cu 1 = false) := by
  simp only [BelowKernel]; decide +kernel

/-- User mode without UX, User mode without CU3, Kernel and Supervisor mode without CU3. -/
theorem witness_GatedInstructions :
    (UnitMarked (.daddu 4#5 5#5 2#5) (userBoot false) ∧ needs64 (.daddu 4#5 5#5 2#5) = true
      ∧ BelowKernel (userBoot false).seen ∧ ¬Enabled64 (userBoot false).seen)
    ∧ (UnitMarked (.movn 4#5 5#5 2#5) (bootWith 0x24000010#32 0#32) ∧ needsMips4 (.movn 4#5 5#5 2#5) = true
      ∧ (bootWith 0x24000010#32 0#32).cu 3 = false ∧ BelowKernel (bootWith 0x24000010#32 0#32).seen
      ∧ (bootWith 0x24000010#32 0#32).seen.ksu = 2#2)
    ∧ ((bootWith 0x24000000#32 0#32).cu 3 = false ∧ KernelMode (bootWith 0x24000000#32 0#32).seen)
    ∧ ((bootWith 0x24000008#32 0#32).cu 3 = false ∧ BelowKernel (bootWith 0x24000008#32 0#32).seen
      ∧ (bootWith 0x24000008#32 0#32).seen.ksu = 1#2) := by
  simp only [BelowKernel, KernelMode, Enabled64, UnitMarked, unitOf]
  refine ⟨⟨by simp, ?_⟩, ⟨by simp, ?_⟩, ?_, ?_⟩ <;> decide +kernel

/-- Words at both ends of the range: a sum that fits and one that overflows. -/
theorem witness_WordAddSub :
    HoldsWord ((with45 0x7FFFFFFF#64 0#64).gpr 4#5) ∧ HoldsWord ((with45 0x7FFFFFFF#64 1#64).gpr 5#5)
    ∧ HoldsWord ((with45 0xFFFFFFFF80000000#64 0#64).gpr 4#5) := by
  simp only [HoldsWord]; decide +kernel

/-- 64-bit operations enabled in each of the three modes. -/
theorem witness_Enabled64 :
    Enabled64 (boot true).seen ∧ Enabled64 (bootWith 0x34000048#32 0#32).seen ∧ Enabled64 (userBoot true).seen := by
  simp only [Enabled64]; decide +kernel

theorem witness_DoublewordAddSub : Enabled64 (with45 0x7FFFFFFFFFFFFFFF#64 1#64).seen := by
  simp only [Enabled64]; decide +kernel

/-- Each condition true and false. -/
theorem witness_ConditionalMoves :
    (with45 1#64 0#64).cu 3 = true ∧ (with45 1#64 0#64).gpr 5#5 = 0#64 ∧ (with45 1#64 2#64).gpr 5#5 ≠ 0#64
    ∧ (settled 0x80000000#32).cu 1 = true ∧ (settled 0x80000000#32).fccPrev.getLsbD 7 = (settled 0x80000000#32).fcc 7#3
    ∧ (settled 0x80000000#32).fcc 7#3 = true ∧ (settled 0x80000000#32).fcc 0#3 = false
    ∧ (settled 0x80000000#32).fccPrev.getLsbD 0 = (settled 0x80000000#32).fcc 0#3 := by decide +kernel

theorem witness_Shifts :
    HoldsWord ((with45 31#64 0xFFFFFFFF80000000#64).gpr 5#5) ∧ Enabled64 (with45 63#64 1#64).seen := by
  simp only [HoldsWord, Enabled64]; decide +kernel

/-- The hazard absent because the guards are 0, and because the board has none. -/
theorem witness_NoHiLoHazard :
    NoHiLoHazard (boot true) ∧ NoHiLoHazard { boot true with hiloHazard := false, hiGuard := 2 } := by
  simp only [NoHiLoHazard]; decide +kernel

theorem witness_Products :
    let s := with45 0xFFFFFFFF80000000#64 0x7FFFFFFF#64
    NoHiLoHazard s ∧ HoldsWord (s.gpr 4#5) ∧ HoldsWord (s.gpr 5#5) ∧ Enabled64 s.seen := by
  simp only [NoHiLoHazard, HoldsWord, Enabled64]; decide +kernel

theorem witness_Quotients :
    let s := with45 0xFFFFFFFF80000000#64 1#64
    NoHiLoHazard s ∧ HoldsWord (s.gpr 4#5) ∧ HoldsWord (s.gpr 5#5) ∧ s.gpr 5#5 ≠ 0#64 ∧ Enabled64 s.seen
      ∧ ¬((s.gpr 4#5).toInt = -2 ^ 31 ∧ (s.gpr 5#5).toInt = -1)
      ∧ ¬((s.gpr 4#5).toInt = -2 ^ 63 ∧ (s.gpr 5#5).toInt = -1) := by
  simp only [NoHiLoHazard, HoldsWord, Enabled64]; decide +kernel

theorem witness_MulDivAlwaysRuns : NoHiLoHazard (with45 1#64 0#64) ∧ Enabled64 (with45 1#64 0#64).seen := by
  simp only [NoHiLoHazard, Enabled64]; decide +kernel

theorem witness_HiLoMoves :
    NoHiLoHazard (boot true) ∧ (boot true).hiTag = .moved ∧ (boot true).loTag = .moved
    ∧ (boot true).hiloHazard = true ∧ Enabled64 (boot true).seen ∧ 0 < ({ boot true with hiGuard := 1 } : State).hiGuard
    ∧ 0 < ({ boot true with loGuard := 2 } : State).loGuard := by
  simp only [NoHiLoHazard, Enabled64]; decide +kernel

theorem witness_Jumps : (boot true).next = none ∧ (31#5 : Reg) ≠ 5#5 := by decide +kernel

/-- Taken and not taken, the pc at an ordinary place and at the last one whose successors do not wrap. -/
theorem witness_RegisterBranches :
    let s := with45 7#64 7#64
    let u := { with45 7#64 8#64 with pc := 0xFFFFFFFFFFFFFFF4#64 }
    (s.next = none ∧ s.gpr 4#5 = s.gpr 5#5) ∧ (u.next = none ∧ u.gpr 4#5 ≠ u.gpr 5#5 ∧ u.pc.toNat + 8 < 2 ^ 64) := by
  decide +kernel

theorem witness_LinkingBranches :
    let s := with45 0xFFFFFFFFFFFFFFFF#64 0#64
    s.next = none ∧ (4#5 : Reg) ≠ 31#5 ∧ (s.gpr 4#5).toInt < 0 ∧ 0 ≤ (s.gpr 5#5).toInt ∧ s.pc.toNat + 8 < 2 ^ 64 := by
  decide +kernel

theorem witness_ConditionCodeBranches :
    let s := settled 0x80000000#32
    s.next = none ∧ s.cu 1 = true ∧ s.cu 3 = true ∧ s.fccPrev.getLsbD 7 = s.fcc 7#3 ∧ s.fcc 7#3 = true
      ∧ s.fccPrev.getLsbD 0 = s.fcc 0#3 ∧ s.fcc 0#3 = false := by
  decide +kernel

theorem witness_UnpredictableJumpsStop :
    let s := { boot true with next := some 0#64 }
    (isJump (.beq 4#5 5#5 0#16) = true ∧ s.next ≠ none ∧ UnitMarked (.beq 4#5 5#5 0#16) s
      ∧ (needsMips4 (.beq 4#5 5#5 0#16) = true → s.cu 3 = true))
    ∧ (boot true).next = none ∧ Cp0Usable s := by
  simp only [UnitMarked, unitOf, needsMips4, Cp0Usable, KernelMode]
  refine ⟨⟨by decide, by decide +kernel, by simp, by simp⟩, by decide +kernel, by decide +kernel⟩

theorem witness_SystemCallsAndNoOperations : (boot true).cu 3 = true ∧ (boot true).cu 1 = true := by decide +kernel

theorem witness_ConditionalTraps :
    (boot true).exl = false ∧ ((with45 5#64 5#64).gpr 5#5).toInt ≤ ((with45 5#64 5#64).gpr 4#5).toInt
    ∧ ¬((with45 4#64 5#64).gpr 5#5).toInt ≤ ((with45 4#64 5#64).gpr 4#5).toInt := by decide +kernel

/-- boot as it is two instructions after a write of Status, with a longer window. -/
def hazardous : State :=
  { boot true with
    cp0Hazard := 4
    recent := [{ left := 3, cp0 := State.reset.cp0, tlb := State.reset.tlb, timerLatch := true }] }

/-- With no recent write, and with one. -/
theorem witness_Cp0Reads :
    (boot true).recent = [] ∧ hazardous.recent ≠ [] ∧ (12#5 : Reg) ≠ 13#5 ∧
    Cp0Usable (boot true) ∧ Enabled64 (boot true).seen ∧ (30#5 : Reg).toNat ∈ [2, 3, 4, 8, 10, 14, 20, 30] := by
  simp only [Cp0Usable, Enabled64, KernelMode]; decide +kernel

/-- MTC0 of a word and of a value that is none; Compare to another value than Count; Count with the latch set, and to another value than
Compare with it clear; SE set; FR kept. -/
theorem witness_Cp0Writes :
    (with45 0x1000#64 0#64).se = false ∧ ((with45 0x1000#64 0#64).gpr 4#5).getLsbD 12 = true
    ∧ ((with45 0x04000000#64 0#64).gpr 4#5).getLsbD 26 = (with45 0#64 0#64).cp0.status.getLsbD 26 ∧
    Cp0Usable (with45 5#64 0x100000000#64) ∧ Enabled64 (with45 5#64 0x100000000#64).seen
    ∧ ({ boot true with timerLatch := true } : State).timerLatch = true
    ∧ low ((with45 5#64 0#64).gpr 4#5) ≠ (with45 5#64 0#64).cp0.compare ∧ HoldsWord ((with45 5#64 0x100000000#64).gpr 4#5)
    ∧ ¬HoldsWord ((with45 5#64 0x100000000#64).gpr 5#5)
    ∧ low ((with45 5#64 0x100000000#64).gpr 4#5) ≠ (with45 5#64 0x100000000#64).cp0.count := by
  simp only [Cp0Usable, Enabled64, KernelMode, HoldsWord]; decide +kernel

/-- Index 0 and 47, Random 47, Index 48 and 63, Wired 48. -/
theorem witness_TlbWrites :
    let at' := fun (i : BitVec 32) => forTlb i 0#32 0#64 0#64 0#64
    let wired := { boot true with cp0 := { (boot true).cp0 with wired := 48#32 } }
    Cp0Usable (at' 0#32) ∧ ((at' 0#32).seen.cp0.index &&& 0x3F#32).toNat = (0 : Fin 48).val
    ∧ Cp0Usable (at' 47#32) ∧ ((at' 47#32).cp0.index &&& 0x3F#32).toNat = (47 : Fin 48).val
    ∧ (at' 0#32).cp0.random.toNat = (47 : Fin 48).val ∧ ((at' 0#32).cp0.wired &&& 0x3F#32).toNat ≤ 47
    ∧ 47 < ((at' 48#32).cp0.index &&& 0x3F#32).toNat
    ∧ Cp0Usable wired ∧ 47 < (wired.cp0.wired &&& 0x3F#32).toNat := by
  simp only [Cp0Usable, KernelMode]; decide +kernel

theorem witness_TlbReads :
    Cp0Usable k12 ∧ (k12.seen.cp0.index &&& 0x3F#32).toNat = (3 : Fin 48).val := by
  simp only [Cp0Usable, KernelMode]; decide +kernel

/-- The entries of k13 that match a page pair. -/
def hits (s : State) (va : Word) : List (Fin 48) :=
  s.tlbHits (va.extractLsb' 62 2) (va.extractLsb' 13 27) (s.cp0.entryHi.extractLsb' 0 8)

/-- k13 with a second entry equal to TLB[3], and with an illegal Mask. -/
def twice : State := { k13 with tlb := k13.tlb.set 5 k13.tlb[3] }
def maskless : State := { k13 with tlb := k13.tlb.set 5 { k13.tlb[3] with mask := 1#12 } }

/-- EntryHi that names no entry, one, and two. -/
theorem witness_TlbProbes :
    Cp0Usable k12 ∧ k12.seen.masksLegal = true ∧ k12.seen = k12 ∧ hits k12 k12.cp0.entryHi = [3]
    ∧ hits { k12 with cp0 := { k12.cp0 with entryHi := 0x800005#64 } } 0x800005#64 = []
    ∧ Cp0Usable twice ∧ twice.masksLegal = true
    ∧ hits { twice with cp0 := { twice.cp0 with entryHi := 0x400005#64 } } 0x400005#64 = [3, 5] := by
  simp only [Cp0Usable, KernelMode]; decide +kernel

/-- No match; two; a valid and dirty page, an invalid one, a clean one; frames without bits in the offset; an
illegal Mask. -/
theorem witness_TlbTranslates :
    (boot true).tlbReady = true ∧ State.reset.tlbReady = false ∧ maskless.tlbReady = true ∧ maskless.masksLegal = false ∧ k13.masksLegal = true ∧ hits k13 0x402000#64 = [] ∧ hits twice 0x400123#64 = [3, 5]
    ∧ hits k13 0x400123#64 = [3] ∧ pageLog k13.tlb[3].mask = some 0 ∧ k13.tlb[3].v0 = true ∧ k13.tlb[3].d0 = true
    ∧ k13.tlb[3].pfn0.toNat % 4 ^ 0 = 0 ∧ k13.tlb[3].v1 = false
    ∧ hits k13 0x10005678#64 = [4] ∧ pageLog k13.tlb[4].mask = some 1 ∧ k13.tlb[4].v1 = true
    ∧ k13.tlb[4].pfn1.toNat % 4 ^ 1 = 0
    ∧ (tlbWrite 3 (forTlb 3#32 0#32 0x400005#64 0x401A#64 0#64)).tlb[3].d0 = false
    ∧ (tlbWrite 3 (forTlb 3#32 0#32 0x400005#64 0x401A#64 0#64)).tlb[3].v0 = true := by decide +kernel

/-- Both ends of kseg0, kseg1, the ERL region, the rest of xkuseg, xkphys with each kind of attribute, and the first
address User mode may not use, with and without UX. -/
theorem witness_Segments :
    let k := boot true
    let kx := bootWith 0x340000C4#32 0#32
    KernelMode k ∧ k.k0.toNat < 4 ∧ (0xFFFFFFFF80000000#64 : Word).toNat ≤ (0xFFFFFFFF9FFFFFFF#64 : Word).toNat
    ∧ 0xFFFFFFFFA0000000 ≤ (0xFFFFFFFFA0000000#64 : Word).toNat ∧ (0xFFFFFFFFBFFFFFFF#64 : Word).toNat ≤ 0xFFFFFFFFBFFFFFFF
    ∧ KernelMode kx ∧ kx.erl = true ∧ kx.kx = true ∧ (0x7FFFFFFF#64 : Word).toNat < 2 ^ 31
    ∧ 2 ^ 31 ≤ (0x80000000#64 : Word).toNat ∧ (0x80000000#64 : Word).toNat < 2 ^ 40
    ∧ 2 ^ 63 ≤ (0x9000000000001000#64 : Word).toNat ∧ (0x9000001000000000#64 : Word).toNat / 2 ^ 36 % 2 ^ 23 ≠ 0
    ∧ ((0x9800000FFFFFFFFF#64 : Word).extractLsb' 59 3).toNat < 4 ∧ (0x9800000FFFFFFFFF#64 : Word).toNat / 2 ^ 36 % 2 ^ 23 = 0
    ∧ 4 ≤ ((0xA000000000000000#64 : Word).extractLsb' 59 3).toNat ∧ (0xA000000000000000#64 : Word).toNat < 2 ^ 63 + 2 ^ 62
    ∧ BelowKernel (userBoot false) ∧ (userBoot false).ksu = 2#2 ∧ (userBoot false).ux = false
    ∧ 2 ^ 31 ≤ (0x80000000#64 : Word).toNat
    ∧ BelowKernel (userBoot true) ∧ (userBoot true).ux = true ∧ 2 ^ 40 ≤ (0x10000000000#64 : Word).toNat := by
  simp only [KernelMode, BelowKernel]; decide +kernel

/-- Mapped addresses and holes: Kernel mode with and without KX, Supervisor mode with and without SX. -/
theorem witness_Segments_mapped :
    let k := boot true
    let kx := bootWith 0x34000080#32 0#32
    let sup := bootWith 0x34000008#32 0#32
    let sx := bootWith 0x34000048#32 0#32
    (KernelMode k ∧ k.erl = false ∧ k.kx = false) ∧ (KernelMode kx ∧ kx.kx = true)
    ∧ 2 ^ 62 ≤ (0x400000FFFFFFFFFF#64 : Word).toNat ∧ (0x400000FFFFFFFFFF#64 : Word).toNat < 2 ^ 62 + 2 ^ 40
    ∧ (0xC00000FF7FFFFFFF#64 : Word).toNat ≤ 0xC00000FF7FFFFFFF ∧ 0xC00000FF7FFFFFFF < (0xC00000FF80000000#64 : Word).toNat
    ∧ (0xC00000FF80000000#64 : Word).toNat < 0xFFFFFFFF80000000 ∧ ¬(0xC00000FF80000000#64 : Word).toNat < 2 ^ 63 + 2 ^ 62
    ∧ (BelowKernel sup ∧ sup.ksu = 1#2 ∧ sup.sx = false) ∧ (BelowKernel sx ∧ sx.ksu = 1#2 ∧ sx.sx = true)
    ∧ 0xFFFFFFFFC0000000 ≤ (0xFFFFFFFFDFFFFFFF#64 : Word).toNat ∧ 0xFFFFFFFFDFFFFFFF < (0xFFFFFFFFE0000000#64 : Word).toNat := by
  simp only [KernelMode, BelowKernel]; decide +kernel

theorem witness_ExceptionReturn :
    Cp0Usable (bootWith 0x34000006#32 0#32) ∧ (bootWith 0x34000006#32 0#32).next = none
    ∧ Cp0Usable (boot true) ∧ (boot true).next = none ∧ (boot true).erl = false ∧ Cp0Usable userCp0
    ∧ userCp0.next = none := by
  simp only [Cp0Usable, KernelMode]; decide +kernel

/-- boot with a secondary cache, $9 a cached address. -/
def withSecondary : State :=
  { withData true with cp0 := { (withData true).cp0 with config := (withData true).cp0.config &&& ~~~0x00300000#32 } }

/-- The same without one. -/
def withoutSecondary : State :=
  { withData true with cp0 := { (withData true).cp0 with config := (withData true).cp0.config ||| 0x00300000#32 } }

/-- A listed operation at a cached address, the page-aligned 0x17 where a secondary cache is present, an unlisted
operation, an uncached address, an operation of the secondary cache where none is present and a page invalidate that is
not page aligned; a line that may be dirty, and one that Hit Write Back has gone over. -/
theorem witness_CacheOperations :
    Cp0Usable (withData true) ∧ NoCacheError (withData true) ∧ Machine.translate (withData true).seen .load ((withData true).ea 9#5 0#16) = .ok (0x30000#36, 3#3)
    ∧ (withData true).pins.dataBusError = false ∧ withoutSecondary.ss = 3#2 ∧ withoutSecondary.seen = withoutSecondary
    ∧ Machine.translate withoutSecondary .load (withoutSecondary.ea 9#5 0#16) = .ok (0x30000#36, 3#3)
    ∧ (withSecondary.ea 9#5 4#16).extractLsb' 0 12 ≠ 0#12
    ∧ Machine.translate withSecondary.seen .load (withSecondary.ea 9#5 4#16) = .ok (0x30004#36, 3#3)
    ∧ ((withData true).ea 9#5 0#16).extractLsb' 0 12 = 0#12 ∧ withSecondary.ss ≠ 3#2
    ∧ cacheOpListed 0x0C#5 = false
    ∧ (0x30000#36 : PAddr).toNat / 32 ∈ ({ withData true with maybeDirty := [0x1800] } : State).maybeDirty
    ∧ (∀ e ∈ (writeBackStep 0x1800 ((withData true).setField 3#3 0x30000 1 7#64)).stale, e.addr / 32 = 0x1800 ∧ e.held = [])
    ∧ Machine.translate (setGpr 9#5 0xFFFFFFFFA0030000#64 (boot true)) .load 0xFFFFFFFFA0030000#64 = .ok (0x30000#36, 2#3) := by
  simp only [Cp0Usable, KernelMode, NoCacheError]; decide +kernel

/-- Outside and inside an exception, outside and inside a delay slot. -/
theorem witness_GeneralExceptionEntry :
    (∀ f, Exc.tlbRefill false 0x402000#64 ≠ .cacheError f) ∧ (boot true).exl = false
    ∧ (bootWith 0x34000002#32 0#32).exl = true ∧ Exc.coprocessorUnusable 3#2 = .coprocessorUnusable 3#2 := by
  exact ⟨fun _ h => (nomatch h), by decide +kernel⟩

theorem witness_TlbExceptionRecords :
    Exc.tlbModified 0#64 = .tlbModified 0#64
    ∧ ∃ st, Exc.tlbRefill true 0xFFFFFFFFFFFFFFFC#64 = .tlbRefill st 0xFFFFFFFFFFFFFFFC#64
      ∨ Exc.tlbRefill true 0xFFFFFFFFFFFFFFFC#64 = .tlbInvalid st 0xFFFFFFFFFFFFFFFC#64 :=
  ⟨rfl, true, .inl rfl⟩

theorem witness_ErrorLevelEntries :
    let p : Pins := { Pins.quiet with nmi := true }
    (p.coldReset = false ∧ p.reset = false ∧ p.nmi = true) ∧ { p with reset := true }.reset = true
    ∧ { p with coldReset := true }.coldReset = true
    ∧ takeNmi (boot true) = takeNmi (boot true) := ⟨by decide, by decide, by decide, rfl⟩

/-- Interrupt 0 and the software interrupt 1, enabled; disabled; masked. -/
theorem witness_InterruptsTaken :
    let s := { bootWith 0x34000401#32 0#32 with pins := { Pins.quiet with int := 1#6 } }
    let u := { bootWith 0x3400FB01#32 0#32 with pins := { Pins.quiet with int := 1#6 } }
    (s.pins.coldReset = false ∧ s.pins.reset = false ∧ s.pins.nmi = false ∧ s.view true = s ∧ s.ie = true ∧ s.exl = false
      ∧ s.erl = false ∧ s.ip.getLsbD 2 = true ∧ s.im.getLsbD 2 = true)
    ∧ (boot true).ie = false ∧ u.ie = true ∧ u.ip &&& u.im = 0#8 := by decide +kernel

/-- A word of each kind, in Kernel, Supervisor and User mode with and without its unit and CU3. -/
theorem witness_ReservedWords :
    (decode 0x00000005#32 = .error (.reserved none) ∧ decode 0x46801106#32 = .error .reservedFp
      ∧ decode 0x46841130#32 = .error .reservedFp4 ∧ decode 0x48000000#32 = .error .coprocessor2
      ∧ decode 0x42000020#32 = .error (.reserved (some 0#2)) ∧ decode 0x44600000#32 = .error (.reserved (some 1#2))
      ∧ decode 0x00851060#32 = .error (.mustBeZero none) ∧ decode 0x42000058#32 = .error (.mustBeZero (some 0#2)))
    ∧ (boot true).cu 1 = true ∧ (boot true).cu 3 = true ∧ (boot true).cu 2 = false ∧ KernelMode (boot true).seen
    ∧ (bootWith 0x14000000#32 0#32).cu 1 = false ∧ (bootWith 0x44000000#32 0#32).cu 2 = true
    ∧ ((userBoot false).cu 0 = false ∧ BelowKernel (userBoot false).seen)
    ∧ ((bootWith 0x24000010#32 0#32).cu 1 = true ∧ (bootWith 0x24000010#32 0#32).cu 3 = false
      ∧ BelowKernel (bootWith 0x24000010#32 0#32).seen ∧ (bootWith 0x24000010#32 0#32).seen.ksu = 2#2)
    ∧ (BelowKernel (bootWith 0x24000008#32 0#32).seen ∧ (bootWith 0x24000008#32 0#32).seen.ksu = 1#2) := by
  simp only [KernelMode, BelowKernel]; decide +kernel

theorem loads_withData (be : Bool) (n : Nat) (h : n = 1 ∨ n = 2 ∨ n = 4 ∨ n = 8) :
    Loads (withData be) ((withData be).ea 9#5 0#16) n 0x30000#36 := by
  refine ⟨?_, ⟨3#3, ?_, ?_⟩, ?_⟩
  · rcases h with rfl | rfl | rfl | rfl <;> cases be <;> decide +kernel
  · cases be <;> decide +kernel
  · cases be <;> decide +kernel
  · simp only [Answers, NoCacheError]; cases be <;> decide +kernel

theorem stores_withData (be : Bool) (n : Nat) (h : n = 1 ∨ n = 2 ∨ n = 4 ∨ n = 8) :
    Stores (withData be) ((withData be).ea 9#5 0#16) n 0x30000#36 3#3 := by
  refine ⟨?_, ⟨?_, ?_⟩, ?_⟩
  · rcases h with rfl | rfl | rfl | rfl <;> cases be <;> decide +kernel
  · cases be <;> decide +kernel
  · cases be <;> decide +kernel
  · simp only [NoCacheError]; cases be <;> decide +kernel

theorem witness_AlignedLoads (n : Nat) (h : n = 1 ∨ n = 2 ∨ n = 4 ∨ n = 8) :
    Loads (withData true) ((withData true).ea 9#5 0#16) n 0x30000#36 ∧ Enabled64 (withData true).seen :=
  ⟨loads_withData true n h, by simp only [Enabled64]; decide +kernel⟩

theorem witness_AlignedStores (n : Nat) (h : n = 1 ∨ n = 2 ∨ n = 4 ∨ n = 8) :
    Stores (withData true) ((withData true).ea 9#5 0#16) n 0x30000#36 3#3 ∧ Enabled64 (withData true).seen
    ∧ FpReady (withData true) [9#5] :=
  ⟨stores_withData true n h, by simp only [Enabled64]; decide +kernel, by simp only [FpReady]; decide +kernel⟩

/-- A store through the uncached attribute. -/
theorem witness_AlignedStores_uncached :
    let s := setGpr 9#5 0xFFFFFFFFA0030000#64 (withData true)
    Stores s (s.ea 9#5 0#16) 8 0x30000#36 2#3 := by
  refine ⟨?_, ⟨?_, ?_⟩, ?_⟩ <;> (try simp only [NoCacheError]) <;> decide +kernel

/-- A device at all physical addresses, ROM at all, nothing at any. -/
theorem witness_AlignedLoads_device (n : Nat) (h : n = 1 ∨ n = 2 ∨ n = 4 ∨ n = 8) :
    AsksDevice onDevice .load (onDevice.ea 9#5 0#16) n 0x30000#36 ∧ AsksDevice onDevice .store (onDevice.ea 9#5 0#16) n 0x30000#36
    ∧ onDevice.pins.dataBusError = false ∧ Enabled64 onDevice.seen ∧ FpReady onDevice [2#5]
    ∧ Dropped { onDevice with physMap := [] } (onDevice.ea 9#5 0#16) n 0x30000#36
    ∧ Dropped { onDevice with physMap := [{ base := 0, size := 0x1000000000, kind := .rom }] } (onDevice.ea 9#5 0#16) n 0x30000#36 := by
  refine ⟨⟨?_, ?_, ?_⟩, ⟨?_, ?_, ?_⟩, ?_, ?_, ?_, ⟨?_, ⟨2#3, ?_, ?_⟩, ?_⟩, ⟨?_, ⟨2#3, ?_, ?_⟩, ?_⟩⟩ <;>
    (try simp only [Enabled64, FpReady, NoCacheError]) <;> (try rcases h with rfl | rfl | rfl | rfl) <;> decide +kernel

/-- A left or right access and a linked one at a device, and where nothing or ROM answers; a Cache Error that DE masks. -/
theorem witness_parts_device :
    let s := onDevice
    let nothing := { s with physMap := [] }
    let rom := { s with physMap := [{ base := 0, size := 0x1000000000, kind := .rom }] }
    AsksDevicePart s .load (s.ea 9#5 3#16) 0x30003#36 0 ∧ AsksDevicePart s .store (s.ea 9#5 3#16) 0x30003#36 3
    ∧ DroppedPart nothing (s.ea 9#5 3#16) 0x30003#36 3 ∧ DroppedPart rom (s.ea 9#5 3#16) 0x30003#36 0
    ∧ Machine.translate s.seen .load (s.ea 9#5 0#16) = .ok (0x30000#36, 2#3)
    ∧ Machine.translate nothing.seen .store (nothing.ea 9#5 0#16) = .ok (0x30000#36, 2#3)
    ∧ ({ s with llbit := true } : State).llbit = true ∧ s.llbit = false
    ∧ NoCacheError { bootWith 0xB4010000#32 0#32 with pins := { Pins.quiet with dataCacheError := some dataParity } } := by
  refine ⟨⟨?_, ?_⟩, ⟨?_, ?_⟩, ⟨⟨2#3, ?_, ?_⟩, ?_⟩, ⟨⟨2#3, ?_, ?_⟩, ?_⟩, ?_⟩ <;> (try simp only [NoCacheError]) <;>
    decide +kernel

/-- Misaligned by 1 for each width, by immediate and by index in one region; a translation that is a TLB Refill, a TLB
Modified; injected errors at an address that is translated and ready; an address at which nothing answers. -/
theorem witness_AccessExceptions :
    let s := withData true
    let va := s.ea 9#5 1#16
    let u := with45 0xFFFFFFFF80030000#64 1#64
    let clean := tlbWrite 3 (forTlb 3#32 0#32 0x400005#64 0x401A#64 0#64)
    (va.toNat % 2 ≠ 0 ∧ va.toNat % 4 ≠ 0 ∧ va.toNat % 8 ≠ 0 ∧ Enabled64 s.seen ∧ FpReady s [2#5])
    ∧ (u.cu 1 = true ∧ u.cu 3 = true ∧ (u.gpr 4#5 + u.gpr 5#5).extractLsb' 62 2 = (u.gpr 4#5).extractLsb' 62 2
      ∧ (u.gpr 4#5 + u.gpr 5#5).toNat % 8 ≠ 0 ∧ (u.gpr 4#5 + u.gpr 5#5).toNat % 4 ≠ 0 ∧ u.fprOk 2#5 = true)
    ∧ Machine.translate k13.seen .load 0x402000#64 = .error (.exc (.tlbRefill false 0x402000#64))
    ∧ Machine.translate clean.seen .store 0x400128#64 = .error (.exc (.tlbModified 0x400128#64))
    ∧ Machine.translate s.seen .store (s.ea 9#5 0#16) = .ok (0x30000#36, 3#3) ∧ Cp0Usable k13 ∧ Cp0Usable s
    ∧ (Machine.translate s.seen .load (s.ea 9#5 0#16) = .ok (0x30000#36, 3#3) ∧ s.cacheReady 3#3 = true
      ∧ s.de = false ∧ { Pins.quiet with dataCacheError := some dataParity }.dataCacheError = some dataParity
      ∧ NoCacheError s ∧ { Pins.quiet with dataBusError := true }.dataBusError = true
      ∧ regionAt [] ((0x30000#36 : PAddr) - BitVec.ofNat 36 0).toNat = .none) := by
  simp only [Enabled64, FpReady, Cp0Usable, KernelMode, NoCacheError]; decide +kernel

/-- Each end of the word and doubleword, in both byte orders: the part starts at the address or d bytes below it. -/
theorem witness_LeftRightLoads :
    LoadsPart (withData true) ((withData true).ea 9#5 3#16) 0x30003#36 0
    ∧ LoadsPart (withData true) ((withData true).ea 9#5 7#16) 0x30007#36 7
    ∧ LoadsPart (withData false) ((withData false).ea 9#5 3#16) 0x30003#36 3
    ∧ Enabled64 (withData true).seen ∧ HoldsWord ((withData true).gpr 2#5) := by
  refine ⟨⟨⟨3#3, ?_, ?_⟩, ?_⟩, ⟨⟨3#3, ?_, ?_⟩, ?_⟩, ⟨⟨3#3, ?_, ?_⟩, ?_⟩, ?_⟩ <;>
    (try simp only [Answers, Enabled64, HoldsWord, NoCacheError]) <;> decide +kernel

theorem witness_LeftRightStores :
    StoresPart (withData true) ((withData true).ea 9#5 3#16) 0x30003#36 0 3#3
    ∧ StoresPart (withData true) ((withData true).ea 9#5 7#16) 0x30007#36 7 3#3
    ∧ StoresPart (withData false) ((withData false).ea 9#5 3#16) 0x30003#36 3 3#3 := by
  refine ⟨⟨⟨?_, ?_⟩, ?_⟩, ⟨⟨?_, ?_⟩, ?_⟩, ⟨⟨?_, ?_⟩, ?_⟩⟩ <;> (try simp only [NoCacheError]) <;> decide +kernel

theorem witness_LinkedAccesses :
    Loads (withData true) ((withData true).ea 9#5 0#16) 8 0x30000#36 ∧ Enabled64 (withData true).seen
    ∧ Machine.translate (withData true).seen .load ((withData true).ea 9#5 0#16) = .ok (0x30000#36, 3#3)
    ∧ Stores (withData true) ((withData true).ea 9#5 0#16) 4 0x30000#36 3#3 ∧ nexts (exec (.lw 9#5 2#5 0#16) (withData true)) = true :=
  ⟨loads_withData true 8 (by decide), by simp only [Enabled64]; decide +kernel, by decide +kernel,
    stores_withData true 4 (by decide), by decide +kernel⟩

/-- A loop of LL and SC that has failed as often as it may. -/
def retried : State :=
  { withData true with
    llbit := true
    link := { addr := some 0x30000#36, armed := true, start := 0, fails := Config.scRetries 0 } }

theorem witness_LinkedAccesses_fair :
    Stores retried (retried.ea 9#5 0#16) 4 0x30000#36 3#3 ∧ Covered retried 3#3 0x30000#36
    ∧ Config.scRetries retried.link.start ≤ retried.link.fails := by
  refine ⟨⟨?_, ⟨?_, ?_⟩, ?_⟩, ⟨rfl, rfl, rfl, ?_⟩, Nat.le_refl _⟩ <;> (try simp only [NoCacheError]) <;> decide +kernel

/-- An indexed sum in the region of its base, one outside it (M4-10). -/
theorem witness_FloatingLoadsAndIndexed :
    let va := indexed.gpr 4#5 + indexed.gpr 5#5
    let s := setGpr 4#5 0x4000000000000000#64 (setGpr 5#5 0xC000000000000000#64 indexed)
    Loads indexed va 8 0x30008#36 ∧ Stores indexed va 8 0x30008#36 3#3 ∧ indexed.cu 1 = true ∧ indexed.cu 3 = true
    ∧ va.extractLsb' 62 2 = (indexed.gpr 4#5).extractLsb' 62 2 ∧ indexed.fprOk 2#5 = true
    ∧ (s.gpr 4#5 + s.gpr 5#5).extractLsb' 62 2 ≠ (s.gpr 4#5).extractLsb' 62 2 := by
  refine ⟨⟨?_, ⟨3#3, ?_, ?_⟩, ?_⟩, ⟨?_, ⟨?_, ?_⟩, ?_⟩, ?_⟩ <;> (try simp only [Answers, NoCacheError]) <;> decide +kernel

theorem witness_MemoryLaws :
    (8 : Nat) ≤ 8 ∧ Memory.wf (withData true).mem = true
    ∧ (0x30008 : Nat) ∉ (withData true).fieldBytes 0x30000 8 := by decide +kernel

/-- FR = 1 with an odd register, FR = 0 with an even one; CTC1 values that trap (E; V enabled) and one that does not. -/
theorem witness_FpuTransfers :
    (boot true).cu 1 = true ∧ Enabled64 (boot true).seen ∧ (boot true).fprOk 31#5 = true
    ∧ (bootWith 0x30000000#32 0#32).fprOk 30#5 = true
    ∧ (0x20000#32).getLsbD 17 = true ∧ (0x10800#32).extractLsb' 12 5 &&& (0x10800#32).extractLsb' 7 5 ≠ 0#5
    ∧ (0x10000#32).getLsbD 17 = false ∧ (0x10000#32).extractLsb' 12 5 &&& (0x10000#32).extractLsb' 7 5 = 0#5
    ∧ (30#5 : Reg) ≠ 31#5 := by
  simp only [Enabled64]; decide +kernel

/-- FR = 1 with any registers, FR = 0 with even ones: the hypotheses of the FPU statements. -/
theorem witness_FpReady :
    FpReady (boot true) [31#5, 1#5, 2#5, 3#5] ∧ FpReady (bootWith 0xB0000000#32 0#32) [30#5, 0#5, 2#5, 4#5]
    ∧ (boot true).cu 3 = true := by
  simp only [FpReady]; decide +kernel

theorem witness_FprMoves : FpReady (settled 0x00800000#32) [2#5, 4#5] ∧ (settled 0x00800000#32).cu 3 = true
    ∧ (settled 0x00800000#32).fcc 0#3 = true ∧ (settled 0x00800000#32).fcc 1#3 = false
    ∧ (bootWith 0xB0000000#32 0#32).cu 1 = true ∧ (bootWith 0xB0000000#32 0#32).cu 3 = true
    ∧ (bootWith 0xB0000000#32 0#32).fprOk 3#5 = false ∧ (bootWith 0xB0000000#32 0#32).fcc 0#3 = false := by
  simp only [FpReady]; decide +kernel

/-- Operands that are unimplemented, a signaling NaN, and neither. -/
theorem witness_FpArithmetic : FpReady (boot true) [2#5, 0#5] ∧ (boot true).fprOk 4#5 = true
    ∧ (∃ v ∈ [FpVal.snan, .qnan], v = .qnan ∨ ∃ n m e, v = .finite true n m e)
    ∧ (¬∃ v ∈ [FpVal.snan, .inf true], v = .qnan ∨ ∃ n m e, v = .finite true n m e)
    ∧ FpVal.snan ∈ [FpVal.snan, .inf true] ∧ FpVal.snan ∉ [FpVal.inf true] := by
  refine ⟨by simp only [FpReady]; decide +kernel, by decide +kernel, ⟨.qnan, by simp⟩, by simp, by simp, by simp⟩

theorem witness_MultiplyAdd : FpReady (boot true) [6#5, 2#5, 4#5, 0#5] ∧ (boot true).cu 3 = true := by
  simp only [FpReady]; decide +kernel

/-- A zero, an infinity, a negative number, each NaN, a denormalized number, a normal number with a normal reciprocal and one with a tiny one. -/
theorem witness_Approximations :
    (let two := (setFgr 2#5 0x40000000#64 (boot true)).fpVal .s 2#5
     let big := (setFgr 2#5 0x7F000000#64 (boot true)).fpVal .s 2#5
     isNormal two = true ∧ isNormal big = true
      ∧ (deliver .s (boot true).fpMode (exactDiv (.finite false false 1 0) two)).1 = 0#6
      ∧ (deliver .s (boot true).fpMode (exactDiv (.finite false false 1 0) big)).1 = causeE) ∧
    FpReady (boot true) [2#5, 0#5] ∧ (boot true).cu 3 = true ∧ (boot true).fpVal .s 2#5 = .zero false
    ∧ (setFgr 2#5 0x7F800000#64 (boot true)).fpVal .s 2#5 = .inf false
    ∧ (setFgr 2#5 0x7FC00000#64 (boot true)).fpVal .s 2#5 = .snan ∧ (setFgr 2#5 0x7FBFFFFF#64 (boot true)).fpVal .s 2#5 = .qnan
    ∧ (setFgr 2#5 1#64 (boot true)).fpVal .s 2#5 = .finite true false 1 (-149)
    ∧ (setFgr 2#5 0xBF800000#64 (boot true)).fpVal .s 2#5 = .finite false true 0x800000 (-23) := by
  simp only [FpReady]; decide +kernel

theorem witness_Compares :
    FpReady (boot true) [2#5, 4#5] ∧ (boot true).cu 3 = true ∧ FpReady (bootWith 0x34000000#32 0#32) [2#5, 4#5] := by
  simp only [FpReady]; decide +kernel

/-- An integer at the limit that CVT.S.L takes and one beyond it; roundings at both ends of the range of W. -/
theorem witness_Conversions :
    (roundInt .rz false 0x7FFFFFFF 0).1 = 2 ^ 31 - 1 ∧ (roundInt .rz true 0x80000000 0).1 = -2 ^ 31
    ∧ (roundInt .rz false 0x80000000 0).1 = 2 ^ 31 ∧
    FpReady (boot true) [2#5, 0#5]
    ∧ ((setFgr 2#5 0x000FFFFFFFFFFFFF#64 (boot true)).fpr64 2#5).toInt = 2 ^ 52 - 1
    ∧ ¬((setFgr 2#5 0x0010000000000000#64 (boot true)).fpr64 2#5).toInt < 2 ^ 52 := by
  simp only [FpReady]; decide +kernel

theorem witness_ExactOperations :
    (FpVal.finite false true 0x800000 (-23)).isNumber ∧ (FpVal.finite false false 3 (-1)).isNumber
    ∧ (FpVal.finite false false 3 (-1)).number ≠ 0 ∧ (3 : Nat) < 2 ^ 53 ∧ (3 : Nat) < 2 ^ 79 ∧ (4 : Nat) < 2 ^ 200
    ∧ (FpVal.zero true).isNumber ∧ (FpVal.zero true).number = 0
    ∧ (FpVal.finite false true 3 0).number + (FpVal.finite false false 3 0).number = 0
    ∧ (∃ q k, exactRsqrt (.finite false false 1 2) = .real false q k false)
    ∧ (∃ q k, exactRsqrt (.finite false false 1 1) = .real false q k true)
    ∧ (∃ n m e, exactDiv (.finite false false 1 0) (.finite false false 3 0) = .real n m e true) := by
  refine ⟨by simp [FpVal.isNumber], by simp [FpVal.isNumber], ?_, by norm_num, by norm_num, by norm_num, trivial, rfl, ?_,
    ⟨2 ^ 90, -91, by decide +kernel⟩, ⟨natSqrt (2 ^ 179), -90, by decide +kernel⟩, ⟨false, 2 ^ 120 / 3, -120, by decide +kernel⟩⟩
  · simp [FpVal.number, scaled]
  · simp [FpVal.number, scaled]

/-- An exact value of two bits, and one known only to lie between 4 and 5, which has the p + 1 bits of p = 2. -/
theorem witness_RoundingIsCorrect :
    (2 : Nat) ≤ 2 ∧ (Exact.real false 3 0 false).Denotes 3 ∧ (Exact.real true 4 0 true).Denotes (-9 / 2) ∧ 2 ^ 2 ≤ 4 := by
  refine ⟨le_refl _, ⟨by norm_num, ?_⟩, ⟨by norm_num, ?_⟩, by norm_num⟩
  · norm_num [scaled]
  · norm_num [scaled, abs_of_neg]

/-- A word of each class in each format. -/
theorem witness_DeliverOfUnpack_classes :
    unpack .s 0x7FC00000#64 = .snan ∧ unpack .s 0x7FBFFFFF#64 = .qnan ∧ unpack .s 0xFF800000#64 = .inf true
    ∧ unpack .s 0x3FC00000#64 = .finite false false 0xC00000 (-23) ∧ unpack .s 1#64 = .finite true false 1 (-149)
    ∧ unpack .d 0x7FF8000000000000#64 = .snan ∧ unpack .d 0x7FF7FFFFFFFFFFFF#64 = .qnan
    ∧ unpack .d 0xBFF8000000000000#64 = .finite false true 0x18000000000000 (-52)
    ∧ unpack .d 1#64 = .finite true false 1 (-1074) := by decide +kernel

/-- A normal number, a zero and an infinity; exact results that overflow, are tiny, and just fit, in single precision. -/
theorem witness_DeliverOfUnpack :
    ((fpEmax .s : Int) < (roundTo 24 .rn false 1 128 false).2.1 + fpPrec .s - 1)
    ∧ ((roundTo 24 .rn false 1 (-127) false).2.1 + fpPrec .s - 1 < 1 - (fpEmax .s : Int))
    ∧ (1 - (fpEmax .s : Int) = (roundTo 24 .rn false 1 (-126) false).2.1 + fpPrec .s - 1)
    ∧ (fpEmax .s : Int) = (roundTo 24 .rn false 1 127 false).2.1 + fpPrec .s - 1 ∧
    (0xFF7FFFFF#64 : Word).toNat < 2 ^ 32 ∧ isNormal (unpack .s 0xFF7FFFFF#64) = true
    ∧ unpack .d 0x8000000000000000#64 = .zero true ∧ unpack .s 0x7F800000#64 = .inf false := by decide +kernel

end Sys2Proof.Tests
end

/-! PROOFS. One step of the machine: what it fetches and runs, the exceptions of a fetch, and the passing of time. -/

namespace Sys2Proof.Proofs

open Sys2Proof.Machine

/-! ### The word of four bytes -/

/-- A byte appended at the low end. -/
theorem toNat_append_byte {n : Nat} (x : BitVec n) (y : Byte) : (x ++ y).toNat = x.toNat * 256 + y.toNat := by
  rw [BitVec.toNat_append, ← Nat.shiftLeft_add_eq_or_of_lt y.isLt, Nat.shiftLeft_eq]

/-- The value of a word from its bytes, the last the most significant where memory is little-endian
(20_memory R144, R147). -/
theorem toNat_wordOfBytes (big : Bool) (b0 b1 b2 b3 : Byte) :
    (wordOfBytes big b0 b1 b2 b3).toNat
      = if big then ((b0.toNat * 256 + b1.toNat) * 256 + b2.toNat) * 256 + b3.toNat
        else ((b3.toNat * 256 + b2.toNat) * 256 + b1.toNat) * 256 + b0.toNat := by
  have value (c0 c1 c2 c3 : Byte) :
      (c0 ++ c1 ++ c2 ++ c3).toNat = ((c0.toNat * 256 + c1.toNat) * 256 + c2.toNat) * 256 + c3.toNat := by
    rw [toNat_append_byte, toNat_append_byte, toNat_append_byte]
  cases big with
  | false => exact value b3 b2 b1 b0
  | true => exact value b0 b1 b2 b3

theorem sum_map_range_four (g : Nat → Nat) : ((List.range 4).map g).sum = g 0 + g 1 + g 2 + g 3 := by
  simp [List.range_succ, Nat.add_assoc]

/-- The value of a fetched word as the sum of its bytes, each at its place. -/
theorem toNat_fetchWord (big : Bool) (f : Nat → Byte) (a : Nat) :
    (fetchWord big f a).toNat
      = ((List.range 4).map fun k => (f (a + k)).toNat * 256 ^ (if big then 3 - k else k)).sum := by
  rw [sum_map_range_four, fetchWord, toNat_wordOfBytes]
  cases big with
  | false => simp only [Bool.false_eq_true, if_false, Nat.add_zero]; omega
  | true => simp only [if_true, Nat.add_zero]; omega

/-! ### What a fetch answers (20_memory R147, R150, R194; 60_exceptions R606, R610, R611) -/

section
variable {s : State} {pa : PAddr} {attr : BitVec 3}

theorem fetch_misaligned (h : s.pc.toNat % 4 ≠ 0) : fetch s = .error (.exc (.addressError false s.pc)) := by
  simp [fetch, fetchAddr, requireAligned_error _ _ _ h]

theorem fetch_translate_error {st : Stop} (ha : s.pc.toNat % 4 = 0) (hr : (s.view true).reverseEndian = false)
    (ht : translate (s.view true) .fetch s.pc = .error st) : fetch s = .error st := by
  simp [fetch, fetchAddr, requireAligned_ok _ _ _ ha, hr, ht]

theorem fetchAddr_of_fetchesFrom (h : FetchesFrom s pa attr) : fetchAddr s = .ok (pa, attr) := by
  obtain ⟨htranslated, -⟩ := h.translated
  simp [fetchAddr, requireAligned_ok _ _ _ h.aligned, h.native, htranslated]

theorem fetchCacheError_ok (h : s.pins.fetchCacheError = none ∨ s.de = true) : fetchCacheError s = .ok () := by
  unfold fetchCacheError
  split
  · next p hp => simp [h.resolve_left (by simp [hp])]
  · rfl

theorem fetch_cacheError (h : FetchesFrom s pa attr) {p : ParityError × Bool} (hp : s.pins.fetchCacheError = some p)
    (hd : s.de = false) : fetch s = .error (.exc (.cacheError (p.1.onFetch p.2))) := by
  obtain ⟨-, hready⟩ := h.translated
  simp [fetch, fetchAddr_of_fetchesFrom h, requireCaches_ok attr s hready, fetchCacheError, hp, hd]

theorem fetch_busError (h : FetchesFrom s pa attr) (hc : s.pins.fetchCacheError = none ∨ s.de = true)
    (hb : s.pins.fetchBusError = true ∨ regionAt s.physMap pa.toNat = .none) :
    fetch s = .error (.exc .busErrorFetch) := by
  obtain ⟨-, hready⟩ := h.translated
  rcases hb with hb | hb <;>
    simp [fetch, fetchAddr_of_fetchesFrom h, requireCaches_ok attr s hready, fetchCacheError_ok hc, hb]

theorem fetch_memory (h : FetchesFrom s pa attr) (hc : s.pins.fetchCacheError = none ∨ s.de = true)
    (hb : s.pins.fetchBusError = false)
    (hr : regionAt s.physMap pa.toNat = .ram ∨ regionAt s.physMap pa.toNat = .rom) :
    fetch s = .ok (s.instrAt attr pa.toNat) := by
  obtain ⟨-, hready⟩ := h.translated
  rcases hr with hr | hr <;>
    simp [fetch, fetchAddr_of_fetchesFrom h, requireCaches_ok attr s hready, fetchCacheError_ok hc, hb, hr]

end

/-- The byte that a fetch of the word at physical address a sees at address x (20_memory R194). -/
def byteFetched (s : State) (attr : BitVec 3) (a x : Nat) : Byte :=
  s.pick (.fetchAge (x - a)) (memRead s.mem x) (s.oldBytes attr x)

theorem instrAt_eq (s : State) (attr : BitVec 3) (a : Nat) :
    s.instrAt attr a = fetchWord s.bigEndianMem (byteFetched s attr a) a := rfl

theorem byteFetched_present_or_old (s : State) (attr : BitVec 3) (a x : Nat) :
    byteFetched s attr a x = memRead s.mem x ∨ byteFetched s attr a x ∈ s.oldBytes attr x :=
  pick_mem s _ _ _

/-! ### One step without an event -/

section
variable {s : State}

/-- The step of a fetched word that is an instruction is its execution, the aging of the recent writes and the passing
of time. -/
theorem step_of_decoded {w : BitVec 32} {i : Instr} (he : takeEvent s = none) (hf : fetch s = .ok w)
    (hd : decode w = .ok i) : step s = tickOut s (ageOut (exec i s)) := by
  simp [step, stepCore, he, hf, execWord, hd]

theorem step_of_fetch_exception {e : Exc} (he : takeEvent s = none) (hf : fetch s = .error (.exc e)) :
    step s = .next (tick s (takeException e s)) := by
  simp [step, stepCore, he, hf, stopOut, tickOut]

end

/-! ### One executed instruction further from the recent writes (70_reset_and_hazards R712) -/

theorem mem_ageRecent_recent (t : State) (o : OldSystem) :
    o ∈ (ageRecent t).recent ↔ ∃ p ∈ t.recent, 1 < p.left ∧ o = { p with left := p.left - 1 } := by
  simp only [ageRecent, List.mem_filterMap]
  refine exists_congr fun p => and_congr_right fun _ => ?_
  by_cases h : p.left ≤ 1
  · simp [h]
  · simp [h, Nat.lt_of_not_le h, eq_comm]

/-! ### The passing of time (10_state R78; 60_exceptions R664) -/

/-- Compare is at most k counts ahead exactly when Count passes it within k counts. -/
theorem latchAfter_iff (latch : Bool) (c : Cp0) (k : Nat) :
    latchAfter latch c k = true
      ↔ latch = true ∨ ∃ j, 1 ≤ j ∧ j ≤ k ∧ c.compare = c.count + BitVec.ofNat 32 j := by
  simp only [latchAfter, Bool.or_eq_true, decide_eq_true_eq]
  refine or_congr_right ⟨fun h => ?_, fun ⟨j, hj, hk, hc⟩ => ?_⟩
  · refine ⟨(c.compare - c.count - 1#32).toNat + 1, by omega, h, ?_⟩
    rw [BitVec.ofNat_add, BitVec.ofNat_toNat, BitVec.setWidth_eq]
    bv_omega
  · have ahead : c.compare - c.count - 1#32 = BitVec.ofNat 32 (j - 1) := by
      rw [hc]
      bv_omega
    calc (c.compare - c.count - 1#32).toNat
        = (j - 1) % 2 ^ 32 := by rw [ahead, BitVec.toNat_ofNat]
      _ ≤ j - 1 := Nat.mod_le _ _
      _ < k := by omega

/-- Besides the inputs and the model's own counters, time touches CP0, the timer latch, the hold of Random and the older
system states only. -/
theorem keeps_tick (s t : State) :
    Keeps { cp0 := true, latch := true, hold := true, window := true }
      { t with pins := (tick s t).pins, fccPrev := s.fccAll, draws := (tick s t).draws } (tick s t) :=
  { keeps_refl _ { t with pins := (tick s t).pins, fccPrev := s.fccAll, draws := (tick s t).draws } with
    cp0 := fun hw => nomatch hw
    latch := fun hw => nomatch hw
    hold := fun hw => nomatch hw
    window := fun hw => nomatch hw }

theorem tick_timerLatch (s t : State) :
    (tick s t).timerLatch = latchAfter t.timerLatch t.cp0 (t.free .countStep).toNat := rfl

theorem tick_count (s t : State) :
    (tick s t).cp0.count = t.cp0.count + BitVec.ofNat 32 (t.free .countStep).toNat := rfl

/-! ### The statement -/

/-- Settles O4: what a step runs from `step_of_decoded`, the word and the exceptions of a fetch from the lemmas on
`fetch`, and what time does from `keeps_tick` and `latchAfter_iff`. -/
theorem stepRunsDecodedInstruction : Obligations.StepRunsDecodedInstruction := by
  refine ⟨fun s w i he hf hd => ?runs, fun s pa attr h hc hb hr => ?word, fun s he => ?exceptions,
    fun t => ⟨rfl, mem_ageRecent_recent t⟩, fun s t => ?time⟩
  case runs =>
    rw [step_of_decoded he hf hd]
    refine ⟨fun t hx => ?_, fun f hx => ?_, fun r hx => ?_⟩ <;> rw [hx] <;> rfl
  case word =>
    refine ⟨_, fun k => byteFetched s attr pa.toNat (pa.toNat + k), fetch_memory h hc hb hr,
      fun k _ => byteFetched_present_or_old s attr _ _, ?_⟩
    rw [instrAt_eq, toNat_fetchWord]
  case exceptions =>
    refine ⟨fun ha => ?misaligned, fun ha hr e ht => ?translation, fun pa attr h => ⟨fun p hp hd => ?cacheError,
      fun hc hb => ?busError⟩⟩
    case misaligned => exact step_of_fetch_exception he (fetch_misaligned ha)
    case translation => exact step_of_fetch_exception he (fetch_translate_error ha hr ht)
    case cacheError => exact step_of_fetch_exception he (fetch_cacheError h hp hd)
    case busError => exact step_of_fetch_exception he (fetch_busError h hc hb)
  case time =>
    refine ⟨rfl, rfl, rfl, keeps_tick s t, rfl, ⟨tick_count s t, ?_⟩, rfl, rfl⟩
    rw [tick_timerLatch]
    exact latchAfter_iff _ _ _

end Sys2Proof.Proofs

/-! PROOFS. The invariant: it holds after reset, every operation of the machine keeps it, and so does every step. -/

namespace Sys2Proof.Proofs

open Sys2Proof.Machine

set_option Elab.async false

/-! ### What a step may answer -/

/-- Every next state has the property. -/
def Leads (p : State → Prop) (o : Out) : Prop := ∀ t, o = .next t → p t

/-- Every result has the property. -/
def Yields {α : Type} (p : α → Prop) (r : Except Stop α) : Prop := ∀ a, r = .ok a → p a

section
variable {α β : Type} {p : β → Prop} {q : State → Prop}

theorem leads_next {t : State} (h : q t) : Leads q (.next t) := by
  rintro _ ⟨⟩
  exact h

theorem leads_refused (r : Refusal) : Leads q (.refused r) := by rintro _ ⟨⟩

theorem yields_ok {b : β} (h : p b) : Yields p (.ok b) := by
  rintro _ ⟨⟩
  exact h

theorem yields_error (e : Stop) : Yields p (.error e) := nofun

theorem yields_bind {x : Except Stop α} {f : α → Except Stop β} (h : ∀ a, x = .ok a → Yields p (f a)) :
    Yields p (x >>= f) := fun b hb =>
  have ⟨a, ha, hf⟩ := (bind_eq_ok x f b).1 hb
  h a ha b hf

/-- A check adds nothing to what comes after it. -/
theorem yields_after {x : Except Stop α} {f : α → Except Stop β} (h : ∀ a, Yields p (f a)) : Yields p (x >>= f) :=
  yields_bind fun a _ => h a

theorem yields_ite {c : Prop} [Decidable c] {x y : Except Stop β} (hx : Yields p x) (hy : Yields p y) :
    Yields p (if c then x else y) := by
  split
  · exact hx
  · exact hy

end

/-! ### Reserved bits -/

section
variable {n : Nat} {x y m : BitVec n}

theorem and_clear (h : x &&& m = 0#n) : (x &&& y) &&& m = 0#n := by
  rw [BitVec.and_assoc, BitVec.and_comm y, ← BitVec.and_assoc, h]
  exact BitVec.zero_and

theorem masked_clear (h : y &&& m = 0#n) : (x &&& y) &&& m = 0#n := by
  rw [BitVec.and_comm x]
  exact and_clear h

theorem or_clear (hx : x &&& m = 0#n) (hy : y &&& m = 0#n) : (x ||| y) &&& m = 0#n := by
  rw [BitVec.and_comm, BitVec.and_or_distrib_left, BitVec.and_comm m, BitVec.and_comm m, hx, hy, BitVec.or_zero]

end

/-! ### The invariant, part by part -/

/-- What the invariant says of the CP0 registers. -/
structure Cp0Sound (c : Cp0) : Prop where
  status : c.status &&& 0x09A80000#32 = 0#32
  cacheErr : c.cacheErr &&& 0x41FFFFFF#32 = 0#32
  clock : c.config.extractLsb' 28 3 ≠ 7#3
  random : 47 < (c.wired &&& 0x3F#32).toNat
    ∨ (c.wired &&& 0x3F#32).toNat ≤ c.random.toNat ∧ c.random.toNat ≤ 47

/-- What the invariant says of the write buffer. -/
structure BufferSound (wb : List Buffered) (ds : List (List Nat)) : Prop where
  after : ∀ b ∈ wb, b.after < 4
  devices : ∀ d ∈ ds, ∃ b ∈ wb, b.bytes = d

/-- The invariant, with CP0_HAZARD equal to n and an older system state seen for k instructions at most: within a step
that executes an instruction k is n + 1, until the recent writes grow older. -/
structure SoundFor (n k : Nat) (s : State) : Prop where
  memory : Memory.wf s.mem = true
  cp0 : Cp0Sound s.cp0
  fcr31 : s.fcr31 &&& 0x007C0000#32 = 0#32
  guards : s.hiGuard ≤ 2 ∧ s.loGuard ≤ 2
  window : ∀ o ∈ s.recent, o.left ≤ k
  buffer : BufferSound s.writeBuffer s.deviceStores
  hazard : s.cp0Hazard = n

theorem randomInRange_iff (s : State) : s.randomInRange = true ↔ 47 < (s.cp0.wired &&& 0x3F#32).toNat
    ∨ (s.cp0.wired &&& 0x3F#32).toNat ≤ s.cp0.random.toNat ∧ s.cp0.random.toNat ≤ 47 := by
  simp [State.randomInRange]

theorem inv_iff_soundFor (s : State) : s.Inv ↔ SoundFor s.cp0Hazard s.cp0Hazard s where
  mp h := ⟨h.memory, ⟨h.status, h.cacheErr, h.clock, (randomInRange_iff s).1 h.random⟩, h.fcr31, h.guards, h.window,
    ⟨h.buffer, h.devices⟩, rfl⟩
  mpr h := ⟨h.memory, h.cp0.status, h.fcr31, h.cp0.cacheErr, h.cp0.clock, (randomInRange_iff s).2 h.cp0.random,
    h.guards, h.window, h.buffer.after, h.buffer.devices⟩

/-- Settles O2: the reset values are within their bounds, and the lists are empty. -/
theorem resetHoldsInvariant : Obligations.ResetHoldsInvariant where
  memory := wf_reset
  status := rfl
  fcr31 := rfl
  cacheErr := rfl
  clock := by decide
  random := by decide
  guards := ⟨Nat.zero_le 2, Nat.zero_le 2⟩
  window := nofun
  buffer := nofun
  devices := nofun

/-- Settles O1: each field of the state after reset, and Kernel mode by ERL. -/
theorem resetFields : Obligations.ResetFields := ⟨rfl, rfl, rfl, rfl, rfl, rfl, rfl, mode_kernel _ (.inr (.inl rfl))⟩

/-! ### The CP0 registers -/

section
variable {c : Cp0}

/-- Only Status, CacheErr, Config, Wired and Random count. -/
theorem Cp0Sound.of_same (h : Cp0Sound c) {d : Cp0} (status : d.status = c.status := by rfl)
    (cacheErr : d.cacheErr = c.cacheErr := by rfl) (config : d.config = c.config := by rfl)
    (wired : d.wired = c.wired := by rfl) (random : d.random = c.random := by rfl) : Cp0Sound d :=
  ⟨status ▸ h.status, cacheErr ▸ h.cacheErr, config ▸ h.clock, wired ▸ random ▸ h.random⟩

theorem Cp0Sound.of_status (h : Cp0Sound c) {v : BitVec 32} (hv : v &&& 0x09A80000#32 = 0#32) :
    Cp0Sound { c with status := v } := ⟨hv, h.cacheErr, h.clock, h.random⟩

theorem recordAddress_sound (e : Exc) (s : State) (h : Cp0Sound c) : Cp0Sound (recordAddress e s c) := by
  cases e <;> exact h.of_same

theorem enterGeneral_sound (e : Exc) (s : State) (h : Cp0Sound c) : Cp0Sound (enterGeneral e s c) :=
  have hv : (c.status ||| 0x2#32) &&& 0x09A80000#32 = 0#32 := or_clear h.status (by decide)
  ((recordAddress_sound e s h).of_status hv).of_same

theorem enterCacheError_sound (e : CacheError) (s : State) (h : Cp0Sound c) : Cp0Sound (enterCacheError e s c) :=
  ⟨or_clear h.status (by decide), cacheErrWord_reserved e, h.clock, h.random⟩

theorem enterSoft_sound (s : State) (h : Cp0Sound c) : Cp0Sound (enterSoft s c) :=
  have hv : ((c.status &&& ~~~0x00200000#32) ||| 0x00500004#32) &&& 0x09A80000#32 = 0#32 :=
    or_clear (and_clear h.status) (by decide)
  (h.of_status hv).of_same

theorem coldCp0_sound (s : State) (h : Cp0Sound s.cp0) : Cp0Sound s.coldCp0 where
  status := or_clear (masked_clear (by decide)) (by decide)
  cacheErr := coldCp0_cacheErr_reserved s
  clock := by rw [coldCp0_ec]; exact h.clock
  random := .inr ⟨show (0#32 &&& 0x3F#32).toNat ≤ 47 by decide, Nat.le_refl 47⟩

/-- Random moves within its range (10_state R72). -/
theorem freeRandom_range (s : State) (w : BitVec 32) (hw : ¬47 < (w &&& 0x3F#32).toNat) :
    (w &&& 0x3F#32).toNat ≤ (s.freeRandom w).toNat ∧ (s.freeRandom w).toNat ≤ 47 := by
  have hlt := Nat.mod_lt (s.free .random).toNat (y := 48 - (w &&& 0x3F#32).toNat) (by omega)
  simp only [State.freeRandom, if_pos (Nat.le_of_not_lt hw), BitVec.toNat_ofNat]
  omega

theorem tickCp0_sound (s : State) (hold : Bool) (k : Nat) (h : Cp0Sound c) : Cp0Sound (s.tickCp0 hold k c) := by
  refine ⟨h.status, h.cacheErr, h.clock, ?_⟩
  cases hold with
  | true => exact h.random
  | false => exact or_iff_not_imp_left.2 (freeRandom_range s c.wired)

end

/-! ### The operations on the state -/

section
variable {n k : Nat} {s t : State}

/-- Only the fields the invariant names count. -/
theorem SoundFor.of_same (h : SoundFor n k s) (mem : t.mem = s.mem := by simp) (cp0 : t.cp0 = s.cp0 := by simp)
    (fcr31 : t.fcr31 = s.fcr31 := by simp) (hiGuard : t.hiGuard ≤ s.hiGuard := by simp)
    (loGuard : t.loGuard ≤ s.loGuard := by simp) (recent : t.recent = s.recent := by simp)
    (writeBuffer : t.writeBuffer = s.writeBuffer := by simp)
    (deviceStores : t.deviceStores = s.deviceStores := by simp)
    (hazard : t.cp0Hazard = s.cp0Hazard := by simp) : SoundFor n k t where
  memory := mem ▸ h.memory
  cp0 := cp0 ▸ h.cp0
  fcr31 := fcr31 ▸ h.fcr31
  guards := ⟨hiGuard.trans h.guards.1, loGuard.trans h.guards.2⟩
  window := recent ▸ h.window
  buffer := writeBuffer ▸ deviceStores ▸ h.buffer
  hazard := hazard.trans h.hazard

theorem SoundFor.mono (h : SoundFor n k s) {k' : Nat} (hk : k ≤ k') : SoundFor n k' s :=
  { h with window := fun o ho => (h.window o ho).trans hk }

theorem SoundFor.of_cp0 (h : SoundFor n k s) {c : Cp0} (hc : Cp0Sound c) : SoundFor n k { s with cp0 := c } :=
  { h with cp0 := hc }

theorem SoundFor.of_fcr31 (h : SoundFor n k s) {v : BitVec 32} (hv : v &&& 0x007C0000#32 = 0#32) :
    SoundFor n k { s with fcr31 := v } := { h with fcr31 := hv }

theorem SoundFor.of_mem (h : SoundFor n k s) {m : List Host.Cell} (hm : Memory.wf m = true) (st : List StaleByte) :
    SoundFor n k { s with mem := m, stale := st } := { h with memory := hm }

theorem SoundFor.of_pc (h : SoundFor n k s) (x : Word) (y : Option Word) :
    SoundFor n k { s with pc := x, next := y } := h.of_same

theorem SoundFor.of_buffer (h : SoundFor n k s) {wb : List Buffered} {ds : List (List Nat)} (hb : BufferSound wb ds) :
    SoundFor n k { s with writeBuffer := wb, deviceStores := ds } := { h with buffer := hb }

/-! Registers and the pc -/

theorem setGpr_sound (r : Reg) (v : Word) (h : SoundFor n k s) : SoundFor n k (setGpr r v s) := h.of_same

theorem setFgrLow_sound (i : Reg) (v : BitVec 32) (h : SoundFor n k s) : SoundFor n k (setFgrLow i v s) := h.of_same

theorem setFpr64_sound (i : Reg) (v : Word) (h : SoundFor n k s) : SoundFor n k (setFpr64 i v s) := h.of_same

theorem setFpr_sound (f : FpFmt) (i : Reg) (v : Word) (h : SoundFor n k s) : SoundFor n k (setFpr f i v s) := by
  cases f with
  | s => exact setFgrLow_sound i (low v) h
  | d => exact setFpr64_sound i v h

theorem setFprInt_sound (f : IntFmt) (i : Reg) (v : Word) (h : SoundFor n k s) : SoundFor n k (setFprInt f i v s) := by
  cases f with
  | w => exact setFgrLow_sound i (low v) h
  | l => exact setFpr64_sound i v h

theorem advance_sound (h : SoundFor n k s) : SoundFor n k (advance s) := h.of_same

theorem branchTo_sound (x : Word) (h : SoundFor n k s) : SoundFor n k (branchTo x s) := h.of_same

theorem skipSlot_sound (h : SoundFor n k s) : SoundFor n k (skipSlot s) := h.of_same

theorem writeGpr_sound (r : Reg) (v : Word) (h : SoundFor n k s) : SoundFor n k (writeGpr r v s) :=
  advance_sound (setGpr_sound r v h)

theorem moveIf_sound (c : Bool) (rd rs : Reg) (h : SoundFor n k s) : SoundFor n k (moveIf c rd rs s) := by
  unfold moveIf
  split
  · exact writeGpr_sound rd _ h
  · exact advance_sound h

theorem branchIf_sound (c : Bool) (offset : BitVec 16) (h : SoundFor n k s) : SoundFor n k (branchIf c offset s) :=
  branchTo_sound _ h

theorem branchLikely_sound (c : Bool) (offset : BitVec 16) (h : SoundFor n k s) :
    SoundFor n k (branchLikely c offset s) := by
  unfold branchLikely
  split
  · exact branchTo_sound _ h
  · exact skipSlot_sound h

theorem link_sound (r : Reg) (h : SoundFor n k s) : SoundFor n k (link r s) := setGpr_sound r _ h

theorem setHiLo_sound (x y : Word) (h : SoundFor n k s) : SoundFor n k (setHiLo x y s) := h.of_same

/-! FCR31 -/

theorem setFcc_sound (cc : BitVec 3) (v : Bool) (h : SoundFor n k s) : SoundFor n k (setFcc cc v s) :=
  h.of_fcr31 (or_clear (and_clear h.fcr31) (by revert cc v; decide))

theorem setFcrCause_sound (c : BitVec 6) (h : SoundFor n k s) : SoundFor n k (setFcrCause c s) :=
  h.of_fcr31 (or_clear (and_clear h.fcr31) (by revert c; decide))

theorem raiseFlags_sound (c : BitVec 6) (h : SoundFor n k s) : SoundFor n k (raiseFlags c s) :=
  h.of_fcr31 (or_clear h.fcr31 (by revert c; decide))

theorem writeFcr31_sound (v : BitVec 32) (h : SoundFor n k s) : SoundFor n k (writeFcr31 v s) :=
  h.of_fcr31 (masked_clear (by decide))

/-! The write buffer and memory -/

theorem agedBuffer_after (wb : List Buffered) : ∀ b ∈ agedBuffer wb, b.after < 4 := fun _ hb => by
  simpa using (List.mem_filter.1 hb).2

theorem pushStore_sound (bytes : List Nat) (olds : List Host.Cell) (h : SoundFor n k s) :
    SoundFor n k (pushStore bytes olds s) :=
  h.of_buffer
    { after := List.forall_mem_cons.2 ⟨Nat.zero_lt_succ 3, agedBuffer_after s.writeBuffer⟩
      devices := fun d hd => by simpa using (List.mem_filter.1 hd).2 }

theorem deviceStore_sound (pa m : Nat) (h : SoundFor n k s) : SoundFor n k (deviceStore pa m s) :=
  let hp := pushStore_sound (s.fieldBytes pa m) [] h
  hp.of_buffer
    { after := hp.buffer.after
      devices := List.forall_mem_cons.2 ⟨⟨_, List.mem_cons_self, rfl⟩, hp.buffer.devices⟩ }

theorem drain_sound (h : SoundFor n k s) : SoundFor n k (drain s) := h.of_buffer ⟨nofun, nofun⟩

theorem loaded_sound (pa : PAddr) (h : SoundFor n k s) : SoundFor n k (loaded pa s) := by
  unfold loaded
  split
  · exact drain_sound h
  · exact h

theorem recordStore_sound (attr : BitVec 3) (line : Nat) (bytes : List Nat) (m : List Host.Cell)
    (h : SoundFor n k s) : SoundFor n k (recordStore attr line bytes m s) := by
  unfold recordStore
  split
  · exact h.of_same
  · exact pushStore_sound _ _ h.of_same

theorem setField_sound (attr : BitVec 3) (pa m : Nat) (v : Word) (h : SoundFor n k s) :
    SoundFor n k (s.setField attr pa m v) :=
  recordStore_sound _ _ _ _ (h.of_mem (wf_memWriteAll _ _ _ _ h.memory) _)

theorem written_sound {attr : BitVec 3} {pa : PAddr} {m : Nat} {v : Word} (hw : Written s attr pa m v t)
    (h : SoundFor n k s) : SoundFor n k t := by
  cases hw with
  | dropped _ => exact h
  | ram _ => exact setField_sound attr _ m v h
  | device _ _ => exact deviceStore_sound _ m h

/-! CP0 -/

theorem onCp0_sound {f : Cp0 → Cp0} (h : SoundFor n k s) (hf : Cp0Sound (f s.cp0)) : SoundFor n k (onCp0 f s) :=
  { h with
    cp0 := hf
    window := List.forall_mem_map.2 h.window }

theorem breakLink_sound (h : SoundFor n k s) : SoundFor n k (breakLink s) := h.of_same

theorem failLink_sound (fair : Bool) (h : SoundFor n k s) : SoundFor n k (failLink fair s) := h.of_same

theorem accessed_sound (h : SoundFor n k s) : SoundFor n k (accessed s) := advance_sound (breakLink_sound h)

theorem setLink_sound (pa : PAddr) (attr : BitVec 3) (h : SoundFor n k s) : SoundFor n k (setLink pa attr s) :=
  let hl : SoundFor n k (onCp0 (fun c => { c with llAddr := pa.extractLsb' 4 32 }) s) := onCp0_sound h h.cp0.of_same
  { hl with }

theorem takeException_sound (e : Exc) (h : SoundFor n k s) : SoundFor n k (takeException e s) := by
  cases e with
  | cacheError err => exact (breakLink_sound (onCp0_sound h (enterCacheError_sound err s h.cp0))).of_pc _ _
  | _ => exact (breakLink_sound (onCp0_sound h (enterGeneral_sound _ s h.cp0))).of_pc _ _

theorem returnFromException_sound (h : SoundFor n k s) : SoundFor n k (returnFromException s) :=
  let hl : SoundFor n k (onCp0 (fun c => { c with status := c.status &&& ~~~(if s.seen.erl then 0x4#32 else 0x2#32) })
      (retire s)) := onCp0_sound h.of_same (h.cp0.of_status (and_clear h.cp0.status))
  { hl with }

/-- An instruction that writes CP0 or TLB state has its window still before it. -/
theorem issue_sound {before : State} (hb : before.cp0Hazard = n) (hk : n < k) (h : SoundFor n k s) :
    SoundFor n k (issue before s) := by
  unfold issue
  split
  · exact h
  · exact { h with window := List.forall_mem_cons.2 ⟨hb ▸ hk, h.window⟩ }

theorem maskInto_statusMask_clear (x v : BitVec 32) (hx : x &&& 0x09A80000#32 = 0#32) :
    maskInto statusMask x v &&& 0x09A80000#32 = 0#32 := or_clear (and_clear hx) (masked_clear (by decide))

theorem writeStatus_sound (v : BitVec 32) (h : SoundFor n k s) : SoundFor n k (writeStatus v s) := by
  have hc := h.cp0.of_status (maskInto_statusMask_clear s.cp0.status v h.cp0.status)
  unfold writeStatus
  dsimp only
  split
  · exact h.of_cp0 hc
  · exact SoundFor.of_cp0 (s := scrambleFgr s) h.of_same hc

theorem writeConfig_sound (v : BitVec 32) (h : SoundFor n k s) : SoundFor n k (writeConfig v s) :=
  have hc : (writeConfig v s).cp0.config.extractLsb' 28 3 ≠ 7#3 := by rw [writeConfig_ec]; exact h.cp0.clock
  { h with cp0 := ⟨h.cp0.status, h.cp0.cacheErr, hc, h.cp0.random⟩ }

theorem writeWired_sound (v : BitVec 32) (h : SoundFor n k s) : SoundFor n k (writeWired v s) :=
  { h with
    cp0 := ⟨h.cp0.status, h.cp0.cacheErr, h.cp0.clock,
      (lt_or_ge 47 _).imp_right fun hw => ⟨hw, Nat.le_refl 47⟩⟩ }

theorem cp0Write_sound (r : Reg) (v : Word) (h : SoundFor n k s) : SoundFor n k (cp0Write r v s) := by
  unfold cp0Write
  split
  case h_6 => exact writeWired_sound _ h
  case h_10 => exact writeStatus_sound _ h
  case h_13 => exact writeConfig_sound _ h
  case h_20 => exact h
  all_goals exact { h with cp0 := h.cp0.of_same }

theorem tlbRead_sound (i : Fin 48) (h : SoundFor n k s) : SoundFor n k (tlbRead i s) := h.of_cp0 h.cp0.of_same

theorem tlbProbe_sound (h : SoundFor n k s) : Yields (SoundFor n k) (tlbProbe s) := by
  unfold tlbProbe
  dsimp only
  split
  · exact yields_error _
  · split
    · exact yields_ok (h.of_cp0 h.cp0.of_same)
    · exact yields_ok (h.of_cp0 h.cp0.of_same)
    · exact yields_error _

/-! CACHE -/

theorem setCacheHit_sound (h : SoundFor n k s) : SoundFor n k (setCacheHit s) :=
  onCp0_sound (f := fun c => { c with status := putField c.status 18 (BitVec.ofBool (s.freeBit .cacheHit)) }) h
    (h.cp0.of_status (or_clear (and_clear h.cp0.status) (by cases s.freeBit .cacheHit <;> decide)))

theorem loadTag_sound (h : SoundFor n k s) : SoundFor n k (loadTag s) := h.of_cp0 h.cp0.of_same

theorem storeTagI_sound (va : Word) (h : SoundFor n k s) : SoundFor n k (storeTagI va s) := h.of_same

theorem storeTagD_sound (va : Word) (h : SoundFor n k s) : SoundFor n k (storeTagD va s) := h.of_same

theorem storeTagS_sound (pa : PAddr) (m : Nat) (h : SoundFor n k s) : SoundFor n k (storeTagS pa m s) := h.of_same

theorem scrambleDirty_sound (h : SoundFor n k s) : SoundFor n k (scrambleDirty s) :=
  h.of_mem (wf_scrambleDirty s h.memory) _

theorem discardLine_sound (line : Nat) (h : SoundFor n k s) : SoundFor n k (discardLine line s) := by
  unfold discardLine
  split
  · exact h.of_mem (wf_scrambleLine s line s.mem h.memory) _
  · exact h

theorem claimLine_sound (line : Nat) (h : SoundFor n k s) : SoundFor n k (claimLine line s) :=
  recordStore_sound _ _ _ _ (h.of_mem (wf_scrambleLine s line s.mem h.memory) _)

theorem bufferLine_sound (line : Nat) (h : SoundFor n k s) : BufferSound (s.bufferLine line) s.deviceStores := by
  unfold State.bufferLine
  split
  · exact
      { after := List.forall_mem_cons.2 ⟨Nat.zero_lt_succ 3, h.buffer.after⟩
        devices := fun d hd =>
          have ⟨b, hb, e⟩ := h.buffer.devices d hd
          ⟨b, List.mem_cons_of_mem _ hb, e⟩ }
  · exact h.buffer

theorem writeBackLine_sound (line : Nat) (h : SoundFor n k s) : SoundFor n k (writeBackLine line s) :=
  { h with buffer := bufferLine_sound line h }

theorem cacheOp_sound (hk : n < k) (op5 : BitVec 5) (va : Word) (pa : PAddr) (h : SoundFor n k s) :
    Yields (SoundFor n k) (cacheOp op5 va pa s) := by
  have hit {t : State} (ht : SoundFor n k t) : Yields (SoundFor n k) (.ok (setCacheHit t)) :=
    yields_ok (setCacheHit_sound ht)
  have tag : Yields (SoundFor n k) (.ok (issue s (loadTag s))) :=
    yields_ok (issue_sound h.hazard hk (loadTag_sound h))
  have dirty {t : State} (ht : SoundFor n k t) : Yields (SoundFor n k) (.ok (scrambleDirty t)) :=
    yields_ok (scrambleDirty_sound ht)
  unfold cacheOp
  dsimp only
  split
  · exact yields_ok h
  · exact tag
  · exact yields_ok (storeTagI_sound va h)
  · exact hit h.of_same
  · exact yields_ok h
  · exact hit h
  · exact yields_ok h
  · exact tag
  · exact dirty (storeTagD_sound va h)
  · exact yields_ok (claimLine_sound _ h)
  · exact hit (discardLine_sound _ h)
  · exact hit (writeBackLine_sound _ h)
  · exact hit (writeBackLine_sound _ h.of_same)
  · exact yields_ite (yields_error _) (dirty h.of_same)
  · exact yields_ite (yields_error _) tag
  · exact yields_ite (yields_error _) (yields_ok (storeTagS_sound pa 1 h))
  · exact yields_ite (yields_error _) (dirty (storeTagS_sound _ 128 h))
  · exact yields_error _

theorem cacheAccess_sound (hk : n < k) (op5 : BitVec 5) (va : Word) (h : SoundFor n k s) :
    Yields (SoundFor n k) (cacheAccess op5 va s) :=
  yields_after fun _ => yields_ite (yields_error _)
    (yields_after fun _ => yields_ite (yields_error _) (cacheOp_sound hk op5 va _ h))

/-! ### The instructions -/

theorem finish_sound (h : SoundFor n k s) {r : Except Stop State} (hr : Yields (SoundFor n k) r) :
    Leads (SoundFor n k) (finish s r) := fun t ht => by
  rcases (finish_next s t r).1 ht with hok | ⟨e, -, rfl⟩
  · exact hr t hok
  · exact takeException_sound e h

/-- An instruction that ends with its gates passed and one state reached. -/
theorem finish_gated_sound (h : SoundFor n k s) {x : Except Stop Unit} (ht : SoundFor n k t) :
    Leads (SoundFor n k) (finish s (x >>= fun _ => .ok t)) :=
  finish_sound h (yields_after fun _ => yields_ok ht)

theorem trap32_sound (ok : Bool) (x : BitVec 33) (rd : Reg) (h : SoundFor n k s) :
    Yields (SoundFor n k) (trap32 ok x rd s) := yields_ite (yields_error _) (yields_ok (writeGpr_sound rd _ h))

theorem trap64_sound (x : BitVec 65) (rd : Reg) (h : SoundFor n k s) : Yields (SoundFor n k) (trap64 x rd s) :=
  yields_ite (yields_error _) (yields_ok (writeGpr_sound rd _ h))

theorem trapIf_sound (c : Bool) (h : SoundFor n k s) : Leads (SoundFor n k) (trapIf c s) :=
  finish_sound h (yields_ite (yields_error _) (yields_ok (advance_sound h)))

theorem advance_setHiLo_sound (c : Bool) (x y : Word) (h : SoundFor n k s) :
    SoundFor n k (advance (if c then setHiLo x y s else freeHiLo s)) := by
  cases c with
  | true => exact advance_sound (setHiLo_sound x y h)
  | false => exact advance_sound (setHiLo_sound _ _ h)

theorem loadGpr_sound (m : Nat) (ext : Word → Word) (rt : Reg) (va : Word) (h : SoundFor n k s) :
    Yields (SoundFor n k) (loadGpr m ext rt va s) :=
  yields_after fun _ => yields_ok (accessed_sound (setGpr_sound rt _ (loaded_sound _ h)))

theorem loadLinked_sound (m : Nat) (ext : Word → Word) (rt : Reg) (va : Word) (h : SoundFor n k s) :
    Yields (SoundFor n k) (loadLinked m ext rt va s) :=
  yields_after fun _ => yields_ok (advance_sound (setLink_sound _ _ (setGpr_sound rt _ (loaded_sound _ h))))

theorem storeBytes_sound (m : Nat) (v va : Word) (h : SoundFor n k s) :
    Yields (SoundFor n k) (storeBytes m v va s) := yields_bind fun t ht =>
  have ⟨_, _, _, _, hw⟩ := memStore_ok s t va m v ht
  yields_ok (accessed_sound (written_sound hw h))

theorem storePart_sound (left : Bool) (va : Word) (m : Nat) (v : Nat → Word) (h : SoundFor n k s) :
    Yields (SoundFor n k) (do let t ← partStore s left va m v; .ok (accessed t)) := yields_bind fun t ht =>
  have ⟨_, _, _, hw⟩ := partStore_ok s t left va m v ht
  yields_ok (accessed_sound (written_sound hw h))

theorem storeConditional_sound (m : Nat) (rt : Reg) (va : Word) (h : SoundFor n k s) :
    Yields (SoundFor n k) (storeConditional m rt va s) := by
  refine yields_after fun _ => yields_after fun p => yields_ite ?stores ?fails
  case stores =>
    exact yields_bind fun t ht =>
      have hw := written_sound (physWrite_ok s t p.2 p.1 m _ ht) h
      have hl : SoundFor n k (endLink t) := hw.of_same
      yields_ok (advance_sound (setGpr_sound rt _ hl))
  case fails => exact yields_ok (advance_sound (setGpr_sound rt _ (failLink_sound _ h)))

theorem fpRun_sound (gate : Except Stop Unit) (c : BitVec 6) {write : State → State} (h : SoundFor n k s)
    (hw : ∀ {t}, SoundFor n k t → SoundFor n k (write t)) : Leads (SoundFor n k) (fpRun gate s c write) :=
  fun t ht => by
  have hc := setFcrCause_sound c h
  rcases fpRun_next gate s t c write ht with ⟨e, -, rfl⟩ | ⟨-, -, rfl⟩ | ⟨-, -, rfl⟩
  · exact takeException_sound e h
  · exact takeException_sound _ hc
  · exact advance_sound (hw (raiseFlags_sound c hc))

theorem moveFprIf_sound (f : FpFmt) (c : Bool) (fs fd : Reg) (h : SoundFor n k s) :
    Leads (SoundFor n k) (moveFprIf f c fs fd s) := by
  refine finish_gated_sound h (advance_sound ?_)
  cases c with
  | true => exact setFpr_sound f fd _ h
  | false => exact h

theorem execCtc1_sound (rt fs : Reg) (h : SoundFor n k s) : Leads (SoundFor n k) (execCtc1 rt fs s) := by
  have hw := writeFcr31_sound (low (s.gpr rt)) h
  unfold execCtc1 ctc1Finish
  rcases requireUnit 1#2 s with st | ⟨⟩
  · exact finish_sound h (yields_error st)
  · dsimp only
    split
    · split
      · exact leads_next (takeException_sound _ hw)
      · exact leads_next (advance_sound hw)
    · exact leads_refused _

/-- Every instruction keeps the invariant, the window of a recent write still before the instruction
(70_reset_and_hazards R712). -/
theorem exec_sound (hk : n < k) (h : SoundFor n k s) : ∀ i : Instr, Leads (SoundFor n k) (exec i s)
  | .lb .. | .lbu .. | .lh .. | .lhu .. | .lw .. => finish_sound h (loadGpr_sound _ _ _ _ h)
  | .lwu .. | .ld .. => finish_sound h (yields_after fun _ => loadGpr_sound _ _ _ _ h)
  | .sb .. | .sh .. | .sw .. => finish_sound h (storeBytes_sound _ _ _ h)
  | .sd .. | .swc1 .. => finish_sound h (yields_after fun _ => storeBytes_sound _ _ _ h)
  | .lwl .. | .lwr .. => finish_sound h (yields_after fun _ =>
      yields_ok (accessed_sound (setGpr_sound _ _ (loaded_sound _ h))))
  | .ldl .. | .ldr .. => finish_sound h (yields_after fun _ => yields_after fun _ =>
      yields_ok (accessed_sound (setGpr_sound _ _ (loaded_sound _ h))))
  | .swl .. | .swr .. => finish_sound h (storePart_sound _ _ _ _ h)
  | .sdl .. | .sdr .. => finish_sound h (yields_after fun _ => storePart_sound _ _ _ _ h)
  | .ll .. => finish_sound h (loadLinked_sound _ _ _ _ h)
  | .lld .. => finish_sound h (yields_after fun _ => loadLinked_sound _ _ _ _ h)
  | .sc .. => finish_sound h (storeConditional_sound _ _ _ h)
  | .scd .. => finish_sound h (yields_after fun _ => storeConditional_sound _ _ _ h)
  | .lwc1 .. => finish_sound h (yields_after fun _ => yields_after fun _ =>
      yields_ok (accessed_sound (setFgrLow_sound _ _ (loaded_sound _ h))))
  | .ldc1 .. => finish_sound h (yields_after fun _ => yields_after fun _ => yields_after fun _ =>
      yields_ok (accessed_sound (setFpr64_sound _ _ (loaded_sound _ h))))
  | .sdc1 .. => finish_sound h (yields_after fun _ => yields_after fun _ => storeBytes_sound _ _ _ h)
  | .lwxc1 .. => finish_sound h (yields_after fun _ => yields_after fun _ => yields_after fun _ =>
      yields_after fun _ => yields_ok (accessed_sound (setFgrLow_sound _ _ (loaded_sound _ h))))
  | .ldxc1 .. => finish_sound h (yields_after fun _ => yields_after fun _ => yields_after fun _ =>
      yields_after fun _ => yields_after fun _ => yields_ok (accessed_sound (setFpr64_sound _ _ (loaded_sound _ h))))
  | .swxc1 .. => finish_sound h (yields_after fun _ => yields_after fun _ => yields_after fun _ =>
      storeBytes_sound _ _ _ h)
  | .sdxc1 .. => finish_sound h (yields_after fun _ => yields_after fun _ => yields_after fun _ =>
      yields_after fun _ => storeBytes_sound _ _ _ h)
  | .pref .. => finish_gated_sound h (advance_sound h)
  | .prefx .. => finish_sound h (yields_after fun _ => yields_after fun _ => yields_ok (advance_sound h))
  | .add .. | .sub .. | .addi .. => finish_sound h (trap32_sound _ _ _ h)
  | .dadd .. | .dsub .. | .daddi .. => finish_sound h (yields_after fun _ => trap64_sound _ _ h)
  | .addu .. | .subu .. | .addiu .. | .and .. | .or .. | .xor .. | .nor .. | .andi .. | .ori .. | .xori ..
  | .slt .. | .sltu .. | .slti .. | .sltiu .. | .lui .. | .sll .. | .srl .. | .sra .. | .sllv .. | .srlv ..
  | .srav .. => leads_next (writeGpr_sound _ _ h)
  | .daddu .. | .dsubu .. | .daddiu .. | .dsll .. | .dsrl .. | .dsra .. | .dsll32 .. | .dsrl32 .. | .dsra32 ..
  | .dsllv .. | .dsrlv .. | .dsrav .. => finish_gated_sound h (writeGpr_sound _ _ h)
  | .movn .. | .movz .. => finish_gated_sound h (moveIf_sound _ _ _ h)
  | .movf .. | .movt .. => finish_sound h (yields_after fun _ => yields_after fun _ => yields_ok (moveIf_sound _ _ _ h))
  | .mult .. | .multu .. | .div .. | .divu .. => finish_gated_sound h (advance_setHiLo_sound _ _ _ h)
  | .dmult .. | .dmultu .. => finish_sound h (yields_after fun _ => yields_after fun _ =>
      yields_ok (advance_sound (setHiLo_sound _ _ h)))
  | .ddiv .. | .ddivu .. => finish_sound h (yields_after fun _ => yields_after fun _ =>
      yields_ok (advance_setHiLo_sound _ _ _ h))
  | .mfhi rd =>
    let hw := writeGpr_sound rd s.hi h
    leads_next { hw with guards := ⟨Nat.le_refl 2, hw.guards.2⟩ }
  | .mflo rd =>
    let hw := writeGpr_sound rd s.lo h
    leads_next { hw with guards := ⟨hw.guards.1, Nat.le_refl 2⟩ }
  | .mthi .. | .mtlo .. => finish_gated_sound h (advance_sound h.of_same)
  | .j .. | .jr .. => finish_gated_sound h (branchTo_sound _ h)
  | .jal .. => finish_gated_sound h (branchTo_sound _ (link_sound _ h))
  | .jalr .. => finish_sound h (yields_after fun _ => yields_ite (yields_error _)
      (yields_ok (branchTo_sound _ (link_sound _ h))))
  | .beq .. | .bne .. | .blez .. | .bgtz .. | .bltz .. | .bgez .. => finish_gated_sound h (branchIf_sound _ _ h)
  | .beql .. | .bnel .. | .blezl .. | .bgtzl .. | .bltzl .. | .bgezl .. =>
    finish_gated_sound h (branchLikely_sound _ _ h)
  | .bltzal .. | .bgezal .. => finish_sound h (yields_after fun _ => yields_after fun _ =>
      yields_ok (branchIf_sound _ _ (link_sound _ h)))
  | .bltzall .. | .bgezall .. => finish_sound h (yields_after fun _ => yields_after fun _ =>
      yields_ok (branchLikely_sound _ _ (link_sound _ h)))
  | .bc1f .. | .bc1t .. => finish_gated_sound h (branchIf_sound _ _ h)
  | .bc1fl .. | .bc1tl .. => finish_gated_sound h (branchLikely_sound _ _ h)
  | .syscall .. | .brk .. => leads_next (takeException_sound _ h)
  | .sync .. => leads_next (advance_sound (h.of_buffer ⟨h.buffer.after, nofun⟩))
  | .tge .. | .tgeu .. | .tlt .. | .tltu .. | .teq .. | .tne .. | .tgei .. | .tgeiu .. | .tlti .. | .tltiu ..
  | .teqi .. | .tnei .. => trapIf_sound _ h
  | .mfc0 .. => finish_gated_sound h (advance_sound (setGpr_sound _ _ h))
  | .dmfc0 .. => finish_sound h (yields_after fun _ => yields_after fun _ =>
      yields_ok (advance_sound (setGpr_sound _ _ h)))
  | .mtc0 .. => finish_gated_sound h (advance_sound (issue_sound h.hazard hk (cp0Write_sound _ _ h)))
  | .dmtc0 .. => finish_sound h (yields_after fun _ => yields_after fun _ =>
      yields_ok (advance_sound (issue_sound h.hazard hk (cp0Write_sound _ _ h))))
  | .tlbr => finish_sound h (yields_after fun _ => yields_after fun i =>
      yields_ok (advance_sound (issue_sound h.hazard hk (tlbRead_sound i h))))
  | .tlbwi | .tlbwr => finish_sound h (yields_after fun _ => yields_after fun _ =>
      yields_ok (advance_sound (issue_sound h.hazard hk h.of_same)))
  | .tlbp => finish_sound h (yields_after fun _ => yields_bind fun t ht =>
      yields_ok (advance_sound (issue_sound h.hazard hk (tlbProbe_sound h t ht))))
  | .eret => finish_sound h (yields_after fun _ => yields_ite (yields_error _)
      (yields_ok (returnFromException_sound h)))
  | .cache .. => finish_sound h (yields_after fun _ => yields_bind fun t ht =>
      yields_ok (advance_sound (cacheAccess_sound hk _ _ h t ht)))
  | .mfc1 .. | .cfc1 .. => finish_gated_sound h (advance_sound (setGpr_sound _ _ h))
  | .mtc1 .. => finish_gated_sound h (advance_sound (setFgrLow_sound _ _ h))
  | .dmfc1 .. => finish_sound h (yields_after fun _ => yields_after fun _ => yields_after fun _ =>
      yields_ok (advance_sound (setGpr_sound _ _ h)))
  | .dmtc1 .. => finish_sound h (yields_after fun _ => yields_after fun _ => yields_after fun _ =>
      yields_ok (advance_sound (setFpr64_sound _ _ h)))
  | .ctc1 .. => execCtc1_sound _ _ h
  | .movS .. | .movD .. => finish_gated_sound h (advance_sound (setFpr_sound _ _ _ h))
  | .movfS .. | .movtS .. | .movnS .. | .movzS .. | .movfD .. | .movtD .. | .movnD .. | .movzD .. =>
    moveFprIf_sound _ _ _ _ h
  | .addS .. | .subS .. | .mulS .. | .divS .. | .sqrtS .. | .absS .. | .negS .. | .recipS .. | .rsqrtS ..
  | .addD .. | .subD .. | .mulD .. | .divD .. | .sqrtD .. | .absD .. | .negD .. | .recipD .. | .rsqrtD ..
  | .maddS .. | .maddD .. | .msubS .. | .msubD .. | .nmaddS .. | .nmaddD .. | .nmsubS .. | .nmsubD ..
  | .cvtSD .. | .cvtSW .. | .cvtSL .. | .cvtDS .. | .cvtDW .. | .cvtDL .. =>
    fpRun_sound _ _ h (setFpr_sound _ _ _)
  | .cFS .. | .cUnS .. | .cEqS .. | .cUeqS .. | .cOltS .. | .cUltS .. | .cOleS .. | .cUleS .. | .cSfS ..
  | .cNgleS .. | .cSeqS .. | .cNglS .. | .cLtS .. | .cNgeS .. | .cLeS .. | .cNgtS .. | .cFD .. | .cUnD ..
  | .cEqD .. | .cUeqD .. | .cOltD .. | .cUltD .. | .cOleD .. | .cUleD .. | .cSfD .. | .cNgleD .. | .cSeqD ..
  | .cNglD .. | .cLtD .. | .cNgeD .. | .cLeD .. | .cNgtD .. => fpRun_sound _ _ h (setFcc_sound _ _)
  | .cvtWS .. | .cvtLS .. | .roundWS .. | .truncWS .. | .ceilWS .. | .floorWS .. | .roundLS .. | .truncLS ..
  | .ceilLS .. | .floorLS .. | .cvtWD .. | .cvtLD .. | .roundWD .. | .truncWD .. | .ceilWD .. | .floorWD ..
  | .roundLD .. | .truncLD .. | .ceilLD .. | .floorLD .. => fpRun_sound _ _ h (setFprInt_sound _ _ _)

theorem unimplementedFp_sound (gate : Except Stop Unit) (h : SoundFor n k s) :
    Leads (SoundFor n k) (unimplementedFp gate s) := by
  rcases gate with st | ⟨⟩
  · exact finish_sound h (yields_error st)
  · exact leads_next (takeException_sound _ (setFcrCause_sound _ h))

/-- A word that is no instruction can only raise an exception. -/
theorem execReject_sound (h : SoundFor n k s) : ∀ r : Reject, Leads (SoundFor n k) (execReject r s)
  | .reserved (some _) | .coprocessor2 | .mustBeZero (some _) =>
    finish_sound h (yields_after fun _ => yields_error _)
  | .reserved none => leads_next (takeException_sound _ h)
  | .mustBeZero none => leads_refused _
  | .reservedFp | .reservedFp4 => unimplementedFp_sound _ h

theorem execWord_sound (hk : n < k) (w : BitVec 32) (h : SoundFor n k s) : Leads (SoundFor n k) (execWord w s) := by
  unfold execWord
  split
  · exact exec_sound hk h _
  · exact execReject_sound h _

/-! ### Events and time -/

theorem takeColdReset_sound (h : SoundFor n k s) : SoundFor n k (takeColdReset s) where
  memory := h.memory
  cp0 := coldCp0_sound s h.cp0
  fcr31 := masked_clear (by decide)
  guards := ⟨Nat.zero_le 2, Nat.zero_le 2⟩
  window := nofun
  buffer := ⟨nofun, nofun⟩
  hazard := h.hazard

theorem takeSoftEntry_sound (h : SoundFor n k s) : SoundFor n k (takeSoftEntry s) :=
  (breakLink_sound (onCp0_sound h (enterSoft_sound s h.cp0))).of_pc _ _

theorem takeSoftReset_sound (h : SoundFor n k s) : SoundFor n k (takeSoftReset s) :=
  { takeSoftEntry_sound (scrambleDirty_sound h) with
    memory := wf_takeSoftReset s h.memory
    buffer := ⟨nofun, nofun⟩ }

theorem takeNmi_sound (h : SoundFor n k s) : SoundFor n k (takeNmi s) := { takeSoftEntry_sound h with }

theorem takeInterrupt_sound (h : SoundFor n k s) : SoundFor n k (takeInterrupt s) := by
  unfold takeInterrupt
  split
  · exact takeException_sound _ (h.of_cp0 (h.cp0.of_status (and_clear h.cp0.status)))
  · exact takeException_sound _ h

theorem takeEvent_sound (h : SoundFor n k s) (ht : takeEvent s = some t) : SoundFor n k t := by
  unfold takeEvent at ht
  split at ht
  · cases ht; exact takeColdReset_sound h
  · split at ht
    · cases ht; exact takeSoftReset_sound h
    · split at ht
      · cases ht; exact takeNmi_sound h
      · split at ht
        · cases ht; exact takeInterrupt_sound h
        · cases ht

theorem ageRecent_sound (h : SoundFor n (k + 1) s) : SoundFor n k (ageRecent s) :=
  { h with
    window := fun o ho => by
      obtain ⟨p, hp, -, rfl⟩ := (mem_ageRecent_recent s o).1 ho
      exact Nat.sub_le_of_le_add (h.window p hp) }

theorem tick_sound (before : State) (h : SoundFor n k s) : SoundFor n k (tick before s) :=
  { h with
    cp0 := tickCp0_sound s _ _ h.cp0
    window := List.forall_mem_map.2 h.window }

end

/-- Settles O3: whatever a step does, an event, an instruction or the exception of a fetch, keeps the invariant; the
window of a write that an instruction makes is one longer until the recent writes grow older. -/
theorem stepKeepsInvariant : Obligations.StepKeepsInvariant := by
  intro s t h hstep
  have hs := (inv_iff_soundFor s).1 h
  obtain ⟨u, rfl, hu⟩ := step_next s t hstep
  have hu : SoundFor s.cp0Hazard s.cp0Hazard u := by
    rcases hu with he | ⟨-, w, v, -, hx, rfl⟩ | ⟨-, e, -, rfl⟩
    · exact takeEvent_sound hs he
    · exact ageRecent_sound (execWord_sound (Nat.lt_succ_self _) w (hs.mono (Nat.le_succ _)) v hx)
    · exact takeException_sound e hs
  have ht := tick_sound s hu
  rw [inv_iff_soundFor, ht.hazard]
  exact ht

end Sys2Proof.Proofs

/-! PROOFS. The jumps and the linking branches: where they go, what they link and what they keep. -/

namespace Sys2Proof.Proofs

open Sys2Proof.Machine

set_option Elab.async false

/-! ### How a jump or branch completes -/

section
variable {w : Touched} {s t : State} {x : Word}

/-- An instruction whose one gate is passed completes. -/
theorem finish_of_ok {g : Except Stop Unit} (hg : g = .ok ()) : finish s (g >>= fun _ => .ok t) = .next t := by
  rw [hg]
  rfl

/-- The same with two gates. -/
theorem finish_of_ok_ok {g g' : Except Stop Unit} (hg : g = .ok ()) (hg' : g' = .ok ()) :
    finish s (g >>= fun _ => g' >>= fun _ => .ok t) = .next t := by
  rw [hg, hg']
  rfl

theorem seqPc_inside {k : Nat} (h : s.pc.toNat + k < 2 ^ 64) : s.seqPc k = s.pc + BitVec.ofNat 64 k := if_pos h

theorem keeps_branchTo (h : Keeps w s t) : Keeps w s (branchTo x t) := { h with }

theorem keeps_skipSlot (h : Keeps w s t) : Keeps w s (skipSlot t) := { h with }

theorem goesTo_branchTo (hpc : t.pc = s.pc) : GoesTo s (branchTo x t) x where
  slot h := by rw [branchTo_pc, seqPc_inside (hpc ▸ h), hpc]
  target := rfl

theorem skipsSlot_skipSlot (hpc : t.pc = s.pc) : SkipsSlot s (skipSlot t) where
  past h := by rw [skipSlot_pc, seqPc_inside (hpc ▸ h), hpc]
  next := rfl

theorem keeps_link (d : Reg) (s : State) : Keeps { gprs := [d] } s (link d s) := keeps_setGpr d _ s

theorem link_gpr (d : Reg) (s : State) : (link d s).gpr d = if d = 0#5 then 0#64 else s.pc + 8#64 :=
  setGpr_gpr_same d _ s

theorem link_pc (d : Reg) (s : State) : (link d s).pc = s.pc := setGpr_pc d _ s

/-- BranchTarget, with the offset in words (44_jump_branch R381). -/
theorem branchTarget_eq (s : State) (offset : BitVec 16) : branchTarget s.pc offset = targetOf s offset := by
  have words : (offset ++ 0#2).signExtend 64 = BitVec.ofInt 64 (4 * offset.toInt) :=
    congrArg (BitVec.ofInt 64) BitVec.toInt_append_zero
  rw [branchTarget, words, targetOf]

theorem isNeg_iff (v : Word) : isNeg v = true ↔ v.toInt < 0 := by
  rw [← decide_eq_true_iff (p := v.toInt < 0), ← BitVec.msb_eq_toInt]
  rfl

theorem not_isNeg_iff (v : Word) : (!isNeg v) = true ↔ 0 ≤ v.toInt := by
  rw [Bool.not_eq_true', ← Bool.not_eq_true, isNeg_iff, Int.not_lt]

section
variable {i : Instr} {b : Bool} {c : Prop} {offset : BitVec 16}

/-- An instruction that branches when b holds, after an effect that leaves the pc. -/
theorem branchesIf_of (hx : exec i s = .next (branchIf b offset t)) (hb : b = true ↔ c) (hpc : t.pc = s.pc)
    (hk : Keeps w s t) : BranchesIf i s c offset w := by
  refine ⟨fun hc => ⟨_, hx, ?_, keeps_branchTo hk⟩, fun hc hp => ⟨_, hx, ?_, keeps_branchTo hk⟩⟩
  · rw [branchIf, if_pos (hb.2 hc), hpc, branchTarget_eq]
    exact goesTo_branchTo hpc
  · rw [branchIf, if_neg (mt hb.1 hc), seqPc_inside (hpc ▸ hp), hpc]
    exact goesTo_branchTo hpc

theorem branchesLikely_of (hx : exec i s = .next (branchLikely b offset t)) (hb : b = true ↔ c) (hpc : t.pc = s.pc)
    (hk : Keeps w s t) : BranchesLikely i s c offset w := by
  refine ⟨fun hc => ⟨_, hx, ?_⟩, fun hc => ⟨_, hx, ?_⟩⟩
  · rw [branchLikely, if_pos (hb.2 hc), hpc, branchTarget_eq]
    exact ⟨goesTo_branchTo hpc, keeps_branchTo hk⟩
  · rw [branchLikely, if_neg (mt hb.1 hc)]
    exact ⟨skipsSlot_skipSlot hpc, keeps_skipSlot hk⟩

/-- The link value survives whatever reads register d as the linking did. -/
theorem linksTo_of {d : Reg} (hx : exec i s = .next t) (ht : t.gpr d = (link d s).gpr d) : LinksTo i s d := by
  intro u hu
  obtain rfl : t = u := by simpa [hx] using hu
  rw [ht, link_gpr]

theorem branchLikely_gpr (b : Bool) (offset : BitVec 16) (s : State) (r : Reg) :
    (branchLikely b offset s).gpr r = s.gpr r := by
  unfold branchLikely
  split
  · exact branchTo_gpr _ s r
  · exact skipSlot_gpr s r

/-- A linking branch that passes its checks. -/
theorem linkingBranchIf_of (hx : exec i s = .next (branchIf b offset (link 31#5 s))) (hb : b = true ↔ c) :
    BranchesIf i s c offset { gprs := [31#5] } ∧ LinksTo i s 31#5 :=
  ⟨branchesIf_of hx hb (link_pc _ s) (keeps_link _ s), linksTo_of hx (branchTo_gpr _ _ _)⟩

theorem linkingBranchLikely_of (hx : exec i s = .next (branchLikely b offset (link 31#5 s))) (hb : b = true ↔ c) :
    BranchesLikely i s c offset { gprs := [31#5] } ∧ LinksTo i s 31#5 :=
  ⟨branchesLikely_of hx hb (link_pc _ s) (keeps_link _ s), linksTo_of hx (branchLikely_gpr _ _ _ _)⟩

end

/-- A jump that passes its checks, after an effect that leaves the pc. -/
theorem jumps_of {i : Instr} (hx : exec i s = .next (branchTo x t)) (hpc : t.pc = s.pc) (hk : Keeps w s t) :
    Completes (exec i s) fun u => GoesTo s u x ∧ Keeps w s u :=
  ⟨_, hx, goesTo_branchTo hpc, keeps_branchTo hk⟩

theorem linkingJumps_of {i : Instr} {d : Reg} (hx : exec i s = .next (branchTo x (link d s))) :
    Completes (exec i s) fun u =>
      GoesTo s u x ∧ u.gpr d = (if d = 0#5 then 0#64 else s.pc + 8#64) ∧ Keeps { gprs := [d] } s u :=
  ⟨_, hx, goesTo_branchTo (link_pc d s), (branchTo_gpr _ _ d).trans (link_gpr d s), keeps_branchTo (keeps_link d s)⟩

end

/-! ### The statements -/

/-- Settles O20: each jump passes the check of the delay slot, JALR that of its link register, and goes to its
target. -/
theorem jumps : Obligations.Jumps := by
  intro s rs rd target hn
  have hslot := requireNoSlot_ok s hn
  refine ⟨?j, ?jal, ?jr, fun hne => ?jalr⟩
  case j => exact jumps_of (finish_of_ok hslot) rfl (keeps_refl _ s)
  case jal => exact linkingJumps_of (finish_of_ok hslot)
  case jr => exact jumps_of (finish_of_ok hslot) rfl (keeps_refl _ s)
  case jalr =>
    refine linkingJumps_of ?_
    calc exec (.jalr rs rd) s
        = finish s (requireNoSlot s >>= fun _ =>
            if rd = rs then .error (.refuse .linkRegisterSource) else .ok (branchTo (s.gpr rs) (link rd s))) := rfl
      _ = .next (branchTo (s.gpr rs) (link rd s)) := by rw [if_neg hne, finish_of_ok hslot]

/-- Settles O22: outside a delay slot and with rs other than 31 both checks of a linking branch are passed, and the
sign bit is the comparison with zero. -/
theorem linkingBranches : Obligations.LinkingBranches := by
  intro s rs offset hn hrs
  have hslot := requireNoSlot_ok s hn
  have hsource : requireLinkSource rs = .ok () := if_neg hrs
  exact ⟨linkingBranchIf_of (finish_of_ok_ok hslot hsource) (isNeg_iff _),
    linkingBranchIf_of (finish_of_ok_ok hslot hsource) (not_isNeg_iff _),
    linkingBranchLikely_of (finish_of_ok_ok hslot hsource) (isNeg_iff _),
    linkingBranchLikely_of (finish_of_ok_ok hslot hsource) (not_isNeg_iff _)⟩

end Sys2Proof.Proofs

/-! PROOFS. The CP0 registers: what a write leaves for a read, what a read delivers, and the four moves. -/

namespace Sys2Proof.Proofs

open Sys2Proof.Machine

set_option Elab.async false

/-! ### Words under masks -/

theorem low_eq_extract (v : Word) : low v = v.extractLsb' 0 32 := (BitVec.setWidth_eq_extractLsb' (by decide))

section
variable {n : Nat} {w r old v : BitVec n}

/-- Writing some of the bits that can be read, and reading. -/
theorem maskInto_and (h : w &&& r = w) : maskInto w old v &&& r = maskInto w (old &&& r) v := by
  rw [maskInto, maskInto, BitVec.and_comm, BitVec.and_or_distrib_left]
  congr 1
  · rw [BitVec.and_comm, BitVec.and_assoc, BitVec.and_comm _ r, ← BitVec.and_assoc]
  · rw [BitVec.and_comm, BitVec.and_assoc, h]

/-- Writing exactly the bits that can be read. -/
theorem and_eq_maskInto : v &&& w &&& w = maskInto w (old &&& w) v := by
  simp [maskInto, BitVec.and_assoc]

theorem maskInto_allOnes : maskInto (BitVec.allOnes n) old v = v := by
  rw [maskInto, BitVec.not_allOnes, BitVec.and_zero, BitVec.zero_or, BitVec.and_allOnes]

theorem maskInto_zero : maskInto 0#n old v = old := by
  rw [maskInto, BitVec.not_zero, BitVec.and_allOnes, BitVec.and_zero, BitVec.or_zero]

/-- A register part that no written bit is in. -/
theorem maskInto_or (h : r &&& w = 0#n) : maskInto w old v ||| r = maskInto w (old ||| r) v := by
  have keep : r &&& ~~~w = r := by
    have split : (r &&& w) ||| (r &&& ~~~w) = r := by
      rw [← BitVec.and_or_distrib_left, BitVec.or_not_self, BitVec.and_allOnes]
    rwa [h, BitVec.zero_or] at split
  rw [maskInto, maskInto, BitVec.and_comm (old ||| r), BitVec.and_or_distrib_left, BitVec.and_comm _ r, keep,
    BitVec.and_comm _ old, BitVec.or_assoc, BitVec.or_assoc, BitVec.or_comm (v &&& w)]

end

/-- The low word of a register under a mask, as all 64 bits. -/
theorem setWidth_maskInto (w old : BitVec 32) (v : Word) :
    (maskInto w old (low v)).setWidth 64 = maskInto (w.setWidth 64) (old.setWidth 64) v := by
  apply BitVec.eq_of_getLsbD_eq
  intro i hi
  by_cases h : i < 32
  · simp [maskInto, low, h, hi]
  · simp [maskInto, BitVec.getLsbD_of_ge _ i (Nat.le_of_not_lt h)]

/-- The low word of a masked write is that of the old and the new value. -/
theorem low_maskInto (w old v : Word) : low (maskInto w old v) = maskInto (low w) (low old) (low v) := by
  simp [low, maskInto, BitVec.setWidth_or, BitVec.setWidth_and, BitVec.setWidth_not]

/-! ### Cause (10_state R83, R113; 60_exceptions R650) -/

/-- What drives IP(7): the timer latch or Int[5]. -/
def timerPin (s : State) : Bool := if s.timerIntOnIP7 then s.timerLatch else s.pins.int.getLsbD 5

/-- Cause.IP bit by bit. -/
theorem ip_getLsbD (s : State) (i : Nat) :
    s.ip.getLsbD i = if i < 2 then s.cp0.cause.getLsbD (8 + i)
      else if i < 7 then s.pins.int.getLsbD (i - 2) else decide (i = 7) && timerPin s := by
  have bits : s.ip = BitVec.ofBool (timerPin s) ++ s.pins.int.extractLsb' 0 5 ++ s.cp0.cause.extractLsb' 8 2 := rfl
  rw [bits, BitVec.getLsbD_append, BitVec.getLsbD_append]
  by_cases h2 : i < 2
  · simp [h2]
  by_cases h7 : i < 7
  · simp [h2, h7, show i - 2 < 5 by omega]
  · simp [h2, h7, show ¬i - 2 < 5 by omega, BitVec.getLsbD_ofBool, show i - 2 - 5 = 0 ↔ i = 7 by omega]

/-- Cause as read: the stored fields, the levels Int[4:0] and IP(7), none of them over another. -/
theorem causeWord_eq (s : State) :
    s.causeWord = (s.cp0.cause &&& 0xB000037C#32) ||| (s.pins.int.extractLsb' 0 5).setWidth 32 <<< 10
      ||| (BitVec.ofBool (timerPin s)).setWidth 32 <<< 15 := by
  apply BitVec.eq_of_getLsbD_eq
  intro i hi
  rw [State.causeWord, BitVec.getLsbD_or, BitVec.getLsbD_shiftLeft, BitVec.getLsbD_setWidth, ip_getLsbD]
  interval_cases i <;> simp

/-- A write of IP(1:0) is read back; no other bit of Cause follows it. -/
theorem causeWord_write (s : State) (v : BitVec 32) :
    ({ s with cp0 := { s.cp0 with cause := maskInto 0x300#32 s.cp0.cause v } } : State).causeWord
      = maskInto 0x300#32 s.causeWord v := by
  have levels : ∀ p : BitVec 5, p.setWidth 32 <<< 10 &&& 0x300#32 = 0#32 := by decide
  have timer : ∀ b, (BitVec.ofBool b).setWidth 32 <<< 15 &&& 0x300#32 = 0#32 := by decide
  rw [causeWord_eq, causeWord_eq, ← maskInto_or (timer _), ← maskInto_or (levels _), ← maskInto_and (by decide)]
  rfl

/-- The timer drives bit 15 of Cause and no other. -/
theorem causeWord_but_timer {s t : State} (hc : t.cp0.cause = s.cp0.cause) (hp : t.pins = s.pins) :
    t.causeWord &&& ~~~0x8000#32 = s.causeWord &&& ~~~0x8000#32 := by
  have timer : ∀ b, (BitVec.ofBool b).setWidth 32 <<< 15 &&& ~~~0x8000#32 = 0#32 := by decide
  have but (x : BitVec 32) (b : Bool) :
      (x ||| (BitVec.ofBool b).setWidth 32 <<< 15) &&& ~~~0x8000#32 = x &&& ~~~0x8000#32 := by
    rw [BitVec.and_comm, BitVec.and_or_distrib_left, BitVec.and_comm _ ((BitVec.ofBool b).setWidth 32 <<< 15), timer,
      BitVec.or_zero, BitVec.and_comm]
  rw [causeWord_eq, causeWord_eq, but, but, hc, hp]

/-! ### A CP0 register written and read (46_cp0 R453) -/

/-- The bits of CP0 register n that a write changes (10_state R71 to R95). -/
def writableBits (n : Nat) : Word :=
  match n with
  | 0 => (0x3F#32).setWidth 64
  | 2 => entryLoMask
  | 3 => entryLoMask
  | 4 => 0xFFFFFFFFFF800000#64
  | 5 => (0x01FFE000#32).setWidth 64
  | 6 => (0x3F#32).setWidth 64
  | 9 => (BitVec.allOnes 32).setWidth 64
  | 10 => 0xC00000FFFFFFE0FF#64
  | 11 => (BitVec.allOnes 32).setWidth 64
  | 12 => statusMask.setWidth 64
  | 13 => (0x300#32).setWidth 64
  | 14 => BitVec.allOnes 64
  | 16 => (0x1007#32).setWidth 64
  | 17 => (BitVec.allOnes 32).setWidth 64
  | 20 => 0xFFFFFFFE00000000#64
  | 26 => (0xFF#32).setWidth 64
  | 28 => (BitVec.allOnes 32).setWidth 64
  | 29 => (BitVec.allOnes 32).setWidth 64
  | 30 => BitVec.allOnes 64
  | _ => 0#64

/-- A 32-bit register whose low bits w are written. -/
theorem read32_of {w old x : BitVec 32} {v : Word} (h : x = maskInto w old (low v)) :
    x.setWidth 64 = maskInto (w.setWidth 64) (old.setWidth 64) v := by rw [h, setWidth_maskInto]

/-- Reading a CP0 register back after a write gives the written bits in its writable positions and the old ones
elsewhere. -/
theorem cp0Read_cp0Write (n : Reg) (v : Word) (s : State) :
    (cp0Write n v s).cp0Read n = maskInto (writableBits n.toNat) (s.cp0Read n) v := by
  unfold cp0Write
  split
  case h_20 =>
    have none : writableBits n.toNat = 0#64 := by
      unfold writableBits
      split
      case h_20 => rfl
      all_goals contradiction
    rw [none, maskInto_zero]
  all_goals
    rename_i hn
    simp only [State.cp0Read, writableBits, hn]
  case h_1 => exact read32_of (maskInto_and (by decide))
  case h_2 => exact and_eq_maskInto
  case h_3 => exact and_eq_maskInto
  case h_4 => exact maskInto_and (by decide)
  case h_5 => exact read32_of and_eq_maskInto
  case h_6 => exact read32_of and_eq_maskInto
  case h_7 => exact read32_of maskInto_allOnes.symm
  case h_8 => exact and_eq_maskInto
  case h_9 => exact read32_of maskInto_allOnes.symm
  case h_10 =>
    rw [writeStatus_cp0]
    exact read32_of (maskInto_and (by decide))
  case h_11 => exact read32_of (causeWord_write s (low v))
  case h_12 => exact maskInto_allOnes.symm
  case h_13 => exact read32_of (maskInto_and (by decide))
  case h_14 => exact read32_of maskInto_allOnes.symm
  case h_15 => exact maskInto_and (by decide)
  case h_16 => exact read32_of and_eq_maskInto
  case h_17 => exact read32_of maskInto_allOnes.symm
  case h_18 => exact read32_of maskInto_allOnes.symm
  case h_19 => exact maskInto_allOnes.symm

/-- Settles O28: a write is read back by `cp0Read_cp0Write`, and the writable bits are those of the table. -/
theorem cp0WritableFields : Obligations.Cp0WritableFields := by
  intro s v p hp
  have bits : writableBits (BitVec.ofNat 5 p.1).toNat = p.2 := by
    revert p
    decide
  rw [cp0Read_cp0Write, bits, maskInto]

/-! ### What a read delivers (46_cp0 R441, R442; 70_reset_and_hazards R712) -/

/-- A read looks at CP0, the timer latch and the inputs. -/
theorem cp0Read_congr {s t : State} (cp0 : t.cp0 = s.cp0 := by simp) (latch : t.timerLatch = s.timerLatch := by simp)
    (ip7 : t.timerIntOnIP7 = s.timerIntOnIP7 := by simp) (pins : t.pins = s.pins := by simp)
    (draws : t.draws = s.draws := by simp) (n : Reg) : t.cp0Read n = s.cp0Read n := by
  simp only [State.cp0Read, State.causeWord, State.ip, State.free, cp0, latch, ip7, pins, draws]

/-- A part of a CP0 register is seen as it is, or as it was before a recent write. -/
theorem reg_present_or_old {α β : Type} (s : State) (fetch : Bool) (n : Nat) (f : Cp0 → α) (g : α → β) :
    g (s.reg fetch n f) = g (f s.cp0) ∨ ∃ o ∈ s.recent, g (s.reg fetch n f) = g (f o.cp0) :=
  (pickOld_mem s _ _ _).imp (congrArg g) fun ⟨o, ho, e⟩ => ⟨o, ho, congrArg g e⟩

/-- A CP0 register other than Cause is read as it is, or as it was before a recent write. -/
theorem cp0Read_seen (s : State) (n : Reg) (hn : n ≠ 13#5) :
    s.seen.cp0Read n = s.cp0Read n
      ∨ ∃ o ∈ s.recent, s.seen.cp0Read n = ({ s with cp0 := o.cp0 } : State).cp0Read n := by
  by_cases hr : s.recent = []
  · exact .inl (by rw [seen_of_recent_nil s hr])
  have hcp0 : s.seen.cp0 = s.cp0Seen false := by
    unfold State.seen State.view
    split
    · contradiction
    · rfl
  unfold State.cp0Read
  rw [hcp0]
  split
  · exact reg_present_or_old s false 0 Cp0.index fun x => (x &&& 0x8000003F#32).setWidth 64
  · exact reg_present_or_old s false 1 Cp0.random fun x => x.setWidth 64
  · exact reg_present_or_old s false 2 Cp0.entryLo0 fun x => x &&& entryLoMask
  · exact reg_present_or_old s false 3 Cp0.entryLo1 fun x => x &&& entryLoMask
  · exact reg_present_or_old s false 4 Cp0.context fun x => x &&& 0xFFFFFFFFFFFFFFF0#64
  · exact reg_present_or_old s false 5 Cp0.pageMask fun x => (x &&& 0x01FFE000#32).setWidth 64
  · exact reg_present_or_old s false 6 Cp0.wired fun x => (x &&& 0x3F#32).setWidth 64
  · exact reg_present_or_old s false 8 Cp0.badVAddr id
  · exact reg_present_or_old s false 9 Cp0.count fun x => x.setWidth 64
  · exact reg_present_or_old s false 10 Cp0.entryHi fun x => x &&& 0xC00000FFFFFFE0FF#64
  · exact reg_present_or_old s false 11 Cp0.compare fun x => x.setWidth 64
  · exact reg_present_or_old s false 12 Cp0.status fun x => (x &&& statusMask).setWidth 64
  · next h13 => exact absurd (BitVec.eq_of_toNat_eq h13) hn
  · exact reg_present_or_old s false 14 Cp0.epc id
  · exact reg_present_or_old s false 15 Cp0.prid fun x => (x &&& 0xFFFF#32).setWidth 64
  · exact reg_present_or_old s false 16 Cp0.config fun x => (x &&& 0x7F32FFF7#32).setWidth 64
  · exact reg_present_or_old s false 17 Cp0.llAddr fun x => x.setWidth 64
  · exact reg_present_or_old s false 20 Cp0.xcontext fun x => x &&& 0xFFFFFFFFFFFFFFF0#64
  · exact reg_present_or_old s false 26 Cp0.ecc fun x => (x &&& 0xFF#32).setWidth 64
  · exact reg_present_or_old s false 27 Cp0.cacheErr fun x => (x &&& cacheErrMask).setWidth 64
  · exact reg_present_or_old s false 28 Cp0.tagLo fun x => x.setWidth 64
  · exact reg_present_or_old s false 29 Cp0.tagHi fun x => x.setWidth 64
  · exact reg_present_or_old s false 30 Cp0.errorEpc id
  · exact .inl (by simp [State.free])

/-- CacheErr reads without EC and bits 24:0 (10_state R91). -/
theorem cacheErr_read (s : State) (k : Nat) :
    (s.cp0Read 27#5).getLsbD k = (s.cp0.cacheErr.getLsbD k && decide (k ∈ [31, 29, 28, 27, 26, 25])) := by
  have fields : ∀ k < 32, cacheErrMask.getLsbD k = decide (k ∈ [31, 29, 28, 27, 26, 25]) := by decide
  have read : s.cp0Read 27#5 = (s.cp0.cacheErr &&& cacheErrMask).setWidth 64 := rfl
  rw [read, BitVec.getLsbD_setWidth, BitVec.getLsbD_and]
  by_cases hk : k < 32
  · rw [fields k hk, decide_eq_true (show k < 64 by omega), Bool.true_and]
  · rw [BitVec.getLsbD_of_ge _ k (Nat.le_of_not_lt hk), Bool.false_and, Bool.false_and, Bool.and_false]

/-- An instruction that writes a register with some value and advances. -/
theorem writesGprWith_of {i : Instr} {s : State} {d : Reg} {v : Word} {p : Word → Prop}
    (h : exec i s = .next (advance (setGpr d v s))) (hp : p v) : WritesGprWith i s d p := by
  obtain ⟨t, ht, hv, hrest⟩ := writesGpr_of i s d v h
  refine ⟨t, ht, ?_, hrest⟩
  show if d = 0#5 then t.gpr d = 0#64 else p (t.gpr d)
  rw [hv]
  split
  · rfl
  · exact hp

theorem low_append (x y : BitVec 32) : low (x ++ y) = y := BitVec.setWidth_append_eq_right

/-- DMFC0 delivers the register's low word, and all of a 64-bit register. -/
theorem low_cp0Read64 (s : State) (n : Reg) : low (s.cp0Read64 n) = low (s.cp0Read n) := by
  unfold State.cp0Read64
  split
  · rfl
  · exact low_append _ _

theorem cp0Read64_wide (s : State) (n : Reg) (h : n.toNat ∈ [2, 3, 4, 8, 10, 14, 20, 30]) :
    s.cp0Read64 n = s.cp0Read n := if_pos (decide_eq_true h)

/-- Settles O27: the register as it is seen goes to GPR[rt], and what is seen is present or old. -/
theorem cp0Reads : Obligations.Cp0Reads := by
  intro s rt rd
  refine ⟨fun hcp0 => ⟨?mfc0, fun h64 => ?dmfc0⟩, seen_of_recent_nil s, cp0Read_seen s rd, cacheErr_read s⟩
  case mfc0 =>
    rw [← low_eq_extract]
    exact writesGpr_of _ s rt _ (finish_of_ok (requireUnit_cp0 s hcp0))
  case dmfc0 =>
    refine writesGprWith_of (finish_of_ok_ok (requireUnit_cp0 s hcp0) (require64_enabled s h64)) ⟨?_, ?_⟩
    · rw [← low_eq_extract, ← low_eq_extract, low_cp0Read64]
    · exact cp0Read64_wide s.seen rd

end Sys2Proof.Proofs

/-! PROOFS. What the writes of CP0 change and keep. -/

namespace Sys2Proof.Proofs

open Sys2Proof.Machine

set_option Elab.async false

/-! ### The fields a CP0 write leaves (46_cp0 R453) -/

section
variable {n : Reg} {v : Word} {s : State}

theorem cp0Write_timerLatch (h9 : n.toNat ≠ 9) (h11 : n.toNat ≠ 11) : (cp0Write n v s).timerLatch = s.timerLatch := by
  unfold cp0Write; split <;> simp_all
theorem cp0Write_randomHold (h : n.toNat ≠ 6) : (cp0Write n v s).randomHold = s.randomHold := by
  unfold cp0Write; split <;> simp_all
theorem cp0Write_fgr (h : n.toNat ≠ 12) : (cp0Write n v s).fgr = s.fgr := by
  unfold cp0Write; split <;> simp_all
theorem cp0Write_caches (h : n.toNat ≠ 16) : (cp0Write n v s).caches = s.caches := by
  unfold cp0Write; split <;> simp_all
theorem cp0Write_index (h : n.toNat ≠ 0) : (cp0Write n v s).cp0.index = s.cp0.index := by
  unfold cp0Write; split <;> simp_all
theorem cp0Write_entryLo0 (h : n.toNat ≠ 2) : (cp0Write n v s).cp0.entryLo0 = s.cp0.entryLo0 := by
  unfold cp0Write; split <;> simp_all
theorem cp0Write_entryLo1 (h : n.toNat ≠ 3) : (cp0Write n v s).cp0.entryLo1 = s.cp0.entryLo1 := by
  unfold cp0Write; split <;> simp_all
theorem cp0Write_context (h : n.toNat ≠ 4) : (cp0Write n v s).cp0.context = s.cp0.context := by
  unfold cp0Write; split <;> simp_all
theorem cp0Write_pageMask (h : n.toNat ≠ 5) : (cp0Write n v s).cp0.pageMask = s.cp0.pageMask := by
  unfold cp0Write; split <;> simp_all
theorem cp0Write_wired (h : n.toNat ≠ 6) : (cp0Write n v s).cp0.wired = s.cp0.wired := by
  unfold cp0Write; split <;> simp_all
theorem cp0Write_count (h : n.toNat ≠ 9) : (cp0Write n v s).cp0.count = s.cp0.count := by
  unfold cp0Write; split <;> simp_all
theorem cp0Write_entryHi (h : n.toNat ≠ 10) : (cp0Write n v s).cp0.entryHi = s.cp0.entryHi := by
  unfold cp0Write; split <;> simp_all
theorem cp0Write_compare (h : n.toNat ≠ 11) : (cp0Write n v s).cp0.compare = s.cp0.compare := by
  unfold cp0Write; split <;> simp_all
theorem cp0Write_status (h : n.toNat ≠ 12) : (cp0Write n v s).cp0.status = s.cp0.status := by
  unfold cp0Write; split <;> simp_all
theorem cp0Write_cause (h : n.toNat ≠ 13) : (cp0Write n v s).cp0.cause = s.cp0.cause := by
  unfold cp0Write; split <;> simp_all
theorem cp0Write_epc (h : n.toNat ≠ 14) : (cp0Write n v s).cp0.epc = s.cp0.epc := by
  unfold cp0Write; split <;> simp_all
theorem cp0Write_config (h : n.toNat ≠ 16) : (cp0Write n v s).cp0.config = s.cp0.config := by
  unfold cp0Write; split <;> simp_all
theorem cp0Write_llAddr (h : n.toNat ≠ 17) : (cp0Write n v s).cp0.llAddr = s.cp0.llAddr := by
  unfold cp0Write; split <;> simp_all
theorem cp0Write_xcontext (h : n.toNat ≠ 20) : (cp0Write n v s).cp0.xcontext = s.cp0.xcontext := by
  unfold cp0Write; split <;> simp_all
theorem cp0Write_ecc (h : n.toNat ≠ 26) : (cp0Write n v s).cp0.ecc = s.cp0.ecc := by
  unfold cp0Write; split <;> simp_all
theorem cp0Write_tagLo (h : n.toNat ≠ 28) : (cp0Write n v s).cp0.tagLo = s.cp0.tagLo := by
  unfold cp0Write; split <;> simp_all
theorem cp0Write_tagHi (h : n.toNat ≠ 29) : (cp0Write n v s).cp0.tagHi = s.cp0.tagHi := by
  unfold cp0Write; split <;> simp_all
theorem cp0Write_errorEpc (h : n.toNat ≠ 30) : (cp0Write n v s).cp0.errorEpc = s.cp0.errorEpc := by
  unfold cp0Write; split <;> simp_all
theorem cp0Write_random (h : n.toNat ≠ 6) : (cp0Write n v s).cp0.random = s.cp0.random := by
  unfold cp0Write; split <;> simp_all
theorem cp0Write_badVAddr : (cp0Write n v s).cp0.badVAddr = s.cp0.badVAddr := by
  unfold cp0Write; split <;> simp
theorem cp0Write_prid : (cp0Write n v s).cp0.prid = s.cp0.prid := by
  unfold cp0Write; split <;> simp
theorem cp0Write_cacheErr : (cp0Write n v s).cp0.cacheErr = s.cp0.cacheErr := by
  unfold cp0Write; split <;> simp

/-- A write of register n leaves every other register to read as it was, Random apart after Wired and Cause after Count
and Compare. -/
theorem cp0Read_cp0Write_other {m : Reg} (hm : n.toNat ≠ m.toNat) (h1 : n.toNat = 6 → m.toNat ≠ 1)
    (h13 : n.toNat = 9 ∨ n.toNat = 11 → m.toNat ≠ 13) : (cp0Write n v s).cp0Read m = s.cp0Read m := by
  unfold State.cp0Read
  split
  case h_24 => simp only [State.free, cp0Write_draws]
  all_goals
    rename_i e
    rw [e] at hm h1 h13
  · rw [cp0Write_index hm]
  · rw [cp0Write_random fun h => h1 h rfl]
  · rw [cp0Write_entryLo0 hm]
  · rw [cp0Write_entryLo1 hm]
  · rw [cp0Write_context hm]
  · rw [cp0Write_pageMask hm]
  · rw [cp0Write_wired hm]
  · rw [cp0Write_badVAddr]
  · rw [cp0Write_count hm]
  · rw [cp0Write_entryHi hm]
  · rw [cp0Write_compare hm]
  · rw [cp0Write_status hm]
  · have hlatch : (cp0Write n v s).timerLatch = s.timerLatch :=
      cp0Write_timerLatch (fun h => h13 (.inl h) rfl) (fun h => h13 (.inr h) rfl)
    simp only [State.causeWord, State.ip, cp0Write_cause hm, hlatch, cp0Write_timerIntOnIP7, cp0Write_pins]
  · rw [cp0Write_epc hm]
  · rw [cp0Write_prid]
  · rw [cp0Write_config hm]
  · rw [cp0Write_llAddr hm]
  · rw [cp0Write_xcontext hm]
  · rw [cp0Write_ecc hm]
  · rw [cp0Write_cacheErr]
  · rw [cp0Write_tagLo hm]
  · rw [cp0Write_tagHi hm]
  · rw [cp0Write_errorEpc hm]

/-- Bits taken out of a word, seen as all 64 bits. -/
theorem setWidth_and_not (x m : BitVec 32) : (x &&& ~~~m).setWidth 64 = x.setWidth 64 &&& ~~~m.setWidth 64 := by
  apply BitVec.eq_of_getLsbD_eq
  intro i hi
  by_cases h : i < 32
  · simp [h, hi]
  · simp [BitVec.getLsbD_of_ge _ i (Nat.le_of_not_lt h)]

/-- Count and Compare change nothing of Cause but IP(7). -/
theorem cause_but_timer (h : n.toNat = 9 ∨ n.toNat = 11) :
    (cp0Write n v s).cp0Read 13#5 &&& ~~~0x8000#64 = s.cp0Read 13#5 &&& ~~~0x8000#64 := by
  have read (t : State) : t.cp0Read 13#5 &&& ~~~0x8000#64 = (t.causeWord &&& ~~~0x8000#32).setWidth 64 :=
    (setWidth_and_not t.causeWord 0x8000#32).symm
  rw [read, read, causeWord_but_timer (cp0Write_cause (by omega)) (cp0Write_pins n v s)]

/-- The word that MTC0 and DMTC0 see of the register they write is the low one of the value. -/
theorem low_cp0Read_cp0Write {x y : Word} (h : low x = low y) :
    low ((cp0Write n x s).cp0Read n) = low ((cp0Write n y s).cp0Read n) := by
  rw [cp0Read_cp0Write, cp0Read_cp0Write, low_maskInto, low_maskInto, h]

theorem low_mtc0Value (s : State) (x : Word) : low (s.mtc0Value x) = low x := by
  unfold State.mtc0Value
  split
  · rfl
  · exact low_append _ _

/-! ### The whole of a CP0 write (46_cp0 R443, R444) -/

theorem cp0Write_of_count (h : n.toNat = 9) : cp0Write n v s = writeCount (low v) s := by simp only [cp0Write, h]

theorem cp0Write_of_compare (h : n.toNat = 11) : cp0Write n v s = writeCompare (low v) s := by simp only [cp0Write, h]

theorem cp0Write_of_wired (h : n.toNat = 6) : cp0Write n v s = writeWired (low v) s := by simp only [cp0Write, h]

theorem cp0Write_of_status (h : n.toNat = 12) : cp0Write n v s = writeStatus (low v) s := by simp only [cp0Write, h]

theorem cp0Write_of_config (h : n.toNat = 16) : cp0Write n v s = writeConfig (low v) s := by simp only [cp0Write, h]

theorem writeCount_latch {x : BitVec 32} (h : s.timerLatch = true ∨ x ≠ s.cp0.compare) :
    (writeCount x s).timerLatch = s.timerLatch := by
  unfold writeCount
  rcases h with h | h
  · simp [h]
  · simp [h]

theorem writeCompare_latch {x : BitVec 32} (h : x ≠ s.cp0.count) : (writeCompare x s).timerLatch = false :=
  if_neg (Ne.symm h)

/-- A write of Status that keeps FR keeps the FPU registers. -/
theorem writeStatus_fgr {x : BitVec 32} (h : x.getLsbD 26 = s.cp0.status.getLsbD 26) :
    (writeStatus x s).fgr = s.fgr := by
  have fr : (maskInto statusMask s.cp0.status x).getLsbD 26 = s.cp0.status.getLsbD 26 := by
    simpa [maskInto, statusMask] using h
  unfold writeStatus
  dsimp only
  rw [if_pos fr]

/-- A write of Config that sets SE leaves no line of the secondary cache invalidated, any other keeps the caches. -/
theorem writeConfig_caches (x : BitVec 32) (s : State) : (writeConfig x s).caches
    = if s.se = false ∧ x.getLsbD 12 = true then { s.caches with secondary := 0#65536 } else s.caches := by
  have se : (maskInto 0x1007#32 s.cp0.config x).getLsbD 12 = x.getLsbD 12 := by simp [maskInto]
  unfold writeConfig
  dsimp only
  rw [se]
  refine if_congr ?_ rfl rfl
  rw [Bool.and_eq_true, Bool.not_eq_true', and_comm]

theorem mem_allRegs (i : Reg) : i ∈ allRegs := by
  revert i
  decide

/-- Everything but the register, what hangs on it, and the window is kept. -/
theorem keeps_cp0Write (n : Reg) (v : Word) (s : State) : Keeps
    { cp0 := true, latch := n == 9#5 || n == 11#5, hold := n == 6#5, caches := n == 16#5, window := true,
      fgrs := if n = 12#5 then allRegs else [] } s (cp0Write n v s) where
  gprs r _ := cp0Write_gpr n v s r
  fgrs i hi := by
    have h12 : n ≠ 12#5 := fun h => hi (by rw [if_pos h]; exact mem_allRegs i)
    simp only [State.fgrRead, cp0Write_fgr (show n.toNat ≠ 12 by bv_omega)]
  memory a _ := by rw [cp0Write_mem]
  hiLo _ := ⟨cp0Write_hi n v s, cp0Write_lo n v s, cp0Write_hiTag n v s, cp0Write_loTag n v s⟩
  fcr0 := cp0Write_fcr0 n v s
  fcr31 _ := cp0Write_fcr31 n v s
  cp0 hw := nomatch hw
  latch hw := by
    obtain ⟨h9, h11⟩ : n ≠ 9#5 ∧ n ≠ 11#5 := by simpa using hw
    exact cp0Write_timerLatch (by bv_omega) (by bv_omega)
  hold hw := by
    have h6 : n ≠ 6#5 := by simpa using hw
    exact cp0Write_randomHold (by bv_omega)
  tlb _ := cp0Write_tlb n v s
  window hw := nomatch hw
  caches hw := by
    have h16 : n ≠ 16#5 := by simpa using hw
    exact cp0Write_caches (by bv_omega)
  llbit _ := cp0Write_llbit n v s
  link _ := cp0Write_link n v s
  stores _ := ⟨cp0Write_stale n v s, cp0Write_maybeDirty n v s, cp0Write_unwritten n v s⟩
  buffer _ := ⟨cp0Write_writeBuffer n v s, cp0Write_deviceStores n v s⟩
  time := ⟨cp0Write_fccPrev n v s, cp0Write_draws n v s⟩
  board := by simp

/-- The record of the state before a write keeps all but the window. -/
theorem keeps_issue {w : Touched} {t : State} (hw : w.window = true) (h : Keeps w s t) : Keeps w s (issue s t) where
  gprs r hr := by simpa using h.gprs r hr
  fgrs i hi := by simpa using h.fgrs i hi
  memory a ha := by simpa using h.memory a ha
  hiLo hw := by simpa using h.hiLo hw
  fcr0 := by simpa using h.fcr0
  fcr31 hw := by simpa using h.fcr31 hw
  cp0 hw := by simpa using h.cp0 hw
  latch hw := by simpa using h.latch hw
  hold hw := by simpa using h.hold hw
  tlb hw := by simpa using h.tlb hw
  window hw' := by simp [hw] at hw'
  caches hw := by simpa using h.caches hw
  llbit hw := by simpa using h.llbit hw
  link hw := by simpa using h.link hw
  stores hw := by simpa using h.stores hw
  buffer hw := by simpa using h.buffer hw
  time := by simpa using h.time
  board := by simpa using h.board

/-- Where the pc goes after an effect that leaves the pc and the record of the delay slot. -/
theorem stepsOn_advance_of {t : State} (hpc : t.pc = s.pc) (hn : t.next = s.next) : StepsOn s (advance t) where
  slot x hx := (stepsOn_advance t).slot x (hn.trans hx)
  word hx hp := by
    rw [(stepsOn_advance t).word (hn.trans hx) (hpc ▸ hp), hpc]
  next := (stepsOn_advance t).next

/-- An instruction that writes CP0 or TLB state, in its whole effect. -/
theorem effects_issue {w : Touched} {p : State → Prop} {i : Instr} {t : State} (hw : w.window = true)
    (hx : exec i s = .next (advance (issue s t))) (hk : Keeps w s t) (hr : t.recent = s.recent) (hpc : t.pc = s.pc)
    (hn : t.next = s.next) (hp : OpensWindow s (advance (issue s t)) → p (advance (issue s t))) : Effects i s w p := by
  have hwin : OpensWindow s (advance (issue s t)) := (advance_recent _).trans (opensWindow_issue s t hr)
  exact ⟨_, hx, hp hwin, keeps_advance _ _ _ (keeps_issue hw hk),
    stepsOn_advance_of (by simpa using hpc) (by simpa using hn)⟩

theorem cp0Read_advance_issue (b t : State) (m : Reg) : (advance (issue b t)).cp0Read m = t.cp0Read m :=
  cp0Read_congr (n := m)

end

/-! ### The statement -/

/-- Word(x) of 41_alu R300 as a range. -/
theorem isWord_iff_holdsWord (x : Word) : isWord x = true ↔ HoldsWord x := by
  have value : (sext (low x)).toInt = (low x).toInt := BitVec.toInt_signExtend_of_le (by decide)
  rw [isWord, beq_iff_eq]
  constructor
  · intro h
    rw [h] at value
    rw [HoldsWord, value]
    exact ⟨(low x).le_toInt, (low x).toInt_lt⟩
  · rintro ⟨hlo, hhi⟩
    apply BitVec.eq_of_toInt_eq
    calc (sext (low x)).toInt
        = x.toInt.bmod (2 ^ 32) := by
          rw [value, low, BitVec.toInt_setWidth, BitVec.toInt_eq_toNat_bmod x, Int.bmod_bmod_of_dvd (by decide)]
      _ = x.toInt := Int.bmod_eq_of_le (by norm_num; omega) (by norm_num; omega)

theorem mtc0Value_word {s : State} {x : Word} (h : HoldsWord x) : s.mtc0Value x = x :=
  if_pos ((isWord_iff_holdsWord x).2 h)

/-- Settles O29: both moves are one CP0 write, whose fields are `cp0Write`'s, with the state before it on record. -/
theorem cp0Writes : Obligations.Cp0Writes := by
  intro s rt rd hcp0 v writes
  have written (i : Instr) (x : Word) (hx : exec i s = .next (advance (issue s (cp0Write rd x s))))
      (hv : low x = v) (p : State → Prop) (hp : p (advance (issue s (cp0Write rd x s)))) : writes i p := by
    refine effects_issue rfl hx (keeps_cp0Write rd x s) (cp0Write_recent rd x s) (cp0Write_pc rd x s)
      (cp0Write_next rd x s) fun hwin => ⟨hp, hwin, ?others, ?cause, ?wired, ?count, ?compare, ?status, ?config⟩
    case others =>
      intro m hm h1 h13
      rw [cp0Read_advance_issue]
      exact cp0Read_cp0Write_other (by bv_omega) (by bv_omega) (by bv_omega)
    case cause =>
      intro h
      rw [cp0Read_advance_issue]
      exact cause_but_timer (by bv_omega)
    case wired =>
      rintro rfl
      rw [advance_cp0, issue_cp0, advance_randomHold, issue_randomHold, cp0Write_of_wired rfl]
      exact ⟨rfl, rfl⟩
    case count =>
      rintro rfl h
      rw [advance_timerLatch, issue_timerLatch, cp0Write_of_count rfl, hv]
      exact writeCount_latch h
    case compare =>
      rintro rfl h
      rw [advance_timerLatch, issue_timerLatch, cp0Write_of_compare rfl, hv]
      exact writeCompare_latch h
    case status =>
      rintro rfl h i
      rw [advance_fgrRead, issue_fgrRead, cp0Write_of_status rfl, hv, State.fgrRead, State.fgrRead]
      rw [writeStatus_fgr h]
    case config =>
      rintro rfl
      rw [advance_caches, issue_caches, cp0Write_of_config rfl, hv]
      exact writeConfig_caches v s
  have hvalue : low (s.mtc0Value (s.gpr rt)) = v := low_mtc0Value s _
  refine ⟨fun i hi => ?_, ?_⟩
  · rcases hi with ⟨rfl, h64⟩ | ⟨rfl, hword⟩
    · exact written (.dmtc0 rt rd) (s.gpr rt) (finish_of_ok_ok (requireUnit_cp0 s hcp0) (require64_enabled s h64)) rfl _
        (cp0Read_advance_issue _ _ _)
    · rw [mtc0Value_word hword] at hvalue
      refine written (.mtc0 rt rd) (s.gpr rt) ?_ hvalue _ (cp0Read_advance_issue _ _ _)
      have runs : exec (.mtc0 rt rd) s = .next (advance (issue s (cp0Write rd (s.mtc0Value (s.gpr rt)) s))) :=
        finish_of_ok (requireUnit_cp0 s hcp0)
      rwa [mtc0Value_word hword] at runs
  · refine written (.mtc0 rt rd) _ (finish_of_ok (requireUnit_cp0 s hcp0)) hvalue _ ?_
    rw [← low_eq_extract, ← low_eq_extract, cp0Read_advance_issue]
    exact low_cp0Read_cp0Write hvalue

end Sys2Proof.Proofs

/-! PROOFS. The TLB: its entries written, read and probed, and the translation of a mapped address. -/

namespace Sys2Proof.Proofs

open Sys2Proof.Machine

set_option Elab.async false

/-! ### TLBWI and TLBWR (46_cp0 R445, R446) -/

theorem tlbIndex_ok (f : Fault) (n : Fin 48) : tlbIndex f n.val = .ok n := dif_pos n.isLt

theorem tlbIndex_above (f : Fault) {n : Nat} (h : 47 < n) : tlbIndex f n = .error (.fault f) :=
  dif_neg (by omega)

section
variable {s : State} {n : Fin 48}

theorem indexEntry_ok (h : (s.cp0.index &&& 0x3F#32).toNat = n.val) : s.indexEntry = .ok n := by
  rw [State.indexEntry, h, tlbIndex_ok]

theorem indexEntry_above (h : 47 < (s.cp0.index &&& 0x3F#32).toNat) :
    s.indexEntry = .error (.fault .indexAboveTlb) := tlbIndex_above _ h

theorem randomEntry_ok (h : s.cp0.random.toNat = n.val) (hw : (s.cp0.wired &&& 0x3F#32).toNat ≤ 47) :
    s.randomEntry = .ok n := by
  rw [State.randomEntry, if_neg (Nat.not_lt.2 hw), h, tlbIndex_ok]

theorem randomEntry_above (h : 47 < (s.cp0.wired &&& 0x3F#32).toNat) :
    s.randomEntry = .error (.fault .wiredAboveTlb) := if_pos h

theorem tlbWrite_same (n : Fin 48) (s : State) : (tlbWrite n s).tlb[n] = s.seen.tlbEntryNow := by
  simp [tlbWrite]

theorem tlbWrite_other {m : Fin 48} (h : m ≠ n) (s : State) : (tlbWrite n s).tlb[m] = s.tlb[m] :=
  Vector.getElem_set_ne n.isLt m.isLt fun e => h (Fin.ext e.symm)

theorem keeps_tlbWrite (n : Fin 48) (s : State) : Keeps { tlb := true, window := true } s (tlbWrite n s) :=
  { keeps_refl { tlb := true, window := true } s with tlb := fun hw => nomatch hw }

/-- An instruction whose gate is passed and whose entry, or other intermediate value, is found. -/
theorem finish_of_entry {α : Type} {g : Except Stop Unit} {e : Except Stop α} {f : α → State} {x : α}
    (hg : g = .ok ()) (he : e = .ok x) : finish s (g >>= fun _ => e >>= fun i => .ok (f i)) = .next (f x) := by
  rw [hg, he]
  rfl

/-- An instruction whose gate is passed and whose entry is none of the 48, or not one alone. -/
theorem finish_of_no_entry {α : Type} {g : Except Stop Unit} {e : Except Stop α} {f : α → State} {r : Fault}
    (hg : g = .ok ()) (he : e = .error (.fault r)) :
    finish s (g >>= fun _ => e >>= fun i => .ok (f i)) = .fault r := by
  rw [hg, he]
  rfl

end

/-- Settles O30: the entry that Index or Random names is `tlbIndex`'s, and one TLB write changes only that entry. -/
theorem tlbWrites : Obligations.TlbWrites := by
  intro s hcp0 v
  have hunit := requireUnit_cp0 s hcp0
  refine ⟨fun n i hi => ?writes, fun h => ?index, fun h => ?wired⟩
  case writes =>
    have hx : exec i s = .next (advance (issue s (tlbWrite n s))) := by
      rcases hi with ⟨rfl, h⟩ | ⟨rfl, h, hw⟩
      · exact finish_of_entry hunit (indexEntry_ok h)
      · exact finish_of_entry hunit (randomEntry_ok h hw)
    refine effects_issue rfl hx (keeps_tlbWrite n s) rfl rfl rfl fun hwin => ⟨?_, fun m hm => ?_, hwin⟩
    · rw [advance_tlb, issue_tlb]
      exact tlbWrite_same n s
    · rw [advance_tlb, issue_tlb]
      exact tlbWrite_other hm s
  case index =>
    exact ⟨finish_of_no_entry hunit (indexEntry_above h), finish_of_no_entry hunit (indexEntry_above h)⟩
  case wired => exact finish_of_no_entry hunit (randomEntry_above h)

/-! ### TLBR (46_cp0 R447) -/

section
variable (pfn : BitVec 24) (c : BitVec 3) (d v g : Bool)

/-- EntryLo bit by bit: G, V, D, C and the PFN. -/
theorem entryLoOf_getLsbD (k : Nat) : (entryLoOf pfn c d v g).getLsbD k
    = if k = 0 then g else if k = 1 then v else if k = 2 then d
      else if k < 6 then c.getLsbD (k - 3) else pfn.getLsbD (k - 6) := by
  unfold entryLoOf
  rw [BitVec.getLsbD_setWidth, BitVec.getLsbD_append, BitVec.getLsbD_append, BitVec.getLsbD_append,
    BitVec.getLsbD_append]
  by_cases h0 : k = 0
  · simp [h0]
  by_cases h1 : k = 1
  · simp [h1]
  by_cases h2 : k = 2
  · simp [h2]
  have shift : ¬k < 1 ∧ ¬k - 1 < 1 ∧ ¬k - 1 - 1 < 1 ∧ k - 1 - 1 - 1 = k - 3 := by omega
  by_cases h6 : k < 6
  · simp [h0, h1, h2, h6, shift, show k < 64 by omega, show k - 3 < 3 by omega]
  · by_cases h64 : k < 64
    · simp [h0, h1, h2, h6, shift, h64, show ¬k - 3 < 3 by omega, show k - 3 - 3 = k - 6 by omega]
    · simp [h0, h1, h2, h6, h64, BitVec.getLsbD_of_ge pfn (k - 6) (by omega)]

theorem entryLoOf_pfn : (entryLoOf pfn c d v g).extractLsb' 6 24 = pfn := by
  apply BitVec.eq_of_getLsbD_eq
  intro i hi
  rw [BitVec.getLsbD_extractLsb', entryLoOf_getLsbD]
  simp [hi, show ¬6 + i = 1 by omega, show ¬6 + i = 2 by omega]

theorem entryLoOf_c : (entryLoOf pfn c d v g).extractLsb' 3 3 = c := by
  apply BitVec.eq_of_getLsbD_eq
  intro i hi
  rw [BitVec.getLsbD_extractLsb', entryLoOf_getLsbD]
  simp [hi, show ¬3 + i = 1 by omega, show ¬3 + i = 2 by omega, show 3 + i < 6 by omega]

end

section
variable (r : BitVec 2) (vpn2 : BitVec 27) (asid : BitVec 8)

/-- EntryHi from its fields. -/
def entryHiOf : Word := r ++ 0#22 ++ vpn2 ++ 0#5 ++ asid

theorem entryHiOf_r : (entryHiOf r vpn2 asid).extractLsb' 62 2 = r := by
  rw [entryHiOf, BitVec.extractLsb'_append_eq_of_le (by decide), BitVec.extractLsb'_append_eq_of_le (by decide),
    BitVec.extractLsb'_append_eq_of_le (by decide), BitVec.extractLsb'_append_eq_left]

theorem entryHiOf_vpn2 : (entryHiOf r vpn2 asid).extractLsb' 13 27 = vpn2 := by
  rw [entryHiOf, BitVec.extractLsb'_append_eq_of_le (by decide), BitVec.extractLsb'_append_eq_of_le (by decide),
    BitVec.extractLsb'_append_eq_right]

theorem entryHiOf_asid : (entryHiOf r vpn2 asid).extractLsb' 0 8 = asid := by
  rw [entryHiOf, BitVec.extractLsb'_append_eq_right]

end

section
variable {s : State} {n : Fin 48}

/-- The VPN2 that TLBR leaves: the entry's, but for the bits under the mask. -/
def vpn2Read (n : Fin 48) (s : State) : BitVec 27 :=
  maskInto (s.seen.tlb[n].mask.setWidth 27) s.seen.tlb[n].vpn2 ((s.free .tlbVpn).setWidth 27)

theorem tlbRead_cp0 (n : Fin 48) (s : State) :
    (tlbRead n s).cp0 = { s.cp0 with
      pageMask := (s.seen.tlb[n].mask ++ 0#13).setWidth 32
      entryHi := entryHiOf s.seen.tlb[n].r (vpn2Read n s) s.seen.tlb[n].asid
      entryLo0 := entryLoOf s.seen.tlb[n].pfn0 s.seen.tlb[n].c0 s.seen.tlb[n].d0 s.seen.tlb[n].v0 s.seen.tlb[n].g
      entryLo1 := entryLoOf s.seen.tlb[n].pfn1 s.seen.tlb[n].c1 s.seen.tlb[n].d1 s.seen.tlb[n].v1 s.seen.tlb[n].g } :=
  rfl

/-- The bits of maskInto outside the mask are the first word's. -/
theorem maskInto_outside {w : Nat} (m x y : BitVec w) : maskInto m x y &&& ~~~m = x &&& ~~~m := by
  unfold maskInto
  ext i hi
  cases h : m[i] <;> simp [h]

theorem append_zeros_eq_shift (m : BitVec 12) : (m ++ 0#13).setWidth 32 = m.setWidth 32 <<< 13 := by
  apply BitVec.eq_of_getLsbD_eq
  intro i hi
  rw [BitVec.getLsbD_setWidth, BitVec.getLsbD_append, BitVec.getLsbD_shiftLeft, BitVec.getLsbD_setWidth]
  by_cases h : i < 13
  · simp [h]
  · simp [h, hi, show i - 13 < 32 by omega]

theorem keeps_tlbRead (n : Fin 48) (s : State) : Keeps { cp0 := true, window := true } s (tlbRead n s) :=
  { keeps_refl { cp0 := true, window := true } s with cp0 := fun hw => nomatch hw }

end

/-- Settles O31: the fields of `tlbRead`'s registers are the entry's, by what `entryHiOf` and `entryLoOf` hold. -/
theorem tlbReads : Obligations.TlbReads := by
  intro s n hcp0 hn
  have hx : exec .tlbr s = .next (advance (issue s (tlbRead n s))) :=
    finish_of_entry (requireUnit_cp0 s hcp0) (indexEntry_ok hn)
  refine effects_issue rfl hx (keeps_tlbRead n s) rfl rfl rfl fun hwin => ?_
  rw [advance_cp0, issue_cp0, tlbRead_cp0]
  refine ⟨append_zeros_eq_shift _, entryHiOf_r .., ?vpn2, entryHiOf_asid .., entryLoOf_pfn .., entryLoOf_c .., ?d0, ?v0,
    entryLoOf_pfn .., entryLoOf_c .., ?d1, ?v1, ?g0, ?g1, rfl, hwin⟩
  case vpn2 =>
    dsimp only
    rw [entryHiOf_vpn2]
    exact maskInto_outside _ _ _
  all_goals exact entryLoOf_getLsbD ..

/-! ### The entries that match (20_memory R181) -/

section
variable {s : State} {r : BitVec 2} {vpn2 : BitVec 27} {asid : BitVec 8} {n m : Fin 48}

theorem mem_tlbHits : n ∈ s.tlbHits r vpn2 asid ↔ tlbMatches s.tlb[n] r vpn2 asid = true := by
  simp [State.tlbHits]

theorem tlbHits_nodup : (s.tlbHits r vpn2 asid).Nodup := (List.nodup_finRange 48).filter _

theorem tlbHits_none (h : ∀ m : Fin 48, tlbMatches s.tlb[m] r vpn2 asid = false) : s.tlbHits r vpn2 asid = [] :=
  List.eq_nil_iff_forall_not_mem.2 fun m hm => absurd (mem_tlbHits.1 hm) (ne_true_of_eq_false (h m))

theorem tlbHits_one (h : tlbMatches s.tlb[n] r vpn2 asid = true)
    (hu : ∀ m : Fin 48, tlbMatches s.tlb[m] r vpn2 asid = true → m = n) : s.tlbHits r vpn2 asid = [n] :=
  List.perm_singleton.1 ((List.perm_ext_iff_of_nodup tlbHits_nodup (List.nodup_singleton n)).2 fun m =>
    mem_tlbHits.trans ⟨fun hm => List.mem_singleton.2 (hu m hm), fun hm => List.mem_singleton.1 hm ▸ h⟩)

theorem tlbHits_many (hn : tlbMatches s.tlb[n] r vpn2 asid = true) (hm : tlbMatches s.tlb[m] r vpn2 asid = true)
    (hne : n ≠ m) : ∃ a b l, s.tlbHits r vpn2 asid = a :: b :: l := by
  have memN := mem_tlbHits.2 hn
  have memM := mem_tlbHits.2 hm
  match s.tlbHits r vpn2 asid, memN, memM with
  | [], h, _ => exact absurd h List.not_mem_nil
  | [a], h, h' => exact absurd ((List.mem_singleton.1 h).trans (List.mem_singleton.1 h').symm) hne
  | a :: b :: l, _, _ => exact ⟨a, b, l, rfl⟩

end

/-! ### TLBP (46_cp0 R449) -/

section
variable {s : State}

/-- The entries that TLBP finds. -/
def probeHits (s : State) : List (Fin 48) :=
  s.seen.tlbHits (s.seen.cp0.entryHi.extractLsb' 62 2) (s.seen.cp0.entryHi.extractLsb' 13 27)
    (s.seen.cp0.entryHi.extractLsb' 0 8)

/-- The state with Index written. -/
def withIndex (x : BitVec 32) (s : State) : State := { s with cp0 := { s.cp0 with index := x } }

theorem withIndex_done_cp0 (x : BitVec 32) (s : State) :
    (advance (issue s (withIndex x s))).cp0 = { s.cp0 with index := x } := by
  rw [advance_cp0, issue_cp0]
  rfl

theorem keeps_withIndex (x : BitVec 32) (s : State) : Keeps { cp0 := true, window := true } s (withIndex x s) :=
  { keeps_refl { cp0 := true, window := true } s with cp0 := fun hw => nomatch hw }

/-- Index.P, with any value in the Index field. -/
theorem probeFailed_bit (x : BitVec 6) : (1#1 ++ 0#25 ++ x).getLsbD 31 = true := by
  rw [BitVec.getLsbD_append]
  rfl

theorem tlbProbe_none (hl : s.seen.masksLegal = true) (h : probeHits s = []) :
    tlbProbe s = .ok (withIndex (1#1 ++ 0#25 ++ (s.free .probeIndex).setWidth 6) s) := by
  unfold probeHits at h
  rw [tlbProbe, if_neg (by simp [hl]), h]
  rfl

theorem tlbProbe_one {n : Fin 48} (hl : s.seen.masksLegal = true) (h : probeHits s = [n]) :
    tlbProbe s = .ok (withIndex (BitVec.ofNat 32 n.val) s) := by
  unfold probeHits at h
  rw [tlbProbe, if_neg (by simp [hl]), h]
  rfl

theorem tlbProbe_many {a b : Fin 48} {l : List (Fin 48)} (hl : s.seen.masksLegal = true)
    (h : probeHits s = a :: b :: l) : tlbProbe s = .error (.fault .multipleTlbMatch) := by
  unfold probeHits at h
  rw [tlbProbe, if_neg (by simp [hl]), h]

end

/-- Settles O32: what TLBP does by the number of entries that match. -/
theorem tlbProbes : Obligations.TlbProbes := by
  intro s hcp0 hl hit probes
  have hunit := requireUnit_cp0 s hcp0
  have found (x : BitVec 32) (hx : tlbProbe s = .ok (withIndex x s)) (p : State → Prop)
      (hp : p (advance (issue s (withIndex x s)))) : probes p := by
    have runs : exec .tlbp s = .next (advance (issue s (withIndex x s))) := finish_of_entry hunit hx
    exact effects_issue rfl runs (keeps_withIndex x s) rfl rfl rfl fun hwin => ⟨hp, hwin⟩
  refine ⟨fun h => ?none, fun n h hu => ?one, fun n m hn hm hne => ?many⟩
  case none =>
    refine found _ (tlbProbe_none hl (tlbHits_none h)) _ ?_
    rw [withIndex_done_cp0]
    exact ⟨probeFailed_bit _, rfl⟩
  case one => exact found _ (tlbProbe_one hl (tlbHits_one h hu)) _ (withIndex_done_cp0 _ s)
  case many =>
    obtain ⟨a, b, l, hits⟩ := tlbHits_many hn hm hne
    exact finish_of_no_entry hunit (tlbProbe_many hl hits)

/-! ### Translation (20_memory R180 to R184) -/

section
variable {s : State}

theorem tlbMatches_iff (e : TlbEntry) (r : BitVec 2) (vpn2 : BitVec 27) (asid : BitVec 8) :
    tlbMatches e r vpn2 asid = true ↔
      e.r = r ∧ (∀ n, e.mask.getLsbD n = false → e.vpn2.getLsbD n = vpn2.getLsbD n) ∧ (e.g = true ∨ e.asid = asid) := by
  have masked : e.vpn2 &&& ~~~(e.mask.setWidth 27) = vpn2 &&& ~~~(e.mask.setWidth 27) ↔
      ∀ n, e.mask.getLsbD n = false → e.vpn2.getLsbD n = vpn2.getLsbD n := by
    constructor
    · intro h n hn
      by_cases hn27 : n < 27
      · simpa [hn27, hn] using congrArg (·.getLsbD n) h
      · rw [BitVec.getLsbD_of_ge _ _ (by omega), BitVec.getLsbD_of_ge _ _ (by omega)]
    · intro h
      apply BitVec.eq_of_getLsbD_eq
      intro n hn
      cases hm : e.mask.getLsbD n with
      | false => simp [-BitVec.getLsbD_eq_getElem, hm, h n hm]
      | true => simp [-BitVec.getLsbD_eq_getElem, hm]
  simp only [tlbMatches, Bool.and_eq_true, Bool.or_eq_true, beq_iff_eq, masked, and_assoc]

theorem pageLog_iff (mask : BitVec 12) (k : Nat) : pageLog mask = some k ↔
    (mask.toNat, k) ∈ [(0x000, 0), (0x003, 1), (0x00F, 2), (0x03F, 3), (0x0FF, 4), (0x3FF, 5), (0xFFF, 6)] := by
  unfold pageLog
  generalize mask.toNat = m
  simp only [List.mem_cons, Prod.mk.injEq, List.not_mem_nil, or_false]
  split
  case h_8 => simp_all
  all_goals simp [eq_comm]

theorem pageLog_le {mask : BitVec 12} {k : Nat} (h : pageLog mask = some k) : k ≤ 6 := by
  have mem := (pageLog_iff mask k).1 h
  simp only [List.mem_cons, Prod.mk.injEq, List.not_mem_nil, or_false] at mem
  omega

theorem masksLegal_iff (s : State) :
    s.masksLegal = true ↔ ∀ n : Fin 48, ∃ k, pageLog s.tlb[n].mask = some k := by
  simp only [← Option.isSome_iff_exists]
  unfold State.masksLegal
  rw [List.all_eq_true]
  constructor
  · intro h n
    exact h _ (by simp)
  · intro h e he
    obtain ⟨i, hi, rfl⟩ := List.getElem_of_mem he
    simpa using h ⟨i, by simpa using hi⟩

/-- A page frame on a page boundary leaves the offset its place below it. -/
theorem physAddr_toNat {k : Nat} {pfn : BitVec 24} (va : Word) (hk : k ≤ 6) (hp : pfn.toNat % 4 ^ k = 0) :
    (physAddr s k pfn va).toNat = pfn.toNat * 4096 + va.toNat % (4096 * 4 ^ k) := by
  rw [physAddr, if_pos hp, BitVec.toNat_ofNat]
  apply Nat.mod_eq_of_lt
  have hpfn := pfn.isLt
  interval_cases k <;> omega

/-- The entries that a mapped address matches. -/
def mappedHits (s : State) (va : Word) : List (Fin 48) :=
  s.tlbHits (va.extractLsb' 62 2) (va.extractLsb' 13 27) (s.cp0.entryHi.extractLsb' 0 8)

end

section
variable {s : State} {acc : Access} {va : Word}

theorem translateMapped_not_ready (h : s.tlbReady = false) :
    translateMapped s acc va = .error (.refuse .tlbNotInitialised) := if_pos (by simp [h])

variable (hr : s.tlbReady = true)
include hr

theorem translateMapped_illegal (h : s.masksLegal = false) :
    translateMapped s acc va = .error (.fault .illegalPageMask) := by
  rw [translateMapped, if_neg (by simp [hr]), if_pos (by simp [h])]

variable (hl : s.masksLegal = true)
include hl

theorem translateMapped_none (h : mappedHits s va = []) :
    translateMapped s acc va = .error (.exc (.tlbRefill (acc == .store) va)) := by
  unfold mappedHits at h
  rw [translateMapped, if_neg (by simp [hr]), if_neg (by simp [hl]), h]

theorem translateMapped_many {a b : Fin 48} {l : List (Fin 48)} (h : mappedHits s va = a :: b :: l) :
    translateMapped s acc va = .error (.fault .multipleTlbMatch) := by
  unfold mappedHits at h
  rw [translateMapped, if_neg (by simp [hr]), if_neg (by simp [hl]), h]

theorem translateMapped_one {n : Fin 48} {k : Nat} (h : mappedHits s va = [n])
    (hk : pageLog s.tlb[n].mask = some k) : translateMapped s acc va =
      let odd := va.getLsbD (12 + 2 * k)
      if !(if odd then s.tlb[n].v1 else s.tlb[n].v0) then .error (.exc (.tlbInvalid (acc == .store) va))
      else if acc == .store && !(if odd then s.tlb[n].d1 else s.tlb[n].d0) then .error (.exc (.tlbModified va))
      else .ok (physAddr s k (if odd then s.tlb[n].pfn1 else s.tlb[n].pfn0) va,
        if odd then s.tlb[n].c1 else s.tlb[n].c0) := by
  unfold mappedHits at h
  rw [translateMapped, if_neg (by simp [hr]), if_neg (by simp [hl]), h]
  simp only [hk, Option.getD_some]

end

/-- Settles O33: what the translation does by the number of entries that match, and with one by its page. -/
theorem tlbTranslates : Obligations.TlbTranslates := by
  refine ⟨tlbMatches_iff, pageLog_iff, fun s => ⟨masksLegal_iff s, tlbReady_iff s⟩, fun s acc va => ?_⟩
  refine ⟨translateMapped_not_ready, translateMapped_illegal, fun hr hl => ?_⟩
  refine ⟨fun h => ?none, fun n m hn hm hne => ?many, fun n k h hu hk => ?one⟩
  case none => exact translateMapped_none hr hl (tlbHits_none h)
  case many =>
    obtain ⟨a, b, l, hits⟩ := tlbHits_many hn hm hne
    exact translateMapped_many hr hl hits
  case one =>
    intro odd valid dirty pfn
    have result : translateMapped s acc va =
        if !valid then .error (.exc (.tlbInvalid (acc == .store) va))
        else if acc == .store && !dirty then .error (.exc (.tlbModified va))
        else .ok (physAddr s k pfn va, if odd then s.tlb[n].c1 else s.tlb[n].c0) :=
      translateMapped_one hr hl (tlbHits_one h hu) hk
    refine ⟨fun hv => ?invalid, fun hv hs hd => ?modified, fun hv hd hp => ⟨physAddr s k pfn va, ?_, ?_⟩⟩
    case invalid => rw [result, if_pos (by simp [hv])]
    case modified => rw [result, if_neg (by simp [hv]), if_pos (by simp [hs, hd])]
    · rw [result, if_neg (by simp [hv]), if_neg (by simpa using hd)]
    · exact physAddr_toNat va (pageLog_le hk) hp

end Sys2Proof.Proofs

/-! PROOFS. The resets, NMI and interrupts: what their entries leave, and when a step takes them. -/

namespace Sys2Proof.Proofs

open Sys2Proof.Machine

set_option Elab.async false

section
variable {s t : State}

theorem step_of_event (h : takeEvent s = some t) : step s = .next (tick s t) := by
  rw [step, stepCore, h]
  rfl

theorem takeEvent_coldReset (h : s.pins.coldReset = true) : takeEvent s = some (takeColdReset s) := if_pos h

theorem takeEvent_softReset (hc : s.pins.coldReset = false) (h : s.pins.reset = true) :
    takeEvent s = some (takeSoftReset s) := by
  rw [takeEvent, if_neg (by simp [hc]), if_pos h]

theorem takeEvent_nmi (hc : s.pins.coldReset = false) (hr : s.pins.reset = false) (h : s.pins.nmi = true) :
    takeEvent s = some (takeNmi s) := by
  rw [takeEvent, if_neg (by simp [hc]), if_neg (by simp [hr]), if_pos h]

theorem takeEvent_interrupt (hc : s.pins.coldReset = false) (hr : s.pins.reset = false) (hn : s.pins.nmi = false) :
    takeEvent s = if (s.view true).interruptPending then some (takeInterrupt s) else none := by
  rw [takeEvent, if_neg (by simp [hc]), if_neg (by simp [hr]), if_neg (by simp [hn])]

/-! ### The entry that Soft Reset and NMI share (60_exceptions R624) -/

/-- Status after the entry: BEV, SR and ERL set, TS clear. -/
def softStatus (x : BitVec 32) : BitVec 32 := (x &&& ~~~0x00200000#32) ||| 0x00500004#32

theorem softStatus_bits (x : BitVec 32) : (softStatus x).getLsbD 22 = true ∧ (softStatus x).getLsbD 2 = true
    ∧ (softStatus x).getLsbD 20 = true ∧ (softStatus x).getLsbD 21 = false := by
  simp [softStatus]

theorem softStatus_outside (x : BitVec 32) : softStatus x &&& ~~~0x00700004#32 = x &&& ~~~0x00700004#32 := by
  rw [softStatus, BitVec.and_or_distrib_right, BitVec.and_assoc]
  simp

theorem keeps_softEntry (s : State) : Keeps { cp0 := true, link := true } s (takeSoftEntry s) :=
  { keeps_refl { cp0 := true, link := true } s with
    cp0 := fun hw => nomatch hw
    link := fun hw => nomatch hw
    window := fun _ => ⟨sameWindow_onCp0 (enterSoft s) s, fun hw => nomatch hw⟩ }

theorem keeps_nmi (s : State) :
    Keeps { cp0 := true, link := true } { s with pins := (takeNmi s).pins } (takeNmi s) :=
  { keeps_softEntry s with board := ⟨rfl, rfl, rfl, rfl, rfl, rfl, rfl⟩ }

theorem keeps_softReset (s : State) :
    Keeps { cp0 := true, link := true, caches := true, stores := true, buffer := true }
    { s with pins := (takeSoftReset s).pins, mem := (takeSoftReset s).mem } (takeSoftReset s) :=
  { keeps_softEntry s with
    memory := fun _ _ => rfl
    caches := fun hw => nomatch hw
    stores := fun hw => nomatch hw
    buffer := fun hw => nomatch hw
    board := ⟨rfl, rfl, rfl, rfl, rfl, rfl, rfl⟩ }

/-- What Soft Reset and NMI entry leave, of a state that starts it as s is but for memory and the cache state. -/
theorem softEntry_fields {t : State} (hpc : t.pc = (takeSoftEntry s).pc) (hn : t.next = (takeSoftEntry s).next)
    (hc : t.cp0 = (takeSoftEntry s).cp0) (hl : t.link = (takeSoftEntry s).link) :
    t.pc = 0xFFFFFFFFBFC00000#64 ∧ t.next = none ∧ t.bev = true ∧ t.erl = true
      ∧ t.cp0.status.getLsbD 20 = true ∧ t.cp0.status.getLsbD 21 = false
      ∧ t.cp0.status &&& ~~~0x00700004#32 = s.cp0.status &&& ~~~0x00700004#32
      ∧ t.cp0.errorEpc = (if s.next.isSome then s.pc - 4#64 else s.pc)
      ∧ t.cp0 = { s.cp0 with status := t.cp0.status, errorEpc := t.cp0.errorEpc } ∧ t.link = s.linkBroken := by
  have hstatus : t.cp0.status = softStatus s.cp0.status := congrArg Cp0.status hc
  obtain ⟨bev, erl, sr, ts⟩ := softStatus_bits s.cp0.status
  rw [State.bev, State.erl, hstatus]
  refine ⟨hpc, hn, bev, erl, sr, ts, softStatus_outside _, ?_, ?_, hl⟩
  · rw [hc]
    rfl
  · rw [hc]
    rfl

/-! ### Memory at a Soft Reset (log 18) -/

theorem memRead_scrambleLine {line a : Nat} {m : List Host.Cell} (h : a / 32 ≠ line) :
    memRead (scrambleLine s line m) a = memRead m a := by
  refine memRead_memWriteAll_outside _ _ _ _ _ fun k hk => ?_
  have hk32 : k < 32 := by simpa using hk
  simp only [id_eq]
  omega

theorem memRead_scrambleDirty {a : Nat} (h : a / 32 ∉ s.maybeDirty) :
    memRead (scrambleDirty s).mem a = memRead s.mem a := by
  unfold scrambleDirty
  dsimp only
  generalize s.maybeDirty = lines at h
  generalize s.mem = m
  induction lines generalizing m with
  | nil => rfl
  | cons l lines ih =>
    rw [List.foldl_cons, ih (List.not_mem_of_not_mem_cons h), memRead_scrambleLine (List.ne_of_not_mem_cons h)]

theorem memRead_scrambleBytes {a : Nat} {as : List Nat} {m : List Host.Cell} (h : a ∉ as) :
    memRead (scrambleBytes s as m) a = memRead m a := by
  unfold scrambleBytes
  induction as generalizing m with
  | nil => rfl
  | cons b as ih =>
    rw [List.foldl_cons, ih (List.not_mem_of_not_mem_cons h),
      memRead_memWrite_other _ _ _ _ (List.ne_of_not_mem_cons h)]

theorem memRead_takeSoftReset {a : Nat} (h : memRead (takeSoftReset s).mem a ≠ memRead s.mem a) :
    a / 32 ∈ s.maybeDirty ∨ ∃ b ∈ s.writeBuffer, a ∈ b.bytes := by
  by_contra hcon
  obtain ⟨hline, hbuffer⟩ := not_or.1 hcon
  have unbuffered : a ∉ s.writeBuffer.flatMap Buffered.bytes := fun hm => hbuffer (List.mem_flatMap.1 hm)
  exact h ((memRead_scrambleBytes unbuffered).trans (memRead_scrambleDirty hline))

/-! ### Cold Reset (60_exceptions R623) -/

theorem takeColdReset_fields (s : State) : let t := takeColdReset s
    t.pc = 0xFFFFFFFFBFC00000#64 ∧ t.next = none ∧ t.bev = true ∧ t.erl = true
      ∧ t.cp0.status.getLsbD 20 = false ∧ t.cp0.status.getLsbD 21 = false ∧ t.cp0.random = 47#6
      ∧ t.cp0.wired = 0#32 ∧ t.cp0.errorEpc = s.pc ∧ t.se = false ∧ t.caches = CacheInit.none
      ∧ ∀ n : Fin 48, t.tlb[n].written = false := by
  refine ⟨rfl, rfl, ?bev, ?erl, ?sr, ?ts, rfl, rfl, rfl, ?se, rfl, ?tlb⟩
  case tlb => simp [takeColdReset, State.freeTlbEntry]
  case se => simp [takeColdReset, State.coldCp0, State.se, State.freeCp0, low]
  all_goals simp [takeColdReset, State.coldCp0, State.bev, State.erl]

end

/-- Settles O40: the entry that Soft Reset and NMI share, the memory a Soft Reset keeps, and the order of the events. -/
theorem errorLevelEntries : Obligations.ErrorLevelEntries := by
  intro s
  refine ⟨fun t ht => ?entry, fun hc => step_of_event (takeEvent_coldReset hc),
    fun hc hr => step_of_event (takeEvent_softReset hc hr), fun hc hr hn => step_of_event (takeEvent_nmi hc hr hn),
    rfl, rfl, keeps_nmi s, rfl, fun a ha => memRead_takeSoftReset ha, rfl, takeColdReset_fields s⟩
  case entry =>
    rcases ht with rfl | rfl
    · obtain ⟨hpc, hnext, hbev, herl, hsr, hts, hstatus, hepc, hcp0, hlink⟩ :=
        softEntry_fields (s := s) (t := takeNmi s) rfl rfl rfl rfl
      exact ⟨hpc, hnext, hbev, herl, hsr, hts, hstatus, hepc, hcp0, hlink, { keeps_nmi s with
        caches := fun hw => nomatch hw
        stores := fun hw => nomatch hw
        buffer := fun hw => nomatch hw }⟩
    · obtain ⟨hpc, hnext, hbev, herl, hsr, hts, hstatus, hepc, hcp0, hlink⟩ :=
        softEntry_fields (s := s) (t := takeSoftReset s) rfl rfl rfl rfl
      exact ⟨hpc, hnext, hbev, herl, hsr, hts, hstatus, hepc, hcp0, hlink, keeps_softReset s⟩

/-! ### Interrupts (60_exceptions R650 to R653) -/

section
variable {s : State}

theorem and_ne_zero_iff {w : Nat} (x y : BitVec w) :
    x &&& y ≠ 0#w ↔ ∃ n, x.getLsbD n = true ∧ y.getLsbD n = true := by
  constructor
  · intro h
    by_contra hcon
    refine h (BitVec.eq_of_getLsbD_eq fun n _ => ?_)
    rw [BitVec.getLsbD_and, BitVec.getLsbD_zero]
    exact Bool.eq_false_iff.2 fun hn => hcon ⟨n, by simpa using hn⟩
  · rintro ⟨n, hx, hy⟩ h
    simpa [hx, hy] using congrArg (·.getLsbD n) h

theorem interruptPending_iff : s.interruptPending = true ↔
    s.ie = true ∧ s.exl = false ∧ s.erl = false ∧ ∃ n, s.ip.getLsbD n = true ∧ s.im.getLsbD n = true := by
  rw [State.interruptPending, Bool.and_eq_true, decide_eq_true_iff, and_ne_zero_iff]
  simp [and_assoc]

/-- ExcCode after a general exception entry. -/
theorem enterGeneral_excCode (e : Exc) (s : State) (c : Cp0) :
    (enterGeneral e s c).cause.extractLsb' 2 5 = excCode e := by
  unfold enterGeneral
  dsimp only
  rw [BitVec.extractLsb'_append_eq_of_le (by decide), BitVec.extractLsb'_append_eq_right]

theorem takeInterrupt_excCode (s : State) : (takeInterrupt s).cp0.cause.extractLsb' 2 5 = 0#5 := by
  unfold takeInterrupt
  split
  · exact enterGeneral_excCode .interrupt _ _
  · exact enterGeneral_excCode .interrupt _ _

theorem takeInterrupt_of_not_exl (h : s.exl = false) : takeInterrupt s = takeException .interrupt s := by
  rw [takeInterrupt, if_neg (by simp [h])]

theorem ip_request {n : Nat} (h : n < 5) : s.ip.getLsbD (n + 2) = s.pins.int.getLsbD n := by
  rw [ip_getLsbD, if_neg (by omega), if_pos (by omega), Nat.add_sub_cancel]

theorem ip_software {n : Nat} (h : n < 2) : s.ip.getLsbD n = s.cp0.cause.getLsbD (8 + n) := by
  rw [ip_getLsbD, if_pos h]

end

/-- Settles O41: `interruptPending` is the condition on IE, EXL, ERL, IP and IM, and the events come in order. -/
theorem interruptsTaken : Obligations.InterruptsTaken := by
  intro s v
  refine ⟨fun hc hr hn => ?_, view_of_recent_nil s true, takeInterrupt_of_not_exl, takeInterrupt_excCode s,
    fun n hn => ip_request hn, ip_getLsbD s 7, fun n hn => ip_software hn⟩
  have event := takeEvent_interrupt hc hr hn
  refine ⟨fun hie hexl herl hmeet => ?taken, fun hno => ?none⟩
  case taken =>
    have pending : v.interruptPending = true := interruptPending_iff.2 ⟨hie, hexl, herl, hmeet⟩
    exact step_of_event (event.trans (if_pos pending))
  case none =>
    refine event.trans (if_neg fun pending => ?_)
    obtain ⟨hie, hexl, herl, n, hip, him⟩ := interruptPending_iff.1 pending
    rcases hno with h | h | h | h
    · exact absurd (hie.symm.trans h) (by decide)
    · exact absurd (hexl.symm.trans h) (by decide)
    · exact absurd (herl.symm.trans h) (by decide)
    · simpa [v, hip, him] using h n

end Sys2Proof.Proofs

/-! PROOFS. The transfers between general and FPU registers, FCR31, and the compares. -/

namespace Sys2Proof.Proofs

open Sys2Proof.Machine

set_option Elab.async false

section
variable {s : State}

/-! ### Instructions that change registers and advance -/

/-- An instruction whose whole effect is a change of registers, the pc and the delay slot left to the advance. -/
theorem effects_advance {w : Touched} {p : State → Prop} {i : Instr} {t : State} (hx : exec i s = .next (advance t))
    (hk : Keeps w s t) (hp : p (advance t)) (hpc : t.pc = s.pc := by rfl) (hn : t.next = s.next := by rfl) :
    Effects i s w p :=
  ⟨_, hx, hp, keeps_advance _ _ _ hk, stepsOn_advance_of hpc hn⟩

/-- One gate more in front. -/
theorem finish_after_gate {g : Except Stop Unit} {r : Except Stop State} (hg : g = .ok ()) :
    finish s (g >>= fun _ => r) = finish s r := by
  rw [hg]
  rfl

theorem keeps_setFgrLow (i : Reg) (v : BitVec 32) (s : State) : Keeps { fgrs := [i] } s (setFgrLow i v s) :=
  { keeps_refl { fgrs := [i] } s with
    fgrs := fun k hk => setFgrLow_fgrRead_other i k v s (List.ne_of_not_mem_cons hk) }

theorem setFpr64_outside {i k : Reg} (v : Word) (h : k ∉ s.pairOf i) : (setFpr64 i v s).fgrRead k = s.fgrRead k := by
  unfold State.pairOf at h
  split at h
  next hfr => exact setFpr64_fgrRead_other i k v s (List.ne_of_not_mem_cons h) (.inl hfr)
  next =>
    exact setFpr64_fgrRead_other i k v s (List.ne_of_not_mem_cons h)
      (.inr (List.ne_of_not_mem_cons (List.not_mem_of_not_mem_cons h)))

theorem keeps_setFpr64 (i : Reg) (v : Word) (s : State) : Keeps { fgrs := s.pairOf i } s (setFpr64 i v s) where
  gprs k _ := by simp
  fgrs k hk := setFpr64_outside v hk
  memory a _ := by simp
  hiLo _ := by simp
  fcr0 := by simp
  fcr31 _ := by simp
  cp0 _ := by simp
  latch _ := by simp
  hold _ := by simp
  tlb _ := by simp
  window _ := by simp [SameWindow]
  caches _ := by simp
  llbit _ := by simp
  link _ := by simp
  stores _ := by simp
  buffer _ := by simp
  time := by simp
  board := by simp

theorem requireFpr_ok {i : Reg} (h : s.fprOk i = true) : requireFpr i s = .ok () := if_pos h

theorem fpr32_congr {t : State} {i : Reg} (h : t.fgrRead i = s.fgrRead i) : t.fpr32 i = s.fpr32 i := congrArg low h

theorem advance_fpr32 (t : State) (i : Reg) : (advance t).fpr32 i = t.fpr32 i := fpr32_congr (advance_fgrRead ..)

theorem advance_fpr64 (t : State) (i : Reg) : (advance t).fpr64 i = t.fpr64 i := by simp [State.fpr64]

theorem writesFgrLow_of {i : Instr} {f : Reg} {v : BitVec 32} (hx : exec i s = .next (advance (setFgrLow f v s))) :
    WritesFgrLow i s f v :=
  effects_advance hx (keeps_setFgrLow f v s) (by rw [advance_fpr32, setFgrLow_fpr32])

theorem writesFpr64_of {i : Instr} {f : Reg} {v : Word} (hf : s.fprOk f = true)
    (hx : exec i s = .next (advance (setFpr64 f v s))) : WritesFpr64 i s f v :=
  effects_advance hx (keeps_setFpr64 f v s) (by rw [advance_fpr64, setFpr64_fpr64 _ _ _ hf]) (setFpr64_pc ..)
    (setFpr64_next ..)

/-! ### FCR31 -/

/-- The state with another FCR31. -/
def withFcr31 (v : BitVec 32) (s : State) : State := { s with fcr31 := v }

theorem keeps_withFcr31 (v : BitVec 32) (s : State) : Keeps { fcr31 := true } s (withFcr31 v s) :=
  { keeps_refl { fcr31 := true } s with fcr31 := fun hw => nomatch hw }

theorem fcrTraps_iff (c : BitVec 6) (s : State) :
    fcrTraps c s = true ↔ c.getLsbD 5 = true ∨ c.extractLsb' 0 5 &&& s.fcrEnables ≠ 0#5 := by
  rw [fcrTraps, Bool.or_eq_true, decide_eq_true_iff]

/-- CTC1 traps by the Cause and Enables of the word it writes. -/
theorem ctc1_traps_iff (v : BitVec 32) (s : State) : fcrTraps (withFcr31 v s).fcrCause (withFcr31 v s) = true ↔
    v.getLsbD 17 = true ∨ v.extractLsb' 12 5 &&& v.extractLsb' 7 5 ≠ 0#5 := by
  have unimplemented : (v.extractLsb' 12 6).getLsbD 5 = v.getLsbD 17 := by rw [BitVec.getLsbD_extractLsb']; rfl
  have others : (v.extractLsb' 12 6).extractLsb' 0 5 = v.extractLsb' 12 5 := by
    ext i hi
    simp [show i < 6 by omega]
  rw [fcrTraps_iff, ← unimplemented, ← others]
  rfl

end

/-- Settles O51: each transfer is its gates and one register write; CTC1 traps by the word it wrote. -/
theorem fpuTransfers : Obligations.FpuTransfers := by
  refine ⟨fun s rt fs hcu => ?moves, fun s rt fs hcu => ?ctc1⟩
  case moves =>
    have hunit := requireUnit_usable 1#2 s hcu
    refine ⟨writesGpr_of (.mfc1 rt fs) _ _ _ (finish_of_ok hunit), ?_, ?_, ?_, ?_, fun h64 hfs => ⟨?_, ?_⟩⟩
    · rw [← low_eq_extract]
      exact writesFgrLow_of (i := .mtc1 rt fs) (finish_of_ok hunit)
    · exact writesGpr_of (.cfc1 rt 31#5) _ _ _ (finish_of_ok hunit)
    · exact writesGpr_of (.cfc1 rt 0#5) _ _ _ (finish_of_ok hunit)
    · exact writesGprWith_of (i := .cfc1 rt fs) (finish_of_ok hunit) trivial
    · exact writesGpr_of (.dmfc1 rt fs) _ _ _
        ((finish_after_gate hunit).trans (finish_of_ok_ok (require64_enabled s h64) (requireFpr_ok hfs)))
    · exact writesFpr64_of (i := .dmtc1 rt fs) hfs
        ((finish_after_gate hunit).trans (finish_of_ok_ok (require64_enabled s h64) (requireFpr_ok hfs)))
  case ctc1 =>
    intro v traps
    have runs (r : Reg) : exec (.ctc1 rt r) s
        = if r = 31#5 then ctc1Finish (withFcr31 v s) else .refused .reservedFcrWrite := by
      show execCtc1 rt r s = _
      rw [execCtc1, requireUnit_usable 1#2 s hcu, low_eq_extract]
      rfl
    have trapped : fcrTraps (withFcr31 v s).fcrCause (withFcr31 v s) = true ↔ traps := ctc1_traps_iff v s
    refine ⟨fun h => ?_, fun h => ?_, fun h => (runs fs).trans (if_neg h)⟩
    · exact (runs 31#5).trans (if_pos (trapped.2 h))
    · exact effects_advance ((runs 31#5).trans (if_neg (mt trapped.1 h))) (keeps_withFcr31 v s) (advance_fcr31 _)

/-! ### The fields of FCR31 that a compare writes (48_fpu_arith R512, R540) -/

theorem getLsbD_putField {n m : Nat} (w : BitVec n) (lo : Nat) (v : BitVec m) {i : Nat} (hi : i < n) :
    (putField w lo v).getLsbD i = if lo ≤ i ∧ i < lo + m then v.getLsbD (i - lo) else w.getLsbD i := by
  unfold putField
  by_cases h1 : lo ≤ i
  · by_cases h2 : i < lo + m
    · simp [-BitVec.getLsbD_eq_getElem, h1, h2, hi, show ¬i < lo by omega, show i - lo < n by omega,
        show i - lo < m by omega]
    · simp [-BitVec.getLsbD_eq_getElem, h1, h2, hi, show ¬i < lo by omega, show ¬i - lo < m by omega,
        BitVec.getLsbD_of_ge v (i - lo) (by omega)]
  · simp [-BitVec.getLsbD_eq_getElem, h1, hi, show i < lo by omega]

/-- FCR31 with the Flags of a Cause set raised, bit by bit. -/
theorem getLsbD_raised (w : BitVec 32) (c : BitVec 6) {i : Nat} (hi : i < 32) :
    (w ||| ((c.extractLsb' 0 5).setWidth 32 <<< 2)).getLsbD i
      = if 2 ≤ i ∧ i < 7 then w.getLsbD i || c.getLsbD (i - 2) else w.getLsbD i := by
  by_cases h2 : i < 2
  · simp [-BitVec.getLsbD_eq_getElem, h2, show ¬2 ≤ i by omega]
  · by_cases h7 : i < 7
    · simp [-BitVec.getLsbD_eq_getElem, h2, h7, hi, show 2 ≤ i by omega, show i - 2 < 32 by omega,
        show i - 2 < 5 by omega]
    · simp [-BitVec.getLsbD_eq_getElem, h7, show ¬i - 2 < 5 by omega]

/-- FCR31 after a compare that writes v to condition code cc, with Cause set c. -/
def fcrCompared (cc : BitVec 3) (v : Bool) (c : BitVec 6) (w : BitVec 32) : BitVec 32 :=
  putField (putField w 12 c ||| ((c.extractLsb' 0 5).setWidth 32 <<< 2)) (fccBit cc) (BitVec.ofBool v)

theorem fccBit_bounds (n : BitVec 3) : 23 ≤ fccBit n ∧ fccBit n ≠ 24 ∧ fccBit n < 32 := by
  revert n
  decide

theorem fccBit_injective {n m : BitVec 3} (h : fccBit n = fccBit m) : n = m := by
  revert n m
  decide

/-- Bit i of it: the condition code, the Cause, the Flags raised, and the rest as it was. -/
theorem fcrCompared_getLsbD (cc : BitVec 3) (v : Bool) (c : BitVec 6) (w : BitVec 32) {i : Nat} (hi : i < 32) :
    (fcrCompared cc v c w).getLsbD i = if i = fccBit cc then v else if 12 ≤ i ∧ i < 18 then c.getLsbD (i - 12)
      else if 2 ≤ i ∧ i < 7 then w.getLsbD i || c.getLsbD (i - 2) else w.getLsbD i := by
  obtain ⟨low23, _, _⟩ := fccBit_bounds cc
  rw [fcrCompared, getLsbD_putField _ _ _ hi, getLsbD_raised _ _ hi, getLsbD_putField _ _ _ hi]
  by_cases hcc : i = fccBit cc
  · simp [hcc]
  rw [if_neg (by omega), if_neg hcc]
  by_cases hflags : 2 ≤ i ∧ i < 7
  · rw [if_pos hflags, if_neg (by omega), if_neg (by omega), if_pos hflags]
  · rw [if_neg hflags, if_neg hflags]

section
variable {s : State}

/-- The state of a compare that does not trap, before the pc advances. -/
def compared (cc : BitVec 3) (v : Bool) (c : BitVec 6) (s : State) : State :=
  withFcr31 (fcrCompared cc v c s.fcr31) s

theorem compared_fcc (cc : BitVec 3) (v : Bool) (c : BitVec 6) (s : State) (n : BitVec 3) :
    (compared cc v c s).fcc n = if n = cc then v else s.fcc n := by
  obtain ⟨low23, _, top⟩ := fccBit_bounds n
  show (fcrCompared cc v c s.fcr31).getLsbD (fccBit n) = _
  rw [fcrCompared_getLsbD _ _ _ _ top]
  by_cases h : n = cc
  · rw [if_pos (congrArg fccBit h), if_pos h]
  · rw [if_neg fun e => h (fccBit_injective e), if_neg (by omega), if_neg (by omega), if_neg h]
    rfl

theorem compared_cause (cc : BitVec 3) (v : Bool) (c : BitVec 6) (s : State) : (compared cc v c s).fcrCause = c := by
  obtain ⟨low23, _, _⟩ := fccBit_bounds cc
  apply BitVec.eq_of_getLsbD_eq
  intro i hi
  show ((fcrCompared cc v c s.fcr31).extractLsb' 12 6).getLsbD i = _
  rw [BitVec.getLsbD_extractLsb', fcrCompared_getLsbD _ _ _ _ (by omega), if_neg (by omega), if_pos (by omega),
    decide_eq_true hi, Bool.true_and, Nat.add_sub_cancel_left]

theorem compared_flags (cc : BitVec 3) (v : Bool) (c : BitVec 6) (s : State) :
    (compared cc v c s).fcrFlags = s.fcrFlags ||| c.extractLsb' 0 5 := by
  obtain ⟨low23, _, _⟩ := fccBit_bounds cc
  apply BitVec.eq_of_getLsbD_eq
  intro i hi
  show ((fcrCompared cc v c s.fcr31).extractLsb' 2 5).getLsbD i = (s.fcr31.extractLsb' 2 5 ||| _).getLsbD i
  rw [BitVec.getLsbD_extractLsb', fcrCompared_getLsbD _ _ _ _ (by omega), if_neg (by omega), if_neg (by omega),
    if_pos (by omega), BitVec.getLsbD_or, BitVec.getLsbD_extractLsb', BitVec.getLsbD_extractLsb', decide_eq_true hi,
    Bool.true_and, Bool.true_and, Bool.true_and, Nat.add_sub_cancel_left, Nat.zero_add]

/-- The bits of FCR31 that no operation of the FPU writes: RM, Enables, 22:18 and FS. -/
theorem fcrKept_bits {i : Nat} (hi : i < 32) (h : (0x017C0F83#32).getLsbD i = true) :
    ¬(12 ≤ i ∧ i < 18) ∧ ¬(2 ≤ i ∧ i < 7) ∧ (i < 23 ∨ i = 24) := by
  revert h
  interval_cases i <;> decide

theorem compared_kept (cc : BitVec 3) (v : Bool) (c : BitVec 6) (s : State) :
    (compared cc v c s).fcr31 &&& 0x017C0F83#32 = s.fcr31 &&& 0x017C0F83#32 := by
  obtain ⟨low23, not24, _⟩ := fccBit_bounds cc
  apply BitVec.eq_of_getLsbD_eq
  intro i hi
  rw [BitVec.getLsbD_and, BitVec.getLsbD_and]
  cases hm : (0x017C0F83#32).getLsbD i with
  | false => rw [Bool.and_false, Bool.and_false]
  | true =>
    obtain ⟨notCause, notFlags, notCodes⟩ := fcrKept_bits hi hm
    show (_ && _) = _
    rw [compared, withFcr31, fcrCompared_getLsbD _ _ _ _ hi, if_neg (by omega), if_neg notCause, if_neg notFlags]

/-- What a compare leaves in FCR31, of any state that has it. -/
theorem compared_fields {cc : BitVec 3} {v : Bool} {c : BitVec 6} {t : State}
    (h : t.fcr31 = (compared cc v c s).fcr31) :
    t.fcc cc = v ∧ (∀ n, n ≠ cc → t.fcc n = s.fcc n) ∧ t.fcrCause = c
      ∧ t.fcrFlags = s.fcrFlags ||| c.extractLsb' 0 5 ∧ t.fcr31 &&& 0x017C0F83#32 = s.fcr31 &&& 0x017C0F83#32 := by
  have codes (n : BitVec 3) : t.fcc n = (compared cc v c s).fcc n := congrArg (·.getLsbD (fccBit n)) h
  refine ⟨?_, fun n hn => ?_, ?_, ?_, ?_⟩
  · rw [codes, compared_fcc, if_pos rfl]
  · rw [codes, compared_fcc, if_neg hn]
  · rw [State.fcrCause, h]
    exact compared_cause cc v c s
  · rw [State.fcrFlags, h]
    exact compared_flags cc v c s
  · rw [h, compared_kept]

/-! ### The compares (48_fpu_arith R540, R541) -/

theorem condHolds_relation (cond : BitVec 4) (a b : FpVal) : condHolds cond (fpRelation a b) =
    if isNan a || isNan b then cond.getLsbD 0
    else (cond.getLsbD 2 && (fpOrder a b).1) || (cond.getLsbD 1 && (fpOrder a b).2) := by
  unfold fpRelation condHolds
  split
  · simp
  · simp

/-- Every compare is fpCompare in its format and condition. -/
theorem comparesAs_of {i : Instr} {f : FpFmt} {cond : BitVec 4} {ft fs : Reg} {cc : BitVec 3}
    (hready : FpReady s [fs, ft]) (hcc : cc = 0#3 ∨ s.cu 3 = true) (hx : exec i s = fpCompare f cond ft fs cc s) :
    ComparesAs i s cond (s.fpVal f fs) (s.fpVal f ft) cc := by
  have gate : (do requireUnit 1#2 s; requireCc cc s; requireFprs [fs, ft] s) = Except.ok () := by
    rw [requireUnit_usable 1#2 s hready.1, requireCc_ok cc s hcc, requireFprs_ok _ s hready.2]
    rfl
  rw [fpCompare, gate] at hx
  unfold ComparesAs
  intro unordered c holds
  have holds_eq : condHolds cond (fpRelation (s.fpVal f fs) (s.fpVal f ft)) = holds := condHolds_relation _ _ _
  rw [holds_eq] at hx
  split
  next traps => exact hx.trans (if_pos traps)
  next quiet =>
    have completes : exec i s = .next (advance (compared cc holds c s)) := hx.trans (if_neg quiet)
    exact effects_advance completes (keeps_withFcr31 _ s) (compared_fields (advance_fcr31 _))

end

/-- Settles O56: each of the 32 is `fpCompare` in its format and condition, by its equation of exec. -/
theorem compares : Obligations.Compares := by
  intro s ft fs cc hready hcc
  simp only [List.forall_mem_cons, List.not_mem_nil, IsEmpty.forall_iff, implies_true, and_true]
  have single {i : Instr} {cond : BitVec 4} (hx : exec i s = fpCompare .s cond ft fs cc s) :
      ComparesAs i s cond (s.fpVal .s fs) (s.fpVal .s ft) cc := comparesAs_of hready hcc hx
  have double {i : Instr} {cond : BitVec 4} (hx : exec i s = fpCompare .d cond ft fs cc s) :
      ComparesAs i s cond (s.fpVal .d fs) (s.fpVal .d ft) cc := comparesAs_of hready hcc hx
  exact ⟨⟨single rfl, single rfl, single rfl, single rfl, single rfl, single rfl, single rfl, single rfl, single rfl,
      single rfl, single rfl, single rfl, single rfl, single rfl, single rfl, single rfl⟩,
    ⟨double rfl, double rfl, double rfl, double rfl, double rfl, double rfl, double rfl, double rfl, double rfl,
      double rfl, double rfl, double rfl, double rfl, double rfl, double rfl, double rfl⟩⟩

end Sys2Proof.Proofs

/-! PROOFS. Rounding: a magnitude rounded to a whole number of units, and from it rounding to p bits and to an
integer. -/

namespace Sys2Proof.Proofs

open Sys2Proof.Machine

set_option Elab.async false

/-! ### A magnitude and its whole number of units (48_fpu_arith R513) -/

/-- The sign as a factor. -/
def sgn (neg : Bool) : Rat := if neg then -1 else 1

theorem abs_sgn (neg : Bool) : |sgn neg| = 1 := by cases neg <;> norm_num [sgn]

theorem scaled_eq (neg : Bool) (m : Nat) (e : Int) : scaled neg m e = sgn neg * m * 2 ^ e := rfl

/-- f is the part of a unit that a remainder stands for: the remainder itself, or when sticky a number strictly between
it and the next one, the unit then even. -/
structure PartOf (rem unit : Nat) (sticky : Bool) (f : Rat) : Prop where
  pos : 0 < unit
  exact : sticky = false → f * unit = rem
  between : sticky = true → rem < f * unit ∧ f * unit < rem + 1
  even : sticky = true → unit % 2 = 0

section
variable {rem unit : Nat} {sticky : Bool} {f : Rat} (h : PartOf rem unit sticky f)
include h

theorem PartOf.unit_pos : (0 : Rat) < unit := Nat.cast_pos.2 h.pos

theorem PartOf.lower : rem ≤ f * unit := by
  cases hs : sticky with
  | false => exact (h.exact hs).ge
  | true => exact (h.between hs).1.le

theorem PartOf.nonneg : 0 ≤ f :=
  nonneg_of_mul_nonneg_left ((Nat.cast_nonneg rem).trans h.lower) h.unit_pos

theorem PartOf.lt_one (hr : rem < unit) : f < 1 := by
  have room : (rem : Rat) + 1 ≤ unit := by exact_mod_cast hr
  have top : f * unit < 1 * unit := by
    cases hs : sticky with
    | false => rw [h.exact hs]; linarith
    | true => linarith [(h.between hs).2]
  exact lt_of_mul_lt_mul_right top h.unit_pos.le

/-- What is lost is nothing exactly when the part is zero. -/
theorem PartOf.ne_zero_iff : (decide (rem ≠ 0) || sticky) = true ↔ f ≠ 0 := by
  have hu := h.unit_pos
  cases hs : sticky with
  | false =>
    rw [Bool.or_false, decide_eq_true_iff, ← Nat.cast_ne_zero (R := Rat), ← h.exact hs]
    simp [hu.ne']
  | true =>
    have pos : 0 < f * unit := (Nat.cast_nonneg rem).trans_lt (h.between hs).1
    simpa using (pos_of_mul_pos_left pos hu.le).ne'

/-- The comparison of the part with a half, made on the remainder. -/
theorem PartOf.above_half_iff : 1 < 2 * f ↔ unit < 2 * rem ∨ 2 * rem = unit ∧ sticky = true := by
  have hu := h.unit_pos
  rw [← mul_lt_mul_iff_left₀ hu, one_mul, mul_assoc]
  cases hs : sticky with
  | false =>
    rw [h.exact hs]
    norm_cast
    simp
  | true =>
    obtain ⟨low, high⟩ := h.between hs
    have heven := h.even hs
    simp only [and_true]
    constructor
    · intro hlt
      have next : unit < 2 * (rem + 1) := by
        qify
        linarith
      omega
    · intro hle
      have here : unit ≤ 2 * rem := by omega
      qify at here
      linarith

theorem PartOf.half_iff : 2 * f = 1 ↔ 2 * rem = unit ∧ sticky = false := by
  have hu := h.unit_pos
  rw [← mul_left_inj' hu.ne', one_mul, mul_assoc]
  cases hs : sticky with
  | false =>
    rw [h.exact hs]
    norm_cast
    simp
  | true =>
    obtain ⟨low, high⟩ := h.between hs
    have heven := h.even hs
    simp only [reduceCtorEq, and_false, iff_false]
    intro heq
    have below : 2 * rem < unit := by
      qify
      linarith
    have above : unit < 2 * (rem + 1) := by
      qify
      linarith
    omega

/-- The decision to round up, by the part of a unit that is lost. -/
theorem PartOf.roundsUp_iff (mode : Rounding) (neg : Bool) (q : Nat) :
    roundsUp mode neg q rem unit sticky = true ↔ match mode with
      | .rz => False
      | .rp => neg = false ∧ f ≠ 0
      | .rm => neg = true ∧ f ≠ 0
      | .rn => 1 < 2 * f ∨ 2 * f = 1 ∧ q % 2 = 1 := by
  have lost := h.ne_zero_iff
  unfold roundsUp
  cases mode with
  | rz => simp
  | rp => rw [Bool.and_eq_true, lost, Bool.not_eq_true']
  | rm => rw [Bool.and_eq_true, lost]
  | rn =>
    rw [h.above_half_iff, h.half_iff]
    cases sticky <;> simp

end

/-! ### The rounded number, in units -/

/-- r is a magnitude v rounded to a whole number of units, v being the magnitude of a number with a sign. -/
def RoundedTo (mode : Rounding) (neg : Bool) (v : Rat) (r : Nat) : Prop :=
  match mode with
  | .rn => 2 * |v - r| ≤ 1 ∧ (2 * |v - r| = 1 → r % 2 = 0)
  | .rz => r ≤ v ∧ v < r + 1
  | .rp => if neg then r ≤ v ∧ v < r + 1 else v ≤ r ∧ r < v + 1
  | .rm => if neg then v ≤ r ∧ r < v + 1 else r ≤ v ∧ v < r + 1

theorem roundedTo_self (mode : Rounding) (neg : Bool) (r : Nat) : RoundedTo mode neg r r := by
  cases mode <;> cases neg <;> simp [RoundedTo]

/-- y is x rounded to a multiple of u: the obligation's wording, `even` being what it says of a tie. -/
def RoundedBy (mode : Rounding) (x y u : Rat) (even : Prop) : Prop :=
  match mode with
  | .rn => 2 * |x - y| ≤ u ∧ (2 * |x - y| = u → even)
  | .rz => |y| ≤ |x| ∧ |x| < |y| + u
  | .rp => x ≤ y ∧ y < x + u
  | .rm => y ≤ x ∧ x < y + u

/-- A bound in units, in multiples of u. -/
theorem bounds_scaled {a b u : Rat} (hu : 0 < u) (h : a ≤ b ∧ b < a + 1) : a * u ≤ b * u ∧ b * u < a * u + u := by
  obtain ⟨low, high⟩ := h
  constructor <;> nlinarith

theorem roundedBy_of {mode : Rounding} {neg : Bool} {v u : Rat} {r : Nat} {even : Prop} (hu : 0 < u) (hv : 0 ≤ v)
    (he : r % 2 = 0 → even) (h : RoundedTo mode neg v r) :
    RoundedBy mode (sgn neg * v * u) (sgn neg * r * u) u even := by
  have distance : |sgn neg * v * u - sgn neg * r * u| = |v - r| * u := by
    rw [← sub_mul, ← mul_sub, abs_mul, abs_mul, abs_sgn, one_mul, abs_of_pos hu]
  have magnitude (z : Rat) (hz : 0 ≤ z) : |sgn neg * z * u| = z * u := by
    rw [abs_mul, abs_mul, abs_sgn, one_mul, abs_of_pos hu, abs_of_nonneg hz]
  cases mode with
  | rn =>
    obtain ⟨near, tie⟩ := h
    refine ⟨?_, fun heq => he (tie ?_)⟩
    · rw [distance]
      nlinarith
    · rw [distance, ← mul_assoc] at heq
      exact (mul_eq_right₀ hu.ne').1 heq
  | rz =>
    obtain ⟨low, high⟩ := h
    show |_| ≤ |_| ∧ |_| < |_| + u
    rw [magnitude v hv, magnitude r (Nat.cast_nonneg r)]
    exact bounds_scaled hu ⟨low, high⟩
  | rp =>
    show _ ≤ _ ∧ _ < _ + u
    cases neg with
    | false => simpa [sgn] using bounds_scaled hu h
    | true =>
      obtain ⟨low, high⟩ := bounds_scaled hu h
      simp only [sgn, if_true]
      constructor <;> linarith
  | rm =>
    show _ ≤ _ ∧ _ < _ + u
    cases neg with
    | false => simpa [sgn] using bounds_scaled hu h
    | true =>
      obtain ⟨low, high⟩ := bounds_scaled hu h
      simp only [sgn, if_true]
      constructor <;> linarith

/-- Rounding up where `roundsUp` says so rounds as the mode says. -/
theorem roundedTo_of_roundsUp {mode : Rounding} {neg : Bool} {q rem unit : Nat} {sticky : Bool} {f : Rat}
    (h : PartOf rem unit sticky f) (hr : rem < unit) :
    RoundedTo mode neg (q + f) (if roundsUp mode neg q rem unit sticky then q + 1 else q) := by
  have hup := h.roundsUp_iff mode neg q
  have f0 := h.nonneg
  have f1 := h.lt_one hr
  split
  next up =>
    have cause := hup.1 up
    have toNext : (q : Rat) + f - (q + 1 : Nat) = -(1 - f) := by push_cast; ring
    cases mode with
    | rz => exact cause.elim
    | rn =>
      show 2 * |_| ≤ 1 ∧ (2 * |_| = 1 → _)
      rw [toNext, abs_neg, abs_of_nonneg (by linarith)]
      refine ⟨?_, fun tie => ?_⟩
      · rcases cause with above | ⟨half, _⟩ <;> linarith
      · rcases cause with above | ⟨_, odd⟩
        · linarith
        · omega
    | rp =>
      obtain ⟨rfl, hne⟩ := cause
      have pos : 0 < f := f0.lt_of_ne' hne
      show _ ≤ ((q + 1 : Nat) : Rat) ∧ ((q + 1 : Nat) : Rat) < _
      push_cast
      constructor <;> linarith
    | rm =>
      obtain ⟨rfl, hne⟩ := cause
      have pos : 0 < f := f0.lt_of_ne' hne
      show _ ≤ ((q + 1 : Nat) : Rat) ∧ ((q + 1 : Nat) : Rat) < _
      push_cast
      constructor <;> linarith
  next stay =>
    have cause := mt hup.2 stay
    have within : (q : Rat) ≤ q + f ∧ q + f < q + 1 := ⟨by linarith, by linarith⟩
    cases mode with
    | rz => exact within
    | rn =>
      obtain ⟨notAbove, notTie⟩ := not_or.1 cause
      show 2 * |_| ≤ 1 ∧ (2 * |_| = 1 → _)
      rw [add_sub_cancel_left, abs_of_nonneg f0]
      refine ⟨not_lt.1 notAbove, fun tie => ?_⟩
      have notOdd : ¬q % 2 = 1 := fun odd => notTie ⟨tie, odd⟩
      omega
    | rp =>
      cases neg with
      | true => exact within
      | false =>
        have zero : f = 0 := by simpa using cause
        rw [zero, add_zero]
        exact roundedTo_self .rp false q
    | rm =>
      cases neg with
      | false => exact within
      | true =>
        have zero : f = 0 := by simpa using cause
        rw [zero, add_zero]
        exact roundedTo_self .rm true q

/-! ### Rounding to an integer (49_fpu_convert R551) -/

theorem signedInt_cast (neg : Bool) (m : Nat) : ((signedInt neg m : Int) : Rat) = sgn neg * m := by
  cases neg <;> simp [signedInt, sgn]

theorem signedInt_even {m : Nat} (neg : Bool) (h : m % 2 = 0) : signedInt neg m % 2 = 0 := by
  cases neg <;> simp only [signedInt, if_true, if_false, Bool.false_eq_true] <;> omega

/-- The part that a remainder is of a unit. -/
theorem partOf_rem (rem : Nat) {unit : Nat} (h : 0 < unit) : PartOf rem unit false ((rem : Rat) / unit) where
  pos := h
  exact _ := div_mul_cancel₀ _ (Nat.cast_ne_zero.2 h.ne')
  between hs := nomatch hs
  even hs := nomatch hs

/-- m units are m / unit whole ones and a part. -/
theorem div_add_part (m : Nat) {unit : Nat} (h : 0 < unit) :
    (m : Rat) / unit = (m / unit : Nat) + (m % unit : Nat) / unit := by
  have hu : (unit : Rat) ≠ 0 := Nat.cast_ne_zero.2 h.ne'
  rw [div_eq_iff hu, add_mul, div_mul_cancel₀ _ hu]
  exact_mod_cast (Nat.div_add_mod' m unit).symm

/-- A rounded magnitude is the magnitude exactly when nothing is lost. -/
theorem rounded_eq_iff {q rem unit : Nat} {sticky up : Bool} {f : Rat} (h : PartOf rem unit sticky f) (hr : rem < unit)
    (hup : up = true → f ≠ 0) :
    (decide (rem ≠ 0) || sticky) = false ↔ (q : Rat) + f = (if up then q + 1 else q : Nat) := by
  have lost := h.ne_zero_iff
  have f0 := h.nonneg
  have f1 := h.lt_one hr
  rw [← Bool.not_eq_true, lost, not_not]
  cases up with
  | false => simp
  | true =>
    have hne := hup rfl
    simp only [hne, false_iff, if_true]
    push_cast
    intro heq
    linarith

/-- Nothing is rounded up that is exact. -/
theorem PartOf.ne_zero_of_up {rem unit q : Nat} {sticky neg : Bool} {mode : Rounding} {f : Rat}
    (h : PartOf rem unit sticky f) (hup : roundsUp mode neg q rem unit sticky = true) : f ≠ 0 := by
  rintro rfl
  have cause := (h.roundsUp_iff mode neg q).1 hup
  cases mode <;> norm_num at cause

theorem sgn_mul_inj {neg : Bool} {a b u : Rat} (hu : u ≠ 0) : sgn neg * a * u = sgn neg * b * u ↔ a = b := by
  have hs : sgn neg ≠ 0 := by cases neg <;> norm_num [sgn]
  rw [mul_left_inj' hu, mul_right_inj' hs]

theorem roundInt_whole (mode : Rounding) (neg : Bool) (m : Nat) {e : Int} (he : 0 ≤ e) :
    (roundInt mode neg m e).2 = false ∧ scaled neg m e = ((roundInt mode neg m e).1 : Rat) := by
  obtain ⟨k, rfl⟩ := Int.eq_ofNat_of_zero_le he
  rw [roundInt, if_pos he]
  refine ⟨rfl, ?_⟩
  rw [signedInt_cast, scaled_eq, Int.toNat_natCast, zpow_natCast]
  push_cast
  ring

theorem roundInt_part (mode : Rounding) (neg : Bool) (m : Nat) {e : Int} (he : ¬0 ≤ e) :
    ((roundInt mode neg m e).2 = false ↔ scaled neg m e = ((roundInt mode neg m e).1 : Rat))
      ∧ RoundedBy mode (scaled neg m e) ((roundInt mode neg m e).1 : Rat) 1 ((roundInt mode neg m e).1 % 2 = 0) := by
  have hunit : 0 < 2 ^ (-e).toNat := Nat.two_pow_pos _
  have hpart := partOf_rem (m % 2 ^ (-e).toNat) hunit
  have hrem := Nat.mod_lt m hunit
  have value : scaled neg m e = sgn neg
      * ((m / 2 ^ (-e).toNat : Nat) + (m % 2 ^ (-e).toNat : Nat) / (2 ^ (-e).toNat : Nat)) * 1 := by
    have power : (2 : Rat) ^ e = 1 / (2 ^ (-e).toNat : Nat) := by
      rw [Nat.cast_pow, Nat.cast_ofNat, ← zpow_natCast, Int.toNat_of_nonneg (by omega), zpow_neg, one_div, inv_inv]
    rw [scaled_eq, power, ← div_add_part m hunit]
    ring
  rw [roundInt, if_neg he]
  dsimp only
  rw [signedInt_cast, value, ← mul_one (sgn neg * ((_ : Nat) : Rat)), sgn_mul_inj one_ne_zero,
    ← rounded_eq_iff hpart hrem hpart.ne_zero_of_up, Bool.or_false]
  exact ⟨Iff.rfl, roundedBy_of one_pos (add_nonneg (Nat.cast_nonneg _) hpart.nonneg) (signedInt_even neg)
    (roundedTo_of_roundsUp hpart hrem)⟩

/-- A number rounds to itself. -/
theorem roundedBy_self (mode : Rounding) (x : Rat) {u : Rat} {even : Prop} (hu : 0 < u) :
    RoundedBy mode x x u even := by
  cases mode with
  | rn => exact ⟨by simpa using hu.le, fun h => absurd h (by simpa using hu.ne)⟩
  | rz => exact ⟨le_refl _, lt_add_of_pos_right _ hu⟩
  | rp => exact ⟨le_refl _, lt_add_of_pos_right _ hu⟩
  | rm => exact ⟨le_refl _, lt_add_of_pos_right _ hu⟩

theorem roundInt_correct (mode : Rounding) (neg : Bool) (m : Nat) (e : Int) :
    ((roundInt mode neg m e).2 = false ↔ scaled neg m e = ((roundInt mode neg m e).1 : Rat))
      ∧ RoundedBy mode (scaled neg m e) ((roundInt mode neg m e).1 : Rat) 1 ((roundInt mode neg m e).1 % 2 = 0) := by
  by_cases he : 0 ≤ e
  · obtain ⟨exact, value⟩ := roundInt_whole mode neg m he
    rw [exact, ← value]
    exact ⟨by simp, roundedBy_self mode _ one_pos⟩
  · exact roundInt_part mode neg m he

/-! ### Rounding to p bits (48_fpu_arith R513) -/

/-- A magnitude with its sign. -/
theorem denotes_magnitude {neg sticky : Bool} {m : Nat} {e : Int} {x : Rat}
    (h : (Exact.real neg m e sticky).Denotes x) : 0 < m ∧ x = sgn neg * |x|
      ∧ (sticky = false → |x| = m * 2 ^ e) ∧ (sticky = true → m * 2 ^ e < |x| ∧ |x| < (m + 1) * 2 ^ e) := by
  obtain ⟨hm, hx⟩ := h
  have power : (0 : Rat) < 2 ^ e := by positivity
  cases sticky with
  | false =>
    have value : x = sgn neg * (m * 2 ^ e) := hx.trans (mul_assoc _ _ _)
    have size : |x| = m * 2 ^ e := by
      rw [value, abs_mul, abs_sgn, one_mul, abs_of_nonneg (by positivity)]
    exact ⟨hm, size ▸ value, fun _ => size, fun hs => nomatch hs⟩
  | true =>
    obtain ⟨low, high, sign⟩ := hx
    refine ⟨hm, ?_, fun hs => (nomatch hs), fun _ => ⟨by simpa [scaled] using low, by simpa [scaled] using high⟩⟩
    cases neg with
    | true => rw [abs_of_neg (sign.2 rfl)]; simp [sgn]
    | false => rw [abs_of_nonneg (not_lt.1 fun hn => nomatch sign.1 hn)]; simp [sgn]

/-- What roundTo's result has to meet. -/
structure RoundsTo (p : Nat) (mode : Rounding) (sticky : Bool) (x y : Rat) (r : Nat × Int × Bool) : Prop where
  low : 2 ^ (p - 1) ≤ r.1
  high : r.1 < 2 ^ p
  exact : r.2.2 = false ↔ x = y
  inexact : sticky = true → r.2.2 = true
  rounded : RoundedBy mode x y (2 ^ (if r.1 = 2 ^ (p - 1) ∧ |x| < |y| then r.2.1 - 1 else r.2.1)) (r.1 % 2 = 0)

section
variable {p m : Nat} {mode : Rounding} {neg sticky : Bool} {e : Int} {x : Rat}

theorem roundsTo_short (hm : 0 < m) (hn : m.log2 + 1 ≤ p) (hx : x = scaled neg m e) :
    RoundsTo p mode false x
      (scaled neg (roundTo p mode neg m e false).1 (roundTo p mode neg m e false).2.1)
      (roundTo p mode neg m e false) := by
  rw [roundTo, if_pos hn]
  have same : scaled neg (m * 2 ^ (p - (m.log2 + 1))) (e - (p - (m.log2 + 1) : Nat)) = x := by
    rw [hx, scaled_eq, scaled_eq, zpow_sub₀ two_ne_zero, zpow_natCast]
    push_cast
    field_simp
  have low : 2 ^ m.log2 ≤ m := Nat.log2_self_le hm.ne'
  have high : m < 2 ^ (m.log2 + 1) := Nat.lt_log2_self
  refine ⟨?_, ?_, ?_, fun hs => (nomatch hs), ?_⟩
  · calc 2 ^ (p - 1) = 2 ^ m.log2 * 2 ^ (p - (m.log2 + 1)) := by rw [← pow_add]; congr 1; omega
      _ ≤ m * 2 ^ (p - (m.log2 + 1)) := Nat.mul_le_mul_right _ low
  · calc m * 2 ^ (p - (m.log2 + 1)) < 2 ^ (m.log2 + 1) * 2 ^ (p - (m.log2 + 1)) :=
          Nat.mul_lt_mul_of_pos_right high (Nat.two_pow_pos _)
      _ = 2 ^ p := by rw [← pow_add]; congr 1; omega
  · dsimp only
    rw [same]
    simp
  · dsimp only
    rw [same]
    exact roundedBy_self mode x (by positivity)

/-- A significand of p bits, or 2^p put as 2^(p-1) with the next exponent. -/
def normalized (p r : Nat) (E : Int) (inexact : Bool) : Nat × Int × Bool :=
  if r = 2 ^ p then (2 ^ (p - 1), E + 1, inexact) else (r, E, inexact)

/-- A magnitude v units of 2^E, rounded to a whole number of units and put in normal form. -/
theorem roundsTo_normalized {q r : Nat} {v : Rat} {E : Int} {inexact : Bool} (hp : 2 ≤ p) (hx : x = sgn neg * v * 2 ^ E)
    (hlow : 2 ^ (p - 1) ≤ q) (hhigh : q < 2 ^ p) (hr : r = q ∨ r = q + 1) (hqv : q ≤ v) (hvq : v < q + 1)
    (hround : RoundedTo mode neg v r) (hexact : inexact = false ↔ v = r) (hsticky : sticky = true → inexact = true) :
    RoundsTo p mode sticky x (scaled neg (normalized p r E inexact).1 (normalized p r E inexact).2.1)
      (normalized p r E inexact) := by
  have power : (0 : Rat) < 2 ^ E := by positivity
  have v0 : 0 ≤ v := (Nat.cast_nonneg q).trans hqv
  have double : 2 ^ p = 2 * 2 ^ (p - 1) := by rw [← pow_succ']; congr 1; omega
  have halfEven : 2 ^ (p - 1) % 2 = 0 := by rw [show p - 1 = p - 2 + 1 by omega, pow_succ]; omega
  have equal : inexact = false ↔ x = sgn neg * r * 2 ^ E := by rw [hexact, hx, sgn_mul_inj power.ne']
  have magnitude (z : Rat) (hz : 0 ≤ z) : |sgn neg * z * 2 ^ E| = z * 2 ^ E := by
    rw [abs_mul, abs_mul, abs_sgn, one_mul, abs_of_pos power, abs_of_nonneg hz]
  unfold normalized
  split
  next carry =>
    have same : scaled neg (2 ^ (p - 1)) (E + 1) = sgn neg * r * 2 ^ E := by
      rw [scaled_eq, carry, double, zpow_add₀ two_ne_zero, zpow_one]
      push_cast
      ring
    have grown : |x| < |sgn neg * (r : Rat) * 2 ^ E| := by
      have next : r = q + 1 := by omega
      rw [hx, magnitude v v0, magnitude r (Nat.cast_nonneg r), next]
      push_cast
      exact mul_lt_mul_of_pos_right hvq power
    dsimp only
    refine ⟨le_refl _, by omega, by rw [same, equal], hsticky, ?_⟩
    dsimp only
    rw [same, if_pos ⟨rfl, grown⟩, add_sub_cancel_right, hx]
    exact roundedBy_of power v0 (fun _ => halfEven) hround
  next fits =>
    have notGrown : ¬(r = 2 ^ (p - 1) ∧ |x| < |sgn neg * (r : Rat) * 2 ^ E|) := by
      rintro ⟨least, grown⟩
      have same : r = q := by omega
      rw [hx, magnitude v v0, magnitude r (Nat.cast_nonneg r), same] at grown
      exact absurd hqv (not_le.2 (lt_of_mul_lt_mul_right grown power.le))
    dsimp only
    refine ⟨by omega, by omega, by rw [scaled_eq, equal], hsticky, ?_⟩
    dsimp only
    rw [scaled_eq, if_neg notGrown, hx]
    exact roundedBy_of power v0 id hround

theorem roundTo_long (hn : ¬m.log2 + 1 ≤ p) : roundTo p mode neg m e sticky =
    normalized p
      (if roundsUp mode neg (m / 2 ^ (m.log2 + 1 - p)) (m % 2 ^ (m.log2 + 1 - p)) (2 ^ (m.log2 + 1 - p)) sticky
        then m / 2 ^ (m.log2 + 1 - p) + 1 else m / 2 ^ (m.log2 + 1 - p))
      (e + (m.log2 + 1 - p : Nat)) (decide (m % 2 ^ (m.log2 + 1 - p) ≠ 0) || sticky) := by
  rw [roundTo, if_neg hn]
  rfl

/-- The magnitude of x in units of 2^(e + k): whole ones and the part that the remainder stands for. -/
theorem partOf_magnitude {k : Nat} (hk : 0 < k) (h : (Exact.real neg m e sticky).Denotes x) :
    PartOf (m % 2 ^ k) (2 ^ k) sticky (|x| / 2 ^ (e + k) - (m / 2 ^ k : Nat)) := by
  obtain ⟨_, _, hexact, hbetween⟩ := denotes_magnitude h
  have power : (0 : Rat) < 2 ^ e := by positivity
  have units : (|x| / 2 ^ (e + k) - (m / 2 ^ k : Nat)) * (2 ^ k : Nat) = |x| / 2 ^ e - m + (m % 2 ^ k : Nat) := by
    have whole : (m : Rat) = (m / 2 ^ k : Nat) * (2 ^ k : Nat) + (m % 2 ^ k : Nat) := by
      exact_mod_cast (Nat.div_add_mod' m (2 ^ k)).symm
    rw [sub_mul, zpow_add₀ two_ne_zero, zpow_natCast]
    have scale : |x| / (2 ^ e * 2 ^ k) * (2 ^ k : Nat) = |x| / 2 ^ e := by
      push_cast
      field_simp
    rw [scale]
    linarith
  refine ⟨Nat.two_pow_pos k, fun hs => ?_, fun hs => ?_, fun _ => ?_⟩
  · rw [units, hexact hs, mul_div_cancel_right₀ _ power.ne']
    ring
  · obtain ⟨low, high⟩ := hbetween hs
    rw [units]
    have low' := (lt_div_iff₀ power).2 low
    have high' := (div_lt_iff₀ power).2 high
    constructor <;> linarith
  · rw [show k = k - 1 + 1 by omega, pow_succ]
    omega

theorem roundsTo_long (hp : 2 ≤ p) (hn : ¬m.log2 + 1 ≤ p) (h : (Exact.real neg m e sticky).Denotes x) :
    RoundsTo p mode sticky x
      (scaled neg (roundTo p mode neg m e sticky).1 (roundTo p mode neg m e sticky).2.1)
      (roundTo p mode neg m e sticky) := by
  obtain ⟨hm, hsign, _⟩ := denotes_magnitude h
  have hpart := partOf_magnitude (k := m.log2 + 1 - p) (by omega) h
  have hrem : m % 2 ^ (m.log2 + 1 - p) < 2 ^ (m.log2 + 1 - p) := Nat.mod_lt _ (Nat.two_pow_pos _)
  have f0 := hpart.nonneg
  have f1 := hpart.lt_one hrem
  have value := add_sub_cancel ((m / 2 ^ (m.log2 + 1 - p) : Nat) : Rat) (|x| / 2 ^ (e + (m.log2 + 1 - p : Nat)))
  have hround := roundedTo_of_roundsUp (mode := mode) (neg := neg) (q := m / 2 ^ (m.log2 + 1 - p)) hpart hrem
  have hexact := rounded_eq_iff (q := m / 2 ^ (m.log2 + 1 - p)) hpart hrem
    (hpart.ne_zero_of_up (mode := mode) (neg := neg) (q := m / 2 ^ (m.log2 + 1 - p)))
  rw [value] at hround hexact
  rw [roundTo_long hn]
  refine roundsTo_normalized hp ?_ ?_ ?_ ?_ (sub_nonneg.1 f0) ?_ hround hexact ?_
  · rw [mul_assoc, div_mul_cancel₀ _ (by positivity), ← hsign]
  · rw [Nat.le_div_iff_mul_le (Nat.two_pow_pos _), ← pow_add, show p - 1 + (m.log2 + 1 - p) = m.log2 by omega]
    exact Nat.log2_self_le hm.ne'
  · rw [Nat.div_lt_iff_lt_mul (Nat.two_pow_pos _), ← pow_add, show p + (m.log2 + 1 - p) = m.log2 + 1 by omega]
    exact Nat.lt_log2_self
  · split
    · exact .inr rfl
    · exact .inl rfl
  · linarith
  · intro hs
    rw [hs, Bool.or_true]

/-- A sticky result has bits beyond the p that are kept. -/
theorem roundTo_correct (hp : 2 ≤ p) (h : (Exact.real neg m e sticky).Denotes x) (hs : sticky = true → 2 ^ p ≤ m) :
    RoundsTo p mode sticky x
      (scaled neg (roundTo p mode neg m e sticky).1 (roundTo p mode neg m e sticky).2.1)
      (roundTo p mode neg m e sticky) := by
  by_cases hn : m.log2 + 1 ≤ p
  · cases sticky with
    | false => exact roundsTo_short h.1 hn h.2
    | true =>
      have size := hs rfl
      have high : m < 2 ^ p := Nat.lt_log2_self.trans_le (Nat.pow_le_pow_right two_pos hn)
      omega
  · exact roundsTo_long hp hn h

end

/-- Settles O59: both roundings are one rounding of a magnitude to whole units, then put back in scale. -/
theorem roundingIsCorrect : Obligations.RoundingIsCorrect := by
  refine ⟨fun p mode neg m e sticky x hp h hs => ?_, fun mode neg m e => roundInt_correct mode neg m e⟩
  obtain ⟨low, high, exact, inexact, rounded⟩ := roundTo_correct (mode := mode) hp h hs
  exact ⟨low, high, exact, inexact, rounded⟩

end Sys2Proof.Proofs

/-! PROOFS. The value of a field in memory: what its bytes stand for, and what a store leaves of it. -/

namespace Sys2Proof.Proofs

open Sys2Proof.Machine

set_option Elab.async false

/-! ### A value and its bytes (20_memory R145) -/

/-- A number from its digits to the base 256, the first the most significant. -/
def digits (bs : List Byte) : Nat := bs.foldl (fun n b => n * 256 + b.toNat) 0

theorem digits_concat (bs : List Byte) (b : Byte) : digits (bs ++ [b]) = digits bs * 256 + b.toNat := by
  simp [digits]

theorem digits_lt (bs : List Byte) : digits bs < 256 ^ bs.length := by
  induction bs using List.reverseRecOn with
  | nil => simp [digits]
  | append_singleton bs b ih =>
    rw [digits_concat, List.length_append, List.length_singleton, pow_succ]
    have hb := b.isLt
    omega

theorem shift_or_toNat (x : Word) (b : Byte) (h : x.toNat < 2 ^ 56) :
    ((x <<< 8) ||| b.setWidth 64).toNat = x.toNat * 256 + b.toNat := by
  have hb := b.isLt
  rw [BitVec.toNat_or, BitVec.toNat_shiftLeft, BitVec.toNat_setWidth_of_le (by decide), Nat.shiftLeft_eq,
    Nat.mod_eq_of_lt (by omega), ← Nat.shiftLeft_eq, ← Nat.shiftLeft_add_eq_or_of_lt hb, Nat.shiftLeft_eq]

theorem joinBytes_toNat (bs : List Byte) (h : bs.length ≤ 8) : (joinBytes bs).toNat = digits bs := by
  induction bs using List.reverseRecOn with
  | nil => rfl
  | append_singleton bs b ih =>
    rw [List.length_append, List.length_singleton] at h
    have value := ih (by omega)
    have room : digits bs < 2 ^ 56 :=
      (digits_lt bs).trans_le ((Nat.pow_le_pow_right (by decide) (show bs.length ≤ 7 by omega)).trans (by decide))
    rw [digits_concat, ← value, ← shift_or_toNat _ _ (value ▸ room)]
    simp [joinBytes]

theorem digits_map_range (f : Nat → Byte) (n : Nat) :
    digits ((List.range n).map f) = ∑ k ∈ Finset.range n, (f k).toNat * 256 ^ (n - 1 - k) := by
  induction n with
  | zero => rfl
  | succ n ih =>
    rw [List.range_succ, List.map_append, List.map_singleton, digits_concat, ih, Finset.sum_range_succ, Finset.sum_mul]
    congr 1
    · refine Finset.sum_congr rfl fun k hk => ?_
      have hkn := Finset.mem_range.1 hk
      rw [mul_assoc, ← pow_succ, show n - 1 - k + 1 = n + 1 - 1 - k by omega]
    · simp

theorem digits_cons (b : Byte) (bs : List Byte) : digits (b :: bs) = b.toNat * 256 ^ bs.length + digits bs := by
  induction bs using List.reverseRecOn with
  | nil => simp [digits]
  | append_singleton bs c ih =>
    rw [← List.cons_append, digits_concat, ih, digits_concat, List.length_append, List.length_singleton, pow_succ]
    ring

theorem digits_reverse_map_range (f : Nat → Byte) (n : Nat) :
    digits ((List.range n).map f).reverse = ∑ k ∈ Finset.range n, (f k).toNat * 256 ^ k := by
  induction n with
  | zero => rfl
  | succ n ih =>
    rw [List.range_succ, List.map_append, List.map_singleton, List.reverse_concat, digits_cons, ih,
      Finset.sum_range_succ, List.length_reverse, List.length_map, List.length_range, add_comm]

section
variable {s : State}

theorem loadBytes_eq (s : State) (a n : Nat) :
    loadBytes s a n = (List.range n).map fun k => memRead s.mem (s.lane (a + k)) := by
  induction n generalizing a with
  | zero => rfl
  | succ n ih =>
    rw [loadBytes, ih, List.range_succ_eq_map, List.map_cons, List.map_map]
    simp only [Function.comp_def, Nat.add_zero, Nat.succ_eq_add_one, Nat.add_comm 1, Nat.add_assoc]

theorem valueAt_eq_sum (s : State) (pa n : Nat) : s.valueAt pa n = ∑ k ∈ Finset.range n,
    (memRead s.mem (s.lane (pa + k))).toNat * 256 ^ (if s.bigEndianCpu then n - 1 - k else k) := rfl

/-- What a load reads is the value of the field. -/
theorem fieldAt_toNat (s : State) (pa : Nat) {n : Nat} (h : n ≤ 8) : (s.fieldAt pa n).toNat = s.valueAt pa n := by
  unfold State.fieldAt
  rw [loadBytes_eq, valueAt_eq_sum]
  cases s.bigEndianCpu with
  | true =>
    dsimp only
    rw [if_pos rfl, joinBytes_toNat _ (by simpa using h), digits_map_range]
    simp
  | false =>
    dsimp only
    rw [if_neg Bool.false_ne_true, joinBytes_toNat _ (by simpa using h), digits_reverse_map_range]
    simp

theorem fieldAt_eq (s : State) (pa : Nat) {n : Nat} (h : n ≤ 8) :
    s.fieldAt pa n = BitVec.ofNat 64 (s.valueAt pa n) := by
  rw [← fieldAt_toNat s pa h, BitVec.ofNat_toNat, BitVec.setWidth_eq]

/-! ### A store of a field -/

theorem splitBytes_length (v : Word) (n : Nat) : (splitBytes v n).length = n := by
  induction n with
  | zero => rfl
  | succ n ih => rw [splitBytes, List.length_cons, ih]

theorem splitBytes_getElem (v : Word) {n k : Nat} (h : k < (splitBytes v n).length) :
    (splitBytes v n)[k] = v.extractLsb' (8 * (n - 1 - k)) 8 := by
  induction n generalizing k with
  | zero => exact absurd h (Nat.not_lt_zero k)
  | succ n ih =>
    cases k with
    | zero => rfl
    | succ k =>
      simp only [splitBytes, List.getElem_cons_succ, ih]
      congr 2
      omega

/-- The low n bytes of a value, by its digits. -/
theorem sum_bytes (v : Word) (n : Nat) :
    ∑ k ∈ Finset.range n, (v.extractLsb' (8 * k) 8).toNat * 256 ^ k = v.toNat % 256 ^ n := by
  induction n with
  | zero => simp [Nat.mod_one]
  | succ n ih =>
    rw [Finset.sum_range_succ, ih, Nat.mod_pow_succ, BitVec.extractLsb'_toNat, Nat.shiftRight_eq_div_pow, pow_mul]
    norm_num [mul_comm]

theorem setField_lane (attr : BitVec 3) (pa n : Nat) (v : Word) : (s.setField attr pa n v).lane = s.lane := by
  funext x
  simp [State.lane, State.reverseEndian]

theorem setField_bigEndianCpu (attr : BitVec 3) (pa n : Nat) (v : Word) :
    (s.setField attr pa n v).bigEndianCpu = s.bigEndianCpu := by
  simp [State.bigEndianCpu, State.bigEndianMem, State.reverseEndian]

/-- Each byte of the field after its store. -/
theorem memRead_setField_inside (attr : BitVec 3) (pa : Nat) {n k : Nat} (v : Word) (hk : k < n) :
    memRead (s.setField attr pa n v).mem (s.lane (pa + k))
      = v.extractLsb' (8 * (if s.bigEndianCpu then n - 1 - k else k)) 8 := by
  rw [setField_mem]
  cases s.bigEndianCpu with
  | true =>
    rw [if_pos rfl, memRead_memWriteAll_inside _ (lane_injective s) _ _ _ _ (by simpa [splitBytes_length] using hk),
      splitBytes_getElem]
    rfl
  | false =>
    rw [if_neg Bool.false_ne_true,
      memRead_memWriteAll_inside _ (lane_injective s) _ _ _ _ (by simpa [splitBytes_length] using hk),
      List.getElem_reverse, splitBytes_getElem, splitBytes_length]
    congr 2
    simp
    omega

theorem memRead_setField_outside {attr : BitVec 3} {pa n a : Nat} {v : Word} (h : a ∉ s.fieldBytes pa n) :
    memRead (s.setField attr pa n v).mem a = memRead s.mem a := by
  rw [setField_mem]
  refine memRead_memWriteAll_outside _ _ _ _ _ fun k hk ha => h ?_
  have hkn : k < n := by
    split at hk
    · rwa [splitBytes_length] at hk
    · rwa [List.length_reverse, splitBytes_length] at hk
  exact List.mem_map.2 ⟨k, List.mem_range.2 hkn, ha.symm⟩

/-- The field holds the low n bytes of what was stored. -/
theorem setField_valueAt (attr : BitVec 3) (pa n : Nat) (v : Word) :
    (s.setField attr pa n v).valueAt pa n = v.toNat % 256 ^ n := by
  rw [valueAt_eq_sum, setField_lane, setField_bigEndianCpu, ← sum_bytes]
  have byte (k : Nat) (hk : k ∈ Finset.range n) := memRead_setField_inside (s := s) attr pa v (Finset.mem_range.1 hk)
  rw [Finset.sum_congr rfl fun k hk => by rw [byte k hk]]
  cases s.bigEndianCpu with
  | true => exact Finset.sum_range_reflect (fun k => (v.extractLsb' (8 * k) 8).toNat * 256 ^ k) n
  | false => rfl

theorem keeps_setField (attr : BitVec 3) (pa n : Nat) (v : Word) (s : State) :
    Keeps (.ofStore (s.fieldBytes pa n)) s (s.setField attr pa n v) where
  gprs k _ := by simp
  fgrs k _ := by simp
  memory a ha := memRead_setField_outside ha
  hiLo _ := by simp
  fcr0 := by simp
  fcr31 _ := by simp
  cp0 _ := by simp
  latch _ := by simp
  hold _ := by simp
  tlb _ := by simp
  window _ := by simp [SameWindow]
  caches _ := by simp
  llbit _ := by simp
  link _ := by simp
  stores hw := nomatch hw
  buffer hw := nomatch hw
  time := by simp
  board := by simp

theorem keeps_deviceStore (pa n : Nat) (s : State) : Keeps { buffer := true } s (deviceStore pa n s) :=
  { keeps_refl { buffer := true } s with buffer := fun hw => nomatch hw }

end

end Sys2Proof.Proofs

/-! PROOFS. Load linked and store conditional, and the loop between them. -/

namespace Sys2Proof.Proofs

open Sys2Proof.Machine

set_option Elab.async false

section
variable {s t u : State} {w : Touched} {rt : Reg} {attr : BitVec 3} {pa : PAddr} {va : Word} {n : Nat} {i : Instr}

/-! ### What keeps more than it must -/

theorem keeps_setGpr_of (v : Word) (hr : rt ∈ w.gprs) (h : Keeps w s t) : Keeps w s (setGpr rt v t) where
  gprs k hk := (setGpr_gpr_other rt k v t fun e => hk (e ▸ hr)).trans (h.gprs k hk)
  fgrs k hk := by simpa using h.fgrs k hk
  memory a ha := by simpa using h.memory a ha
  hiLo hw := by simpa using h.hiLo hw
  fcr0 := by simpa using h.fcr0
  fcr31 hw := by simpa using h.fcr31 hw
  cp0 hw := by simpa using h.cp0 hw
  latch hw := by simpa using h.latch hw
  hold hw := by simpa using h.hold hw
  tlb hw := by simpa using h.tlb hw
  window hw := by simpa [SameWindow] using h.window hw
  caches hw := by simpa using h.caches hw
  llbit hw := by simpa using h.llbit hw
  link hw := by simpa using h.link hw
  stores hw := by simpa using h.stores hw
  buffer hw := by simpa using h.buffer hw
  time := by simpa using h.time
  board := by simpa using h.board

/-- The same with a register more and the loop of LL and SC free. -/
theorem keeps_widen (hg : w.gprs = []) (h : Keeps w s t) : Keeps { w with gprs := [rt], link := true } s t :=
  { h with
    gprs := fun k _ => h.gprs k (hg ▸ List.not_mem_nil)
    link := fun hw => nomatch hw }

/-! ### Load linked (40_load_store R283, R284) -/

theorem keeps_setLink (attr : BitVec 3) (pa : PAddr) (hc : w.cp0 = true) (hb : w.llbit = true) (hl : w.link = true)
    (h : Keeps w s t) : Keeps w s (setLink pa attr t) :=
  { h with
    cp0 := fun hw => absurd (hc.symm.trans hw) (by decide)
    llbit := fun hw => absurd (hb.symm.trans hw) (by decide)
    link := fun hw => absurd (hl.symm.trans hw) (by decide)
    window := fun hw =>
      ⟨(sameWindow_onCp0 (fun c => { c with llAddr := pa.extractLsb' 4 32 }) t).trans (h.window hw).1,
        fun hw' => absurd (hc.symm.trans hw') (by decide)⟩ }

/-- The state after a load linked of a value from a state u. -/
def linked (rt : Reg) (v : Word) (pa : PAddr) (attr : BitVec 3) (u : State) : State :=
  advance (setLink pa attr (setGpr rt v u))

theorem loadLinked_of {ext : Word → Word} {r : Loaded} (h : memLoad s va n = .ok r) :
    loadLinked n ext rt va s = .ok (linked rt (ext r.value) r.pa r.attr (loaded r.pa s)) := by
  rw [loadLinked, h]
  rfl

/-- What a load leaves beside its value: nothing changed, or with b the write buffer drained. -/
structure AfterLoad (b : Bool) (s u : State) : Prop where
  keeps : Keeps { buffer := b } s u
  pc : u.pc = s.pc
  next : u.next = s.next
  drained : b = true → Drained u

theorem afterLoad_memory (h : Answers s pa.toNat) : AfterLoad false s (loaded pa s) := by
  rw [loaded_answers s pa h]
  exact ⟨keeps_refl _ s, rfl, rfl, fun hb => nomatch hb⟩

theorem afterLoad_device (h : regionAt s.physMap pa.toNat = .device) : AfterLoad true s (loaded pa s) := by
  rw [loaded_device s pa h]
  exact ⟨keeps_drain {} s s (keeps_refl {} s), rfl, rfl, fun _ => drained_drain s⟩

theorem keeps_linked {b : Bool} (v : Word) (h : AfterLoad b s u) :
    Keeps { gprs := [rt], cp0 := true, llbit := true, link := true, buffer := b } s (linked rt v pa attr u) := by
  have widened : Keeps { gprs := [rt], cp0 := true, llbit := true, link := true, buffer := b } s u :=
    { h.keeps with
      gprs := fun k _ => h.keeps.gprs k List.not_mem_nil
      cp0 := fun hw => nomatch hw
      llbit := fun hw => nomatch hw
      link := fun hw => nomatch hw
      window := fun hw => ⟨(h.keeps.window hw).1, fun hw' => nomatch hw'⟩ }
  exact keeps_advance _ _ _ (keeps_setLink attr pa rfl rfl rfl (keeps_setGpr_of v (List.mem_singleton_self rt) widened))

/-- A load linked in its whole effect. -/
theorem links_of {b : Bool} {v : Word} {p : State → Prop} (hx : exec i s = .next (linked rt v pa attr u))
    (h : AfterLoad b s u) (hp : rt ≠ 0#5 → (linked rt v pa attr u).gpr rt = v → p (linked rt v pa attr u)) :
    Effects i s { gprs := [rt], cp0 := true, llbit := true, link := true, buffer := b } fun t =>
      (rt = 0#5 → t.gpr rt = 0#64) ∧ (rt ≠ 0#5 → p t) ∧ t.llbit = true
        ∧ ChangesCp0 (fun c => { c with llAddr := pa.extractLsb' 4 32 }) s t
        ∧ t.link = (if attr = 2#3 then s.noLink else if s.link.addr = some pa then { s.link with armed := true }
            else { addr := some pa, armed := true, start := s.draws, fails := 0 })
        ∧ (b = true → Drained t) := by
  have gpr : (linked rt v pa attr u).gpr rt = if rt = 0#5 then 0#64 else v := by simp [linked]
  refine ⟨_, hx,
    ⟨fun h0 => gpr.trans (if_pos h0), fun h0 => hp h0 (gpr.trans (if_neg h0)), ?llbit, ?cp0, ?link, ?drained⟩,
    keeps_linked v h, stepsOn_advance_of ?pc ?next⟩
  case llbit => simp [linked]
  case cp0 =>
    have recent : u.recent = s.recent := (h.keeps.window rfl).2 rfl
    simp [ChangesCp0, linked, setLink, onCp0, h.keeps.cp0 rfl, recent]
  case link => simp [linked, setLink, State.noLink, h.keeps.link rfl, h.keeps.time.2]
  case drained => exact fun hb => by simpa [Drained, linked] using h.drained hb
  case pc => simpa using h.pc
  case next => simpa using h.next

theorem memLoad_of_translated (h : Loads s va n pa) (ht : translate s.seen .load va = .ok (pa, attr)) :
    memLoad s va n = .ok { count := n, pa := pa, attr := attr, value := s.fieldAt pa.toNat n } := by
  obtain ⟨attr', load⟩ := memLoad_of_loads s va n pa h
  obtain ⟨_, _, ht', _⟩ := memLoad_ok s va n _ load
  have same : attr' = attr := congrArg Prod.snd (Except.ok.inj (ht'.symm.trans ht))
  rw [load, same]

theorem memLoad_of_device (h : AsksDevice s .load va n pa) (hb : s.pins.dataBusError = false) :
    memLoad s va n = .ok
      { count := n, pa := pa, attr := 2#3, value := BitVec.ofNat 64 ((s.free (.device false)).toNat % 256 ^ n) } := by
  simp [memLoad, requireAligned_ok _ _ _ h.aligned, h.translated, physRead_device s pa n h.answers.1 h.answers.2 hb]

/-- How a load linked extends what it loads. -/
def linkedExt (n : Nat) : Word → Word := if n = 4 then sextOf 32 else id

theorem exec_loadLinked {base : Reg} {offset : BitVec 16}
    (h : (i = .ll base rt offset ∧ n = 4) ∨ (i = .lld base rt offset ∧ n = 8 ∧ Enabled64 s.seen)) :
    (n = 4 ∨ n = 8) ∧ exec i s = finish s (loadLinked n (linkedExt n) rt (s.ea base offset) s) := by
  rcases h with ⟨rfl, rfl⟩ | ⟨rfl, rfl, h64⟩
  · exact ⟨.inl rfl, rfl⟩
  · exact ⟨.inr rfl, finish_after_gate (require64_enabled s h64)⟩

theorem linkedExt_value {m : Nat} : linkedExt n (BitVec.ofNat 64 m) =
    if n = 4 then (BitVec.ofNat 32 m).signExtend 64 else BitVec.ofNat 64 m := by
  unfold linkedExt
  split
  · rw [sextOf, BitVec.setWidth_ofNat_of_le (by decide)]
  · rfl

theorem holdsWord_linkedExt {v : Word} (h : n = 4) : HoldsWord (linkedExt n v) := by
  rw [linkedExt, if_pos h, HoldsWord, sextOf, BitVec.toInt_signExtend_of_le (by decide)]
  exact ⟨BitVec.le_toInt _, BitVec.toInt_lt⟩

/-! ### Store conditional (40_load_store R285, R286) -/

/-- The state after a store conditional that has made its store, leaving t. -/
def scStored (rt : Reg) (t : State) : State := advance (setGpr rt 1#64 (endLink t))

/-- The state after one that fails. -/
def scFailed (rt : Reg) (attr : BitVec 3) (pa : PAddr) (s : State) : State :=
  advance (setGpr rt 0#64 (failLink (s.fairFor attr pa) s))

theorem storeConditional_of (ha : va.toNat % n = 0) (ht : translate s.seen .store va = .ok (pa, attr)) :
    storeConditional n rt va s = if s.llbit && s.scSucceeds attr pa then
      (do let t ← physWrite s attr pa n (s.gpr rt); .ok (scStored rt t)) else .ok (scFailed rt attr pa s) := by
  rw [storeConditional, requireAligned_ok _ _ _ ha, ht]
  rfl

/-- The loop after a failure: counted where it is covered. -/
theorem failLink_link (attr : BitVec 3) (pa : PAddr) (s : State) :
    (Covered s attr pa → (failLink (s.fairFor attr pa) s).link
        = { s.link with armed := false, fails := s.link.fails + 1 })
      ∧ (¬Covered s attr pa → (failLink (s.fairFor attr pa) s).link = s.linkBroken) := by
  rw [← fairFor_iff]
  constructor
  · intro hc
    rw [hc]
    rfl
  · intro hc
    rw [Bool.not_eq_true] at hc
    rw [hc]
    rfl

theorem keeps_failLink (fair : Bool) (s : State) : Keeps { link := true } s (failLink fair s) := by
  cases fair with
  | true => exact { keeps_refl { link := true } s with link := fun hw => nomatch hw }
  | false => exact keeps_breakLink {} s s (keeps_refl {} s)

theorem failsStore_of (hx : exec i s = .next (scFailed rt attr pa s)) : FailsStore i s rt attr pa := by
  obtain ⟨counted, broken⟩ := failLink_link attr pa s
  have link : (scFailed rt attr pa s).link = (failLink (s.fairFor attr pa) s).link := by simp [scFailed]
  refine ⟨_, hx, ⟨by simp [scFailed], fun hc => link.trans (counted hc), fun hc => link.trans (broken hc)⟩,
    keeps_advance _ _ _ (keeps_setGpr_of _ (List.mem_singleton_self rt) (keeps_widen rfl (keeps_failLink _ s))),
    stepsOn_advance_of (by simp) (by simp)⟩

theorem succeedsStore_of {p : State → Prop} (hx : exec i s = .next (scStored rt t)) (hg : w.gprs = [])
    (hk : Keeps w s t) (hpc : t.pc = s.pc) (hn : t.next = s.next) (hp : p (scStored rt t)) :
    SucceedsStore i s rt w p := by
  have ended : Keeps { w with gprs := [rt], link := true } s (endLink t) :=
    { keeps_widen (rt := rt) hg hk with link := fun hw => nomatch hw }
  refine ⟨_, hx, ⟨by simp [scStored], ?_, hp⟩,
    keeps_advance _ _ _ (keeps_setGpr_of _ (List.mem_singleton_self rt) ended),
    stepsOn_advance_of (by simpa using hpc) (by simpa using hn)⟩
  simp [scStored, endLink, State.noLink, hk.time.2]

/-- A store conditional that passes its checks, by whether it goes on with its store. -/
theorem storesOrFails_of {goesOn : Prop} {t : State}
    (hx : exec i s = if s.llbit && s.scSucceeds attr pa then .next (scStored rt t) else .next (scFailed rt attr pa s))
    (hgo : exec i s = .next (scStored rt t) → goesOn) : StoresOrFails i s rt attr pa goesOn := by
  refine ⟨?either, fun hb => ?cleared, fun hc hmax => ?bound⟩
  case either =>
    by_cases h : (s.llbit && s.scSucceeds attr pa) = true
    · exact .inr ⟨(Bool.and_eq_true_iff.1 h).1, hgo (hx.trans (if_pos h))⟩
    · exact .inl (failsStore_of (hx.trans (if_neg h)))
  case cleared => exact failsStore_of (hx.trans (if_neg (by simp [hb])))
  case bound =>
    have fair := (fairFor_iff s attr pa).2 hc
    exact hgo (hx.trans (if_pos (by simp [State.scSucceeds, hc.1, fair, hmax])))

theorem exec_storeConditional {base : Reg} {offset : BitVec 16}
    (h : i = .sc base rt offset ∧ n = 4 ∨ i = .scd base rt offset ∧ n = 8 ∧ Enabled64 s.seen) :
    exec i s = finish s (storeConditional n rt (s.ea base offset) s) := by
  rcases h with ⟨rfl, rfl⟩ | ⟨rfl, rfl, h64⟩
  · rfl
  · exact finish_after_gate (require64_enabled s h64)

theorem finish_storeConditional (ha : va.toNat % n = 0) (ht : translate s.seen .store va = .ok (pa, attr))
    (hw : physWrite s attr pa n (s.gpr rt) = .ok t) : finish s (storeConditional n rt va s) =
      if s.llbit && s.scSucceeds attr pa then .next (scStored rt t) else .next (scFailed rt attr pa s) := by
  rw [storeConditional_of ha ht, hw]
  split <;> rfl

theorem finish_storeConditional_cleared (hb : s.llbit = false) (ha : va.toNat % n = 0)
    (ht : translate s.seen .store va = .ok (pa, attr)) :
    finish s (storeConditional n rt va s) = .next (scFailed rt attr pa s) := by
  rw [storeConditional_of ha ht, if_neg (by simp [hb])]
  rfl

/-! What the end of a store conditional leaves of the record and of memory -/

theorem oldBytes_scStored (c : BitVec 3) (a : Nat) : (scStored rt t).oldBytes c a = t.oldBytes c a := by
  simp [State.oldBytes, State.inFlight, scStored]

theorem records_scStored (h : Records s t attr pa.toNat n) : Records s (scStored rt t) attr pa.toNat n where
  cached := by simpa only [oldBytes_scStored] using h.cached
  held := by simpa [scStored] using h.held
  uncached := by simpa only [oldBytes_scStored] using h.uncached
  kept := by simpa only [oldBytes_scStored] using h.kept
  others := by simpa only [oldBytes_scStored] using h.others
  back := by simpa [scStored] using h.back
  through := by simpa [scStored, Unseen] using h.through

theorem posts_scStored (h : Posts s t pa.toNat n) : Posts s (scStored rt t) pa.toNat n := by
  simpa [Posts, Unseen, scStored] using h

theorem valueAt_scStored (a m : Nat) : (scStored rt t).valueAt a m = t.valueAt a m := by
  simp [State.valueAt, State.lane, State.bigEndianCpu, State.bigEndianMem, State.reverseEndian, scStored]

/-! ### The end of the loop (40_load_store R285; log 21) -/

/-- A load, a store or an exception leaves the loop ended that it comes into. -/
def Breaks (s t : State) : Prop := t.link = s.linkBroken

theorem breaks_takeException (e : Exc) (s : State) : Breaks s (takeException e s) := by
  cases e <;> rfl

theorem breaks_finish {r : Except Stop State} (h : Yields (Breaks s) r) : Leads (Breaks s) (finish s r) := by
  intro t ht
  rcases (finish_next s t r).1 ht with hok | ⟨e, -, rfl⟩
  · exact h t hok
  · exact breaks_takeException e s

theorem breaks_accessed (hl : t.link = s.link) (hd : t.draws = s.draws) : Yields (Breaks s) (.ok (accessed t)) :=
  yields_ok (link_accessed s t hl hd)

theorem breaks_loadGpr (m : Nat) (ext : Word → Word) : Yields (Breaks s) (loadGpr m ext rt va s) :=
  yields_after fun _ => breaks_accessed (by simp) (by simp)

theorem written_kept {v : Word} (h : Written s attr pa n v t) : t.link = s.link ∧ t.draws = s.draws := by
  cases h with
  | dropped => exact ⟨rfl, rfl⟩
  | ram => exact ⟨setField_link .., setField_draws ..⟩
  | device => exact ⟨rfl, rfl⟩

theorem breaks_storeBytes (m : Nat) (v : Word) : Yields (Breaks s) (storeBytes m v va s) := yields_bind fun t ht =>
  have ⟨_, _, _, _, hw⟩ := memStore_ok s t va m v ht
  have ⟨hl, hd⟩ := written_kept hw
  breaks_accessed hl hd

theorem breaks_storePart (left : Bool) (m : Nat) (v : Nat → Word) :
    Yields (Breaks s) (do let t ← partStore s left va m v; .ok (accessed t)) := yields_bind fun t ht =>
  have ⟨_, _, _, hw⟩ := partStore_ok s t left va m v ht
  have ⟨hl, hd⟩ := written_kept hw
  breaks_accessed hl hd

/-- Every load and store but LL and SC and the indexed ones, at base + offset. -/
theorem breaks_access (base rt : Reg) (offset : BitVec 16) (s : State) :
    ∀ i ∈ [Instr.lb base rt offset, .lbu base rt offset, .lh base rt offset, .lhu base rt offset, .lw base rt offset,
      .lwu base rt offset, .ld base rt offset, .lwl base rt offset, .lwr base rt offset, .ldl base rt offset,
      .ldr base rt offset, .sb base rt offset, .sh base rt offset, .sw base rt offset, .sd base rt offset,
      .swl base rt offset, .swr base rt offset, .sdl base rt offset, .sdr base rt offset, .lwc1 base rt offset,
      .ldc1 base rt offset, .swc1 base rt offset, .sdc1 base rt offset], Leads (Breaks s) (exec i s) := by
  simp only [List.forall_mem_cons, List.not_mem_nil, IsEmpty.forall_iff, implies_true, and_true]
  have load (m ext) := breaks_finish (breaks_loadGpr (s := s) (rt := rt) (va := s.ea base offset) m ext)
  have loadGated {g : Except Stop Unit} (m ext) :=
    breaks_finish (yields_after (x := g) fun _ => breaks_loadGpr (s := s) (rt := rt) (va := s.ea base offset) m ext)
  have part {x : Except Stop Loaded} {f : Loaded → Word} :
      Yields (Breaks s) (x >>= fun r => .ok (accessed (setGpr rt (f r) (loaded r.pa s)))) :=
    yields_after fun r => breaks_accessed (by simp) (by simp)
  have store (m v) := breaks_finish (breaks_storeBytes (s := s) (va := s.ea base offset) m v)
  have storeGated {g : Except Stop Unit} (m v) :=
    breaks_finish (yields_after (x := g) fun _ => breaks_storeBytes (s := s) (va := s.ea base offset) m v)
  exact ⟨load _ _, load _ _, load _ _, load _ _, load _ _, loadGated _ _, loadGated _ _,
    breaks_finish part, breaks_finish part, breaks_finish (yields_after fun _ => part),
    breaks_finish (yields_after fun _ => part), store _ _, store _ _, store _ _, storeGated _ _,
    breaks_finish (breaks_storePart _ _ _), breaks_finish (breaks_storePart _ _ _),
    breaks_finish (yields_after fun _ => breaks_storePart _ _ _),
    breaks_finish (yields_after fun _ => breaks_storePart _ _ _),
    breaks_finish (yields_after fun _ => yields_after fun _ => breaks_accessed (by simp) (by simp)),
    breaks_finish (yields_after fun _ => yields_after fun _ => yields_after fun _ =>
      breaks_accessed (by simp) (by simp)),
    storeGated _ _, breaks_finish (yields_after fun _ => yields_after fun _ => breaks_storeBytes _ _)⟩

end

/-- Settles O48: a load linked is a load that sets the link; a store conditional is its store, or the failure, by
`storesOrFails_of`; and every other access and exception ends the loop. -/
theorem linkedAccesses : Obligations.LinkedAccesses := by
  refine ⟨fun s base rt offset pa attr i n hi => ?loads, fun s base rt offset pa attr n i hi => ?stores,
    fun s => ⟨fun e => breaks_takeException e s, fun base rt offset t i hi => breaks_access base rt offset s i hi t⟩⟩
  case loads =>
    obtain ⟨hn, hexec⟩ := exec_loadLinked hi
    refine ⟨fun h ht => ?memory, ?device⟩
    case memory =>
      have hx := hexec.trans (congrArg (finish s) (loadLinked_of (memLoad_of_translated h ht)))
      refine links_of hx (afterLoad_memory h.answers) fun _ value => value.trans ?_
      rcases hn with rfl | rfl
      · rw [fieldAt_eq s _ (by decide), linkedExt_value, if_pos rfl, if_pos rfl]
      · rw [fieldAt_eq s _ (by decide), linkedExt_value, if_neg (by decide), if_neg (by decide)]
    case device =>
      rintro h rfl hb
      have hx := hexec.trans (congrArg (finish s) (loadLinked_of (memLoad_of_device h hb)))
      refine links_of hx (afterLoad_device h.answers.1) fun _ value h4 => ?_
      rw [value]
      exact holdsWord_linkedExt h4
  case stores =>
    intro va
    have hexec := exec_storeConditional hi
    refine ⟨fun h => ?ram, fun h => ?device, fun h ht => ?dropped, fun hb ha ht => ?cleared⟩
    case ram =>
      refine storesOrFails_of (hexec.trans (finish_storeConditional h.aligned h.translated.1
        (physWrite_ram s attr pa n _ h.translated.2 h.answers.1 h.answers.2))) fun hx =>
        succeedsStore_of hx rfl (keeps_setField ..) (by simp) (by simp) ⟨?_, ?_⟩
      · rw [valueAt_scStored, setField_valueAt]
      · exact records_scStored (setField_records ..)
    case device =>
      exact storesOrFails_of (hexec.trans (finish_storeConditional h.aligned h.translated
        (physWrite_device s pa n _ h.answers.1 h.answers.2))) fun hx =>
        succeedsStore_of hx rfl (keeps_deviceStore ..) rfl rfl (posts_scStored (posts_deviceStore ..))
    case dropped =>
      obtain ⟨attr', ht', hready⟩ := h.translated
      have same : attr' = attr := congrArg Prod.snd (Except.ok.inj (ht'.symm.trans ht))
      exact storesOrFails_of (hexec.trans (finish_storeConditional h.aligned ht
        (physWrite_dropped s attr pa n _ (same ▸ hready) h.answers.1 h.answers.2))) fun hx =>
        succeedsStore_of hx rfl (keeps_refl _ s) rfl rfl trivial
    case cleared => exact failsStore_of (hexec.trans (finish_storeConditional_cleared hb ha ht))

end Sys2Proof.Proofs

/-! PROOFS. Memory: a canonical memory is the only one that reads as it does. -/

namespace Sys2Proof.Proofs

open Sys2Proof.Machine

set_option Elab.async false

/-! ### The canonical form (20_memory R148) -/

section
variable {m m' : List Host.Cell} {c d : Host.Cell} {a : Nat}

theorem memRead_cons_same (c : Host.Cell) (m : List Host.Cell) : memRead (c :: m) c.1 = c.2 := if_pos rfl

theorem memRead_cons_other (h : a ≠ c.1) : memRead (c :: m) a = memRead m a := if_neg (Ne.symm h)

theorem memRead_below (h : ∀ d ∈ m, a < d.1) : memRead m a = unlistedByte := by
  induction m with
  | nil => rfl
  | cons d m ih =>
    obtain ⟨hd, hm⟩ := List.forall_mem_cons.1 h
    rw [memRead_cons_other hd.ne, ih hm]

/-- The least address of a canonical memory is the least at which it does not read as unlisted. -/
theorem wf_head_le (hm : Memory.wf (c :: m) = true) (hm' : Memory.wf (d :: m') = true)
    (h : ∀ a, memRead (c :: m) a = memRead (d :: m') a) : d.1 ≤ c.1 := by
  obtain ⟨-, listed, -⟩ := (wf_cons c m).1 hm
  obtain ⟨rising, -, -⟩ := (wf_cons d m').1 hm'
  by_contra hlt
  have below : ∀ e ∈ d :: m', c.1 < e.1 :=
    List.forall_mem_cons.2 ⟨Nat.lt_of_not_le hlt, fun e he => (Nat.lt_of_not_le hlt).trans (rising e he)⟩
  exact listed ((memRead_cons_same c m).symm.trans ((h c.1).trans (memRead_below below)))

theorem wf_nil_of_reads_unlisted (hm : Memory.wf m = true) (h : ∀ a, memRead m a = unlistedByte) : m = [] := by
  cases m with
  | nil => rfl
  | cons c m =>
    obtain ⟨-, listed, -⟩ := (wf_cons c m).1 hm
    exact absurd ((memRead_cons_same c m).symm.trans (h c.1)) listed

theorem wf_ext (hm : Memory.wf m = true) (hm' : Memory.wf m' = true) (h : ∀ a, memRead m a = memRead m' a) :
    m = m' := by
  induction m generalizing m' with
  | nil => exact (wf_nil_of_reads_unlisted hm' fun a => (h a).symm).symm
  | cons c m ih =>
    cases m' with
    | nil => exact wf_nil_of_reads_unlisted hm h
    | cons d m' =>
      obtain ⟨rising, -, tail⟩ := (wf_cons c m).1 hm
      obtain ⟨rising', -, tail'⟩ := (wf_cons d m').1 hm'
      have address : c.1 = d.1 := le_antisymm (wf_head_le hm' hm fun a => (h a).symm) (wf_head_le hm hm' h)
      have byte : c.2 = d.2 := by
        rw [← memRead_cons_same c m, h c.1, address, memRead_cons_same]
      have rest (a : Nat) : memRead m a = memRead m' a := by
        by_cases ha : a = c.1
        · rw [ha, memRead_below rising, address, memRead_below rising']
        · rw [← memRead_cons_other ha, h a, memRead_cons_other (address ▸ ha)]
      rw [Prod.ext address byte, ih tail tail' rest]

end

/-- Settles O50: a stored field reads back by its digits, and a canonical memory is determined from its least address
on. -/
theorem memoryLaws : Obligations.MemoryLaws :=
  ⟨fun _ attr pa n v h => ⟨(fieldAt_toNat _ pa h).trans (setField_valueAt attr pa n v),
    fun _ hb => memRead_setField_outside hb⟩, fun _ _ hm hm' h => wf_ext hm hm' h⟩

end Sys2Proof.Proofs

/-! PROOFS. System calls and no-operations, and what taking an exception leaves. -/

namespace Sys2Proof.Proofs

open Sys2Proof.Machine

set_option Elab.async false

/-! ### SYSCALL, BREAK, SYNC, PREF, PREFX (45_trap_system R421 to R424, 40_load_store R295, R296) -/

theorem changesNothing_of {i : Instr} {s : State} (hx : exec i s = .next (advance s)) : ChangesNothing i s :=
  ⟨_, hx, keeps_advance _ _ _ (keeps_refl _ s), stepsOn_advance s⟩

/-- Settles O25: SYSCALL and BREAK are their exceptions, and the others advance once their gates are passed. -/
theorem systemCallsAndNoOperations : Obligations.SystemCallsAndNoOperations := by
  intro s code base index stype hint offset
  refine ⟨rfl, rfl, ?sync, fun hcu3 => ?prefetches⟩
  case sync =>
    have seen : Keeps { buffer := true } s { s with deviceStores := [] } :=
      { keeps_refl { buffer := true } s with buffer := fun hw => nomatch hw }
    exact effects_advance rfl seen ⟨advance_writeBuffer _, advance_deviceStores _⟩
  case prefetches =>
    have enabled := requireMips4_enabled s hcu3
    exact ⟨changesNothing_of (finish_of_ok enabled), fun hcu1 =>
      changesNothing_of (finish_of_ok_ok (requireUnit_usable 1#2 s hcu1) enabled)⟩

/-! ### Parts of a word -/

theorem extract_toNat {n : Nat} (v : BitVec n) (lo m : Nat) :
    (v.extractLsb' lo m).toNat = v.toNat / 2 ^ lo % 2 ^ m := by
  rw [BitVec.extractLsb'_toNat, Nat.shiftRight_eq_div_pow]

theorem extract_eq_iff {n lo m : Nat} (v : BitVec n) (x : BitVec m) :
    v.extractLsb' lo m = x ↔ v.toNat / 2 ^ lo % 2 ^ m = x.toNat := by
  rw [← BitVec.toNat_inj, extract_toNat]

section
variable {n m lo j k : Nat} {w : BitVec n} {v : BitVec m}

theorem extract_putField_same (h : lo + m ≤ n) : (putField w lo v).extractLsb' lo m = v := by
  apply BitVec.eq_of_getLsbD_eq
  intro i hi
  rw [BitVec.getLsbD_extractLsb', getLsbD_putField w lo v (by omega), if_pos (by omega), Nat.add_sub_cancel_left]
  simp [hi]

theorem extract_putField_other (hb : j + k ≤ n) (h : j + k ≤ lo ∨ lo + m ≤ j) :
    (putField w lo v).extractLsb' j k = w.extractLsb' j k := by
  apply BitVec.eq_of_getLsbD_eq
  intro i hi
  rw [BitVec.getLsbD_extractLsb', BitVec.getLsbD_extractLsb', getLsbD_putField w lo v (by omega),
    if_neg (by omega)]

end

/-! ### General exception entry (60_exceptions R620 to R622) -/

theorem takeException_general {e : Exc} (s : State) (h : ∀ f, e ≠ .cacheError f) :
    takeException e s = takeGeneral e s := by
  cases e with
  | cacheError f => exact absurd rfl (h f)
  | _ => rfl

/-- The region of an address by its bits 63:62, and sseg by its bits 63:29 (20_memory R170, R177). -/
theorem xtlb_eq (s : State) (va : Word) : s.xtlb va =
    if va.toNat < 2 ^ 62 then s.ux
    else if va.toNat < 2 ^ 63 ∨ (0xFFFFFFFFC0000000 ≤ va.toNat ∧ va.toNat ≤ 0xFFFFFFFFDFFFFFFF) then s.sx
    else s.kx := by
  have bound := va.isLt
  have user : va.extractLsb' 62 2 = 0#2 ↔ va.toNat < 2 ^ 62 := by
    rw [extract_eq_iff]; simp only [BitVec.toNat_ofNat]; omega
  have supervisor : va.extractLsb' 62 2 = 1#2 ↔ 2 ^ 62 ≤ va.toNat ∧ va.toNat < 2 ^ 63 := by
    rw [extract_eq_iff]; simp only [BitVec.toNat_ofNat]; omega
  have sseg : va.extractLsb' 29 35 = 0x7FFFFFFFE#35 ↔
      0xFFFFFFFFC0000000 ≤ va.toNat ∧ va.toNat ≤ 0xFFFFFFFFDFFFFFFF := by
    rw [extract_eq_iff]; simp only [BitVec.toNat_ofNat]; omega
  simp only [State.xtlb, user, supervisor, sseg]
  by_cases low : va.toNat < 2 ^ 62
  · simp only [low, if_true]
  · simp only [low, if_false, Nat.le_of_not_lt low, true_and, ite_or]

section
variable (e : Exc) (s : State) (c : Cp0)

theorem enterGeneral_causeCE : (enterGeneral e s c).cause.extractLsb' 28 2 = causeCE e s := by
  unfold enterGeneral
  dsimp only
  iterate 6 rw [BitVec.extractLsb'_append_eq_of_le (by decide)]
  rw [BitVec.extractLsb'_append_eq_right]

theorem enterGeneral_causeBD : (enterGeneral e s c).cause.getLsbD 31 = causeBD s := by
  unfold enterGeneral
  dsimp only
  iterate 8 rw [BitVec.getLsbD_append]
  simp

theorem enterGeneral_software : (enterGeneral e s c).cause.extractLsb' 8 2 = c.cause.extractLsb' 8 2 := by
  unfold enterGeneral
  dsimp only
  iterate 3 rw [BitVec.extractLsb'_append_eq_of_le (by decide)]
  rw [BitVec.extractLsb'_append_eq_right]

theorem enterGeneral_epc : (enterGeneral e s c).epc = if s.exl then c.epc else s.restartPc := rfl

theorem takeGeneral_ip : (takeGeneral e s).ip = s.ip := by
  rw [State.ip, takeGeneral_cp0, enterGeneral_software]
  rfl

/-- Every exception of an address keeps all but the address registers, and every other one all CP0 registers but
Status, Cause and EPC. -/
theorem enterGeneral_kept : enterGeneral e s c =
    { c with
      status := (enterGeneral e s c).status, cause := (enterGeneral e s c).cause, epc := (enterGeneral e s c).epc,
      badVAddr := (enterGeneral e s c).badVAddr, context := (enterGeneral e s c).context,
      xcontext := (enterGeneral e s c).xcontext, entryHi := (enterGeneral e s c).entryHi,
      entryLo0 := (enterGeneral e s c).entryLo0, entryLo1 := (enterGeneral e s c).entryLo1 } := by
  cases e <;> rfl

theorem mem_takeGeneral_recent (o : OldSystem) :
    o ∈ (takeGeneral e s).recent ↔ ∃ p ∈ s.recent, { p with cp0 := enterGeneral e s p.cp0 } = o := List.mem_map

theorem keeps_takeGeneral : Keeps { cp0 := true, link := true } s (takeGeneral e s) :=
  { keeps_refl { cp0 := true, link := true } s with
    cp0 := fun hw => nomatch hw
    link := fun hw => nomatch hw
    window := fun _ => ⟨sameWindow_onCp0 (enterGeneral e s) s, fun hw => nomatch hw⟩ }

end

/-- Settles O37: the entry by its fields, each read off `takeGeneral` and `enterGeneral`. -/
theorem generalExceptionEntry : Obligations.GeneralExceptionEntry := by
  refine ⟨xtlb_eq, fun s e he => ?_⟩
  rw [takeException_general s he]
  refine ⟨rfl, rfl, ?code, ?unit, fun hexl => if_pos hexl, fun hexl => ⟨if_neg (by simp [hexl]), ?bd⟩,
    takeGeneral_ip e s, ?vector, enterGeneral_kept e s s.cp0, ?address, fun o ho => ?recent, rfl,
    keeps_takeGeneral e s⟩
  case code =>
    rw [takeGeneral_cp0, enterGeneral_excCode]
    cases e with
    | cacheError f => exact absurd rfl (he f)
    | _ => rfl
  case unit =>
    rintro u rfl
    exact enterGeneral_causeCE ..
  case bd => exact (enterGeneral_causeBD ..).trans (if_neg (by simp [hexl]))
  case vector =>
    rw [takeGeneral_pc]
    cases e <;> rfl
  case address => cases e <;> trivial
  case recent =>
    obtain ⟨p, hp, rfl⟩ := (mem_takeGeneral_recent e s o).1 ho
    refine ⟨p, hp, rfl, rfl, ?_⟩
    rw [takeGeneral_cp0, enterGeneral_epc, enterGeneral_epc]
    split <;> rfl

/-! ### The address registers (20_memory R185) -/

section
variable (va : Word) (s : State) (c : Cp0)

theorem recordTlb_context : (recordTlb va s c).context = putField c.context 4 (va.extractLsb' 13 19) := rfl

theorem recordTlb_xcontext : (recordTlb va s c).xcontext
    = putField (putField c.xcontext 4 (va.extractLsb' 13 27)) 31 (va.extractLsb' 62 2) := rfl

theorem recordTlb_entryHi : (recordTlb va s c).entryHi
    = putField (putField c.entryHi 13 (va.extractLsb' 13 27)) 62 (va.extractLsb' 62 2) := rfl

end

/-- A TLB exception records its address. -/
theorem takeException_tlb_records {s : State} {va : Word} {e : Exc}
    (h : e = .tlbModified va ∨ ∃ st, e = .tlbRefill st va ∨ e = .tlbInvalid st va) :
    (takeException e s).cp0.badVAddr = va
      ∧ (takeException e s).cp0.context = (recordTlb va s s.cp0).context
      ∧ (takeException e s).cp0.xcontext = (recordTlb va s s.cp0).xcontext
      ∧ (takeException e s).cp0.entryHi = (recordTlb va s s.cp0).entryHi := by
  rcases h with rfl | ⟨st, rfl | rfl⟩ <;> exact ⟨rfl, rfl, rfl, rfl⟩

/-- Settles O38: each register is a `putField` of the old one, its other fields kept. -/
theorem tlbExceptionRecords : Obligations.TlbExceptionRecords := by
  refine ⟨fun _ _ _ => rfl, fun s va e he => ?_⟩
  obtain ⟨badVAddr, context, xcontext, entryHi⟩ := takeException_tlb_records (s := s) he
  dsimp only
  rw [badVAddr, context, xcontext, entryHi, recordTlb_context, recordTlb_xcontext, recordTlb_entryHi]
  refine ⟨rfl, extract_putField_same (by decide), ?_, extract_putField_same (by decide), ?_,
    extract_putField_same (by decide), ?_, extract_putField_other (by decide) (by decide), ?_⟩
  · rw [extract_putField_other (by decide) (by decide), extract_putField_same (by decide)]
  · rw [extract_putField_other (by decide) (by decide), extract_putField_same (by decide)]
  · rw [extract_putField_other (by decide) (by decide), extract_putField_other (by decide) (by decide)]
  · rw [extract_putField_other (by decide) (by decide), extract_putField_other (by decide) (by decide)]

end Sys2Proof.Proofs

/-! PROOFS. The segments of the address space in each mode. -/

namespace Sys2Proof.Proofs

open Sys2Proof.Machine

set_option Elab.async false

section
variable {s : State} {acc : Access} {va : Word}

/-! ### A translation by its segment (20_memory R170, R180) -/

theorem translate_mapped (h : s.segment va = .ok .mapped) :
    translate s acc va = (translateMapped s acc va >>= checkAttr) := by
  rw [Machine.translate, h]
  rfl

theorem translate_denied (h : s.segment va = .ok .addressError) :
    translate s acc va = .error (.exc (.addressError (acc == .store) va)) := by
  rw [Machine.translate, h]
  rfl

theorem translate_unmapped {pa : PAddr} {attr : BitVec 3} (h : s.segment va = .ok (.unmapped pa attr)) :
    translate s acc va = checkAttr (pa, attr) := by
  rw [Machine.translate, h]
  rfl

theorem checkAttr_ok {pa : PAddr} {attr : BitVec 3} (h : attr.toNat < 4) : checkAttr (pa, attr) = .ok (pa, attr) :=
  if_pos h

theorem checkAttr_reserved {pa : PAddr} {attr : BitVec 3} (h : 4 ≤ attr.toNat) :
    checkAttr (pa, attr) = .error (.fault .reservedCacheAttribute) := if_neg (Nat.not_lt.2 h)

theorem segment_kernel (h : KernelMode s) : s.segment va = .ok (segmentKernel s.kx s.erl s.k0 va) := by
  rw [State.segment, mode_kernel s h]
  rfl

theorem segment_supervisor (h : BelowKernel s) (hk : s.ksu = 1#2) :
    s.segment va = .ok (segmentSupervisor s.sx va) := by
  rw [State.segment, mode_supervisor s h hk]
  rfl

theorem segment_user (h : BelowKernel s) (hk : s.ksu = 2#2) : s.segment va = .ok (segmentUser s.ux va) := by
  rw [State.segment, mode_user s h hk]
  rfl

end

/-! ### The segments of Kernel mode (20_memory R171, R175, R176) -/

/-- xuseg and xksseg, and xsuseg and xsseg below Kernel mode. -/
abbrev Wide (va : Word) : Prop := va.toNat < 2 ^ 40 ∨ (2 ^ 62 ≤ va.toNat ∧ va.toNat < 2 ^ 62 + 2 ^ 40)

/-- xkseg. -/
abbrev InXkseg (va : Word) : Prop := 0xC000000000000000 ≤ va.toNat ∧ va.toNat ≤ 0xC00000FF7FFFFFFF

/-- xkphys. -/
abbrev InXkphys (va : Word) : Prop := 2 ^ 63 ≤ va.toNat ∧ va.toNat < 2 ^ 63 + 2 ^ 62

section
variable {kx erl : Bool} {k0 : BitVec 3} {va : Word}

theorem inXkphys_iff : va.extractLsb' 62 2 = 2#2 ↔ InXkphys va := by
  have bound := va.isLt
  rw [extract_eq_iff, InXkphys]
  simp only [BitVec.toNat_ofNat]
  omega

theorem segmentKernel_low (h : va.toNat < 2 ^ 31) :
    segmentKernel kx erl k0 va = if erl then .unmapped (va.extractLsb' 0 36) 2#3 else .mapped := if_pos h

theorem segmentKernel_compatible (h : 0xFFFFFFFF80000000 ≤ va.toNat) : segmentKernel kx erl k0 va =
    if va.toNat ≤ 0xFFFFFFFF9FFFFFFF then .unmapped ((va.extractLsb' 0 29).setWidth 36) k0
    else if va.toNat ≤ 0xFFFFFFFFBFFFFFFF then .unmapped ((va.extractLsb' 0 29).setWidth 36) 2#3
    else .mapped := by
  rw [segmentKernel, if_neg (by omega), if_pos h]

theorem segmentKernel_32 (hl : 2 ^ 31 ≤ va.toNat) (hh : va.toNat < 0xFFFFFFFF80000000) :
    segmentKernel false erl k0 va = .addressError := by
  rw [segmentKernel, if_neg (by omega), if_neg (by omega)]
  rfl

variable (hl : 2 ^ 31 ≤ va.toNat) (hh : va.toNat < 0xFFFFFFFF80000000)
include hl hh

theorem segmentKernel_wide (h : Wide va) : segmentKernel true erl k0 va = .mapped := by
  rw [segmentKernel, if_neg (by omega), if_neg (by omega), if_pos rfl, if_pos h]

theorem segmentKernel_beyond (h : ¬Wide va) : segmentKernel true erl k0 va =
    if va.extractLsb' 62 2 = 2#2 then segmentXkphys va
    else if 0xC000000000000000 ≤ va.toNat ∧ va.toNat ≤ 0xC00000FF7FFFFFFF then .mapped else .addressError := by
  rw [segmentKernel, if_neg (by omega), if_neg (by omega), if_pos rfl, if_neg h]

end

section
variable {s : State} {acc : Access} {va : Word}

theorem kseg_toNat (va : Word) : ((va.extractLsb' 0 29).setWidth 36).toNat = va.toNat % 2 ^ 29 := by
  rw [BitVec.toNat_setWidth_of_le (by decide), extract_toNat, pow_zero, Nat.div_one]

theorem unmapped_toNat (va : Word) : (va.extractLsb' 0 36).toNat = va.toNat % 2 ^ 36 := by
  rw [extract_toNat, pow_zero, Nat.div_one]

theorem translate_kseg0 (hk : KernelMode s) (hl : 0xFFFFFFFF80000000 ≤ va.toNat) (hh : va.toNat ≤ 0xFFFFFFFF9FFFFFFF)
    (h0 : s.k0.toNat < 4) :
    ∃ pa : PAddr, translate s acc va = .ok (pa, s.k0) ∧ pa.toNat = va.toNat - 0xFFFFFFFF80000000 := by
  have seg : s.segment va = .ok (.unmapped ((va.extractLsb' 0 29).setWidth 36) s.k0) := by
    rw [segment_kernel hk, segmentKernel_compatible hl, if_pos hh]
  exact ⟨_, (translate_unmapped seg).trans (checkAttr_ok h0), (kseg_toNat va).trans (by omega)⟩

theorem translate_kseg1 (hk : KernelMode s) (hl : 0xFFFFFFFFA0000000 ≤ va.toNat)
    (hh : va.toNat ≤ 0xFFFFFFFFBFFFFFFF) :
    ∃ pa : PAddr, translate s acc va = .ok (pa, 2#3) ∧ pa.toNat = va.toNat - 0xFFFFFFFFA0000000 := by
  have seg : s.segment va = .ok (.unmapped ((va.extractLsb' 0 29).setWidth 36) 2#3) := by
    rw [segment_kernel hk, segmentKernel_compatible (by omega), if_neg (by omega), if_pos hh]
  exact ⟨_, (translate_unmapped seg).trans (checkAttr_ok (by decide)), (kseg_toNat va).trans (by omega)⟩

theorem translate_errorLevel (he : s.erl = true) (hl : va.toNat < 2 ^ 31) :
    ∃ pa : PAddr, translate s acc va = .ok (pa, 2#3) ∧ pa.toNat = va.toNat := by
  have seg : s.segment va = .ok (.unmapped (va.extractLsb' 0 36) 2#3) := by
    rw [segment_kernel (.inr (.inl he)), segmentKernel_low hl, if_pos he]
  exact ⟨_, (translate_unmapped seg).trans (checkAttr_ok (by decide)), (unmapped_toNat va).trans (by omega)⟩

theorem segment_xkphys (hk : KernelMode s) (hx : s.kx = true) (h : InXkphys va) :
    s.segment va = .ok (segmentXkphys va) := by
  obtain ⟨hl, hh⟩ := h
  rw [segment_kernel hk, hx, segmentKernel_beyond (by omega) (by omega) (by omega),
    if_pos (inXkphys_iff.2 ⟨hl, hh⟩)]

theorem segmentXkphys_outside (h : va.toNat / 2 ^ 36 % 2 ^ 23 ≠ 0) : segmentXkphys va = .addressError :=
  if_pos fun hz => h ((extract_eq_iff va 0#23).1 hz)

theorem segmentXkphys_inside (h : va.toNat / 2 ^ 36 % 2 ^ 23 = 0) :
    segmentXkphys va = .unmapped (va.extractLsb' 0 36) (va.extractLsb' 59 3) :=
  if_neg (not_not.2 ((extract_eq_iff va 0#23).2 h))

theorem segment_kernel_mapped (hk : KernelMode s) (h : (va.toNat < 2 ^ 31 ∧ s.erl = false)
    ∨ 0xFFFFFFFFC0000000 ≤ va.toNat ∨ (s.kx = true ∧ 2 ^ 31 ≤ va.toNat ∧ (Wide va ∨ InXkseg va))) :
    s.segment va = .ok .mapped := by
  rw [segment_kernel hk]
  rcases h with ⟨hl, he⟩ | hh | ⟨hx, hl, hw | hs⟩
  · rw [segmentKernel_low hl, he]
    rfl
  · rw [segmentKernel_compatible (by omega), if_neg (by omega), if_neg (by omega)]
  · rw [hx, segmentKernel_wide hl (by omega) hw]
  · have outside : ¬InXkphys va := fun ⟨_, hh⟩ => absurd hs.1 (by omega)
    rw [hx, segmentKernel_beyond hl (by omega) (by omega),
      if_neg fun hp => outside (inXkphys_iff.1 hp), if_pos hs]

theorem segment_kernel_denied (hk : KernelMode s) (hl : 2 ^ 31 ≤ va.toNat) (hh : va.toNat < 0xFFFFFFFF80000000)
    (h : s.kx = true → ¬Wide va ∧ ¬InXkseg va ∧ ¬InXkphys va) : s.segment va = .ok .addressError := by
  rw [segment_kernel hk]
  cases hx : s.kx with
  | false => rw [segmentKernel_32 hl hh]
  | true =>
    obtain ⟨hw, hs, hp⟩ := h hx
    rw [segmentKernel_beyond hl hh hw, if_neg fun e => hp (inXkphys_iff.1 e), if_neg hs]

/-! ### The segments below Kernel mode (20_memory R170) -/

/-- sseg, and suseg or xsuseg and xsseg. -/
def InSupervisor (sx : Bool) (va : Word) : Prop :=
  (0xFFFFFFFFC0000000 ≤ va.toNat ∧ va.toNat ≤ 0xFFFFFFFFDFFFFFFF) ∨ (if sx then Wide va else va.toNat < 2 ^ 31)

theorem segmentSupervisor_mapped {sx : Bool} (h : InSupervisor sx va) : segmentSupervisor sx va = .mapped := by
  unfold segmentSupervisor
  dsimp only
  rcases h with h | h
  · exact if_pos h
  · split
    · rfl
    · cases sx with
      | true => exact if_pos h
      | false => exact if_pos h

theorem segmentSupervisor_denied {sx : Bool} (h : ¬InSupervisor sx va) : segmentSupervisor sx va = .addressError := by
  obtain ⟨hs, hu⟩ := not_or.1 h
  unfold segmentSupervisor
  dsimp only
  rw [if_neg hs]
  cases sx with
  | true => exact if_neg hu
  | false => exact if_neg hu

theorem segmentUser_eq (ux : Bool) (va : Word) : segmentUser ux va =
    if va.toNat < (if ux then 2 ^ 40 else 2 ^ 31) then .mapped else .addressError := by cases ux <;> rfl

end

/-- Settles O34: the segment of each address by its mode, and the translation that each segment has. -/
theorem segments : Obligations.Segments := by
  intro s acc va a mapped denied wide xkseg
  refine ⟨translate_kseg0, translate_kseg1, translate_errorLevel, fun hk hx hl hh => ?xkphys, fun hk => ?kernel,
    fun hb hk => ?supervisor, fun hb hk => ?user⟩
  case xkphys =>
    have seg := segment_xkphys hk hx ⟨hl, hh⟩
    refine ⟨fun h => ?_, fun h hattr => ⟨_, ?_, unmapped_toNat va⟩, fun h hattr => ?_⟩
    · exact translate_denied (seg.trans (congrArg _ (segmentXkphys_outside h)))
    · exact (translate_unmapped (seg.trans (congrArg _ (segmentXkphys_inside h)))).trans (checkAttr_ok hattr)
    · exact (translate_unmapped (seg.trans (congrArg _ (segmentXkphys_inside h)))).trans (checkAttr_reserved hattr)
  case kernel =>
    exact ⟨fun h => translate_mapped (segment_kernel_mapped hk h),
      fun hl hh h => translate_denied (segment_kernel_denied hk hl hh h)⟩
  case supervisor =>
    intro inside
    have seg := segment_supervisor (va := va) hb hk
    exact ⟨fun h => translate_mapped (seg.trans (congrArg _ (segmentSupervisor_mapped h))),
      fun h => translate_denied (seg.trans (congrArg _ (segmentSupervisor_denied h)))⟩
  case user =>
    have seg := segment_user (va := va) hb hk
    rw [segmentUser_eq] at seg
    exact ⟨fun h => translate_mapped (seg.trans (congrArg _ (if_pos h))),
      fun h => translate_denied (seg.trans (congrArg _ (if_neg (Nat.not_lt.2 h))))⟩

end Sys2Proof.Proofs

/-! PROOFS. How a load or a store completes: its end, what it keeps, and where its value comes from or goes. -/

namespace Sys2Proof.Proofs

open Sys2Proof.Machine

set_option Elab.async false

section
variable {s t u : State} {w : Touched} {p : State → Prop} {i : Instr} {b : Bool} {pa : PAddr} {va : Word}
  {attr : BitVec 3} {n c : Nat} {v : Word}

/-! ### What one change after another keeps -/

theorem keeps_trans (h : Keeps w s u) (h' : Keeps w u t) : Keeps w s t where
  gprs k hk := (h'.gprs k hk).trans (h.gprs k hk)
  fgrs k hk := (h'.fgrs k hk).trans (h.fgrs k hk)
  memory a ha := (h'.memory a ha).trans (h.memory a ha)
  hiLo hw := by
    obtain ⟨hi, lo, hiTag, loTag⟩ := h'.hiLo hw
    rw [hi, lo, hiTag, loTag]
    exact h.hiLo hw
  fcr0 := h'.fcr0.trans h.fcr0
  fcr31 hw := (h'.fcr31 hw).trans (h.fcr31 hw)
  cp0 hw := (h'.cp0 hw).trans (h.cp0 hw)
  latch hw := (h'.latch hw).trans (h.latch hw)
  hold hw := (h'.hold hw).trans (h.hold hw)
  tlb hw := (h'.tlb hw).trans (h.tlb hw)
  window hw := ⟨(h'.window hw).1.trans (h.window hw).1, fun hc => ((h'.window hw).2 hc).trans ((h.window hw).2 hc)⟩
  caches hw := (h'.caches hw).trans (h.caches hw)
  llbit hw := (h'.llbit hw).trans (h.llbit hw)
  link hw := (h'.link hw).trans (h.link hw)
  stores hw := by
    obtain ⟨stale, dirty, unwritten⟩ := h'.stores hw
    rw [stale, dirty, unwritten]
    exact h.stores hw
  buffer hw := by
    obtain ⟨buffer, devices⟩ := h'.buffer hw
    rw [buffer, devices]
    exact h.buffer hw
  time := by
    obtain ⟨fccPrev, draws⟩ := h'.time
    rw [fccPrev, draws]
    exact h.time
  board := by
    obtain ⟨physMap, ip7, hiloHazard, cp0Hazard, qnanS, qnanD, pins⟩ := h'.board
    rw [physMap, ip7, hiloHazard, cp0Hazard, qnanS, qnanD, pins]
    exact h.board

/-- Whatever else may change, what keeps all but the write buffer keeps the rest. -/
theorem keeps_of_buffer (h : Keeps { buffer := b } s t) (hb : b = true → w.buffer = true) : Keeps w s t :=
  { h with
    gprs := fun k _ => h.gprs k List.not_mem_nil
    fgrs := fun k _ => h.fgrs k List.not_mem_nil
    memory := fun a _ => h.memory a List.not_mem_nil
    hiLo := fun _ => h.hiLo rfl
    fcr31 := fun _ => h.fcr31 rfl
    cp0 := fun _ => h.cp0 rfl
    latch := fun _ => h.latch rfl
    hold := fun _ => h.hold rfl
    tlb := fun _ => h.tlb rfl
    window := fun _ => ⟨(h.window rfl).1, fun _ => (h.window rfl).2 rfl⟩
    caches := fun _ => h.caches rfl
    llbit := fun _ => h.llbit rfl
    link := fun _ => h.link rfl
    stores := fun _ => h.stores rfl
    buffer := fun hw => h.buffer (eq_false_of_ne_true fun e => absurd ((hb e).symm.trans hw) (by decide)) }

theorem keeps_with_buffer (h : Keeps w s t) : Keeps { w with buffer := true } s t :=
  { h with buffer := fun hw => nomatch hw }

/-! ### The end of a load or store (40_load_store R260, R285) -/

theorem accesses_of (hx : exec i s = .next (accessed t)) (hk : Keeps w s t) (hl : t.link = s.link)
    (hp : p (accessed t)) (hpc : t.pc = s.pc) (hn : t.next = s.next) : Accesses i s w p :=
  ⟨_, hx, ⟨hp, link_accessed s t hl hk.time.2⟩, keeps_accessed w s t hk, stepsOn_advance_of hpc hn⟩

/-- How a load completes that a device has answered, or memory. -/
def loadShape : Bool → LoadShape
  | true => AccessesDevice
  | false => Accesses

/-- A load that has left a state u beside its value, and then its value in t. -/
theorem loads_of (hu : AfterLoad b s u) (hx : exec i s = .next (accessed t)) (hk : Keeps w u t)
    (hw : w.buffer = false) (hl : t.link = u.link) (hp : p (accessed t)) (hpc : t.pc = u.pc)
    (hn : t.next = u.next) : loadShape b i s w p := by
  have link : t.link = s.link := hl.trans (hu.keeps.link rfl)
  cases b with
  | false =>
    exact accesses_of hx (keeps_trans (keeps_of_buffer hu.keeps fun hb => nomatch hb) hk) link hp
      (hpc.trans hu.pc) (hn.trans hu.next)
  | true =>
    obtain ⟨buffer, devices⟩ := hk.buffer hw
    obtain ⟨emptied, seen⟩ := hu.drained rfl
    refine accesses_of hx (keeps_trans (keeps_of_buffer hu.keeps fun _ => rfl) (keeps_with_buffer hk)) link
      ⟨hp, ?_, ?_⟩ (hpc.trans hu.pc) (hn.trans hu.next)
    · simpa using buffer.trans emptied
    · simpa using devices.trans seen

/-! ### The value of a load (20_memory R150, R155) -/

theorem valueAt_lt (s : State) (pa : Nat) (h : n ≤ 8) : s.valueAt pa n < 256 ^ n := by
  rw [← fieldAt_toNat s pa h, State.fieldAt, loadBytes_eq]
  split <;> rw [joinBytes_toNat _ (by simpa using h)]
  · exact (digits_lt _).trans_eq (by simp)
  · exact (digits_lt _).trans_eq (by simp)

/-- What a device answers to a load of n bytes. -/
def deviceAnswer (s : State) (n : Nat) : Nat := (s.free (.device false)).toNat % 256 ^ n

theorem deviceAnswer_lt (s : State) (n : Nat) : deviceAnswer s n < 256 ^ n := Nat.mod_lt _ (by positivity)

/-- A read x of c bytes has answered v, from a device where b. -/
def Reads (b : Bool) (s : State) (x : Except Stop Loaded) (c : Nat) (v : Word) : Prop :=
  ∃ r, x = .ok r ∧ r.count = c ∧ r.value = v ∧ AfterLoad b s (loaded r.pa s)

theorem reads_memory (h : Loads s va n pa) (hn : n ≤ 8) :
    Reads false s (memLoad s va n) n (BitVec.ofNat 64 (s.valueAt pa.toNat n)) :=
  have ⟨_, hx⟩ := memLoad_of_loads s va n pa h
  ⟨_, hx, rfl, fieldAt_eq s _ hn, afterLoad_memory h.answers⟩

theorem reads_device (h : AsksDevice s .load va n pa) (hb : s.pins.dataBusError = false) :
    Reads true s (memLoad s va n) n (BitVec.ofNat 64 (deviceAnswer s n)) :=
  ⟨_, memLoad_of_device h hb, rfl, rfl, afterLoad_device h.answers.1⟩

theorem reads_part_memory {left : Bool} {m d : Nat} (hs : partSpan s left m (va.toNat % m) = (c, d))
    (h : LoadsPart s va pa d) (hc : c ≤ 8) :
    Reads false s (partLoad s left va m) c (BitVec.ofNat 64 (s.valueAt (pa - BitVec.ofNat 36 d).toNat c)) := by
  obtain ⟨r, hx, count, value, unchanged⟩ := partLoad_of_loads s left va m pa (hs ▸ h)
  rw [hs] at count value
  rw [count, fieldAt_eq s _ hc] at value
  exact ⟨r, hx, count, value, unchanged.symm ▸ ⟨keeps_refl _ s, rfl, rfl, fun hb => nomatch hb⟩⟩

theorem reads_part_device {left : Bool} {m d : Nat} (hs : partSpan s left m (va.toNat % m) = (c, d))
    (h : AsksDevicePart s .load va pa d) (hb : s.pins.dataBusError = false) :
    Reads true s (partLoad s left va m) c (BitVec.ofNat 64 (deviceAnswer s c)) := by
  have answer := physRead_device s (pa - BitVec.ofNat 36 d) c h.answers.1 h.answers.2 hb
  refine ⟨⟨c, pa - BitVec.ofNat 36 d, 2#3, _⟩, ?_, rfl, rfl, afterLoad_device h.answers.1⟩
  rw [partLoad, h.translated, bind_ok, hs]
  dsimp only
  rw [answer]
  rfl

/-- A load whose read has answered. -/
theorem exec_of_reads {x : Except Stop Loaded} {f : Loaded → Except Stop State} (hx : exec i s = finish s (x >>= f))
    (h : Reads b s x c v) : ∃ pa attr, AfterLoad b s (loaded pa s)
      ∧ exec i s = finish s (f { count := c, pa := pa, attr := attr, value := v }) := by
  obtain ⟨r, rfl, rfl, rfl, after⟩ := h
  exact ⟨r.pa, r.attr, after, hx⟩

/-- A load into a general register. -/
theorem loadsGprWith_of_reads {x : Except Stop Loaded} {f : Nat → Word → Word} {rt : Reg} {q : Word → Prop}
    (hx : exec i s = finish s (x >>= fun r => .ok (accessed (setGpr rt (f r.count r.value) (loaded r.pa s)))))
    (h : Reads b s x c v) (hq : q (f c v)) : LoadsGprWith (loadShape b) i s rt q := by
  obtain ⟨pa, attr, after, hx⟩ := exec_of_reads hx h
  refine loads_of after hx (keeps_setGpr rt _ _) rfl (by simp) ?_ (by simp) (by simp)
  by_cases h0 : rt = 0#5
  · simp [h0]
  · simpa [h0] using hq

/-! ### The outcome of a store (20_memory R151, R155, R198) -/

theorem valueAt_accessed (t : State) (a m : Nat) : (accessed t).valueAt a m = t.valueAt a m := by
  simp [State.valueAt, State.lane, State.bigEndianCpu, State.bigEndianMem, State.reverseEndian]

theorem exec_of_stored {x : Except Stop State} (hx : exec i s = finish s (x >>= fun t => .ok (accessed t)))
    (h : x = .ok t) : exec i s = .next (accessed t) := by
  rw [hx, h]
  rfl

theorem memStore_device (v : Word) (h : AsksDevice s .store va n pa) :
    memStore s va n v = .ok (deviceStore pa.toNat n s) := by
  rw [memStore, requireAligned_ok _ _ _ h.aligned, bind_ok, h.translated]
  exact physWrite_device s pa n v h.answers.1 h.answers.2

theorem memStore_dropped (v : Word) (h : Dropped s va n pa) : memStore s va n v = .ok s := by
  obtain ⟨attr, ht, hready⟩ := h.translated
  rw [memStore, requireAligned_ok _ _ _ h.aligned, bind_ok, ht]
  exact physWrite_dropped s attr pa n v hready h.answers.1 h.answers.2

section
variable {left : Bool} {m d : Nat} (hs : partSpan s left m (va.toNat % m) = (c, d)) (f : Nat → Word)
include hs

theorem partStore_ram (h : StoresPart s va pa d attr) :
    partStore s left va m f = .ok (s.setField attr (pa - BitVec.ofNat 36 d).toNat c (f c)) := by
  obtain ⟨ht, hready⟩ := h.translated
  rw [partStore, ht, bind_ok, hs]
  exact physWrite_ram s attr _ c _ hready h.answers.1 h.answers.2

theorem partStore_device (h : AsksDevicePart s .store va pa d) :
    partStore s left va m f = .ok (deviceStore (pa - BitVec.ofNat 36 d).toNat c s) := by
  rw [partStore, h.translated, bind_ok, hs]
  exact physWrite_device s _ c _ h.answers.1 h.answers.2

theorem partStore_dropped (h : DroppedPart s va pa d) : partStore s left va m f = .ok s := by
  obtain ⟨attr, ht, hready⟩ := h.translated
  rw [partStore, ht, bind_ok, hs]
  exact physWrite_dropped s attr _ c _ hready h.answers.1 h.answers.2

end

theorem storesAt_of (hx : exec i s = .next (accessed (s.setField attr pa.toNat n v))) :
    StoresAt i s attr pa.toNat n v :=
  accesses_of hx (keeps_setField ..) (by simp) ⟨(valueAt_accessed ..).trans (setField_valueAt ..),
    records_accessed _ _ _ _ _ (setField_records ..)⟩ (by simp) (by simp)

theorem sendsToDevice_of (hx : exec i s = .next (accessed (deviceStore pa.toNat n s))) :
    SendsToDevice i s pa.toNat n :=
  accesses_of hx (keeps_deviceStore ..) rfl (by simpa [Posts, Unseen] using posts_deviceStore s pa.toNat n) rfl rfl

theorem dropsStore_of (hx : exec i s = .next (accessed s)) : DropsStore i s :=
  accesses_of hx (keeps_refl _ s) rfl trivial rfl rfl

end

end Sys2Proof.Proofs

/-! PROOFS. The aligned and the unaligned loads and stores, and those of the FPU. -/

namespace Sys2Proof.Proofs

open Sys2Proof.Machine

set_option Elab.async false

/-! ### Aligned loads (40_load_store R261 to R267) -/

section
variable {s : State} {i : Instr} {rt : Reg} {va : Word} {pa : PAddr} {n : Nat} {ext : Word → Word} {q : Word → Prop}

theorem loadsGpr_memory (hx : exec i s = finish s (loadGpr n ext rt va s)) (hn : n ≤ 8) (h : Loads s va n pa) :
    LoadsGpr i s rt (ext (BitVec.ofNat 64 (s.valueAt pa.toNat n))) :=
  loadsGprWith_of_reads (f := fun _ => ext) hx (reads_memory h hn) rfl

theorem loadsGpr_device (hx : exec i s = finish s (loadGpr n ext rt va s)) (h : AsksDevice s .load va n pa)
    (hb : s.pins.dataBusError = false) (hq : q (ext (BitVec.ofNat 64 (deviceAnswer s n)))) :
    LoadsGprWith AccessesDevice i s rt q :=
  loadsGprWith_of_reads (f := fun _ => ext) hx (reads_device h hb) hq

end

theorem sextOf_ofNat {k : Nat} (hk : k ≤ 64) (m : Nat) :
    sextOf k (BitVec.ofNat 64 m) = (BitVec.ofNat k m).signExtend 64 := by
  rw [sextOf, BitVec.setWidth_ofNat_of_le hk]

theorem sextOf_bounds {k : Nat} (hk : k ≤ 64) (v : Word) :
    -2 ^ (k - 1) ≤ (sextOf k v).toInt ∧ (sextOf k v).toInt < 2 ^ (k - 1) := by
  rw [sextOf, BitVec.toInt_signExtend_of_le hk]
  exact ⟨BitVec.le_toInt _, BitVec.toInt_lt⟩

theorem deviceAnswer_toNat_lt (s : State) (n : Nat) : (BitVec.ofNat 64 (deviceAnswer s n)).toNat < 256 ^ n :=
  (Nat.mod_le _ _).trans_lt (deviceAnswer_lt s n)

/-- Settles O43: each load reads its field, from memory or from a device, and extends it. -/
theorem alignedLoads : Obligations.AlignedLoads := by
  intro s base rt offset pa
  have lwu (h64 : Enabled64 s.seen) : exec (.lwu base rt offset) s = finish s (loadGpr 4 id rt (s.ea base offset) s) :=
    finish_after_gate (require64_enabled s h64)
  have ld (h64 : Enabled64 s.seen) : exec (.ld base rt offset) s = finish s (loadGpr 8 id rt (s.ea base offset) s) :=
    finish_after_gate (require64_enabled s h64)
  refine ⟨fun h => ⟨?lb, loadsGpr_memory (ext := id) rfl (by decide) h⟩,
    fun h => ⟨?lh, loadsGpr_memory (ext := id) rfl (by decide) h⟩,
    fun h => ⟨?lw, fun h64 => loadsGpr_memory (lwu h64) (by decide) h⟩,
    fun h h64 => loadsGpr_memory (ld h64) (by decide) h, ?device⟩
  case lb => exact sextOf_ofNat (k := 8) (by decide) _ ▸ loadsGpr_memory rfl (by decide) h
  case lh => exact sextOf_ofNat (k := 16) (by decide) _ ▸ loadsGpr_memory rfl (by decide) h
  case lw => exact sextOf_ofNat (k := 32) (by decide) _ ▸ loadsGpr_memory rfl (by decide) h
  case device =>
    simp only [List.forall_mem_cons, List.not_mem_nil, IsEmpty.forall_iff, implies_true, and_true]
    refine ⟨fun h _ hb => loadsGpr_device rfl h hb ?lb, fun h _ hb => loadsGpr_device rfl h hb ?lbu,
      fun h _ hb => loadsGpr_device rfl h hb ?lh, fun h _ hb => loadsGpr_device rfl h hb ?lhu,
      fun h _ hb => loadsGpr_device rfl h hb ?lw, fun h h64 hb => loadsGpr_device (lwu (h64 rfl)) h hb ?lwu,
      fun h h64 hb => loadsGpr_device (ld (h64 rfl)) h hb ?ld⟩
    case lb => exact ⟨nofun, fun _ => sextOf_bounds (k := 8) (by decide) _, nofun, nofun, nofun, nofun⟩
    case lbu => exact ⟨nofun, nofun, nofun, nofun, nofun, fun _ => deviceAnswer_toNat_lt s 1⟩
    case lh => exact ⟨nofun, nofun, fun _ => sextOf_bounds (k := 16) (by decide) _, nofun, nofun, nofun⟩
    case lhu => exact ⟨nofun, nofun, nofun, nofun, fun _ => deviceAnswer_toNat_lt s 2, nofun⟩
    case lw => exact ⟨fun _ _ => sextOf_bounds (k := 32) (by decide) _, nofun, nofun, nofun, nofun, nofun⟩
    case lwu => exact ⟨nofun, nofun, nofun, fun _ => deviceAnswer_toNat_lt s 4, nofun, nofun⟩
    case ld => exact ⟨nofun, nofun, nofun, nofun, nofun, nofun⟩

/-! ### Parts of a register (40_load_store R275 to R282) -/

section
variable {j w c m : Nat}

theorem pow_256 (j : Nat) : 256 ^ j = 2 ^ (8 * j) := by rw [pow_mul]; rfl

theorem toNat_and_lowMask (hj : j ≤ 8) (x : Word) : (x &&& lowMask (8 * j)).toNat = x.toNat % 256 ^ j := by
  have mask : (lowMask (8 * j)).toNat = 2 ^ (8 * j) - 1 := by
    have pos : 0 < 2 ^ (8 * j) := by positivity
    have le : 2 ^ (8 * j) ≤ 2 ^ 64 := Nat.pow_le_pow_right (by decide) (by omega)
    exact Nat.mod_eq_of_lt (by omega)
  rw [BitVec.toNat_and, mask, Nat.and_two_pow_sub_one_eq_mod, pow_256]

/-- The upper bytes of a word are what it has beside its low ones. -/
theorem and_not_lowMask (hj : j ≤ 8) (x : Word) : x &&& ~~~lowMask (8 * j) = x >>> (8 * j) <<< (8 * j) := by
  have mask : ∀ j ≤ 8, ~~~lowMask (8 * j) = BitVec.allOnes 64 <<< (8 * j) := by decide
  rw [mask j hj, ← BitVec.shiftLeft_ushiftRight]

theorem toNat_and_not_lowMask (hj : j ≤ 8) (x : Word) :
    (x &&& ~~~lowMask (8 * j)).toNat = x.toNat / 256 ^ j * 256 ^ j := by
  rw [and_not_lowMask hj, BitVec.toNat_shiftLeft, BitVec.toNat_ushiftRight, Nat.shiftLeft_eq,
    Nat.shiftRight_eq_div_pow, pow_256]
  exact Nat.mod_eq_of_lt ((Nat.div_mul_le_self _ _).trans_lt x.isLt)

theorem mul_or_eq_add (a : Nat) {b : Nat} (h : b < 256 ^ j) : a * 256 ^ j ||| b = a * 256 ^ j + b := by
  rw [pow_256] at *
  rw [← Nat.shiftLeft_eq, Nat.shiftLeft_add_eq_or_of_lt h]

/-- The loaded bytes above the low bytes of the register (40_load_store R275, R279). -/
theorem mergeLeft_toNat (hw : w ≤ 8) (hc : c ≤ w) (hm : m < 256 ^ c) (old : Word) :
    (mergeLeft w c (BitVec.ofNat 64 m) old).toNat = m * 256 ^ (w - c) + old.toNat % 256 ^ (w - c) := by
  have room : m * 256 ^ (w - c) < 2 ^ 64 := calc
    m * 256 ^ (w - c) < 256 ^ c * 256 ^ (w - c) := Nat.mul_lt_mul_of_pos_right hm (by positivity)
    _ = 256 ^ w := by rw [← pow_add, Nat.add_sub_cancel' hc]
    _ ≤ 256 ^ 8 := Nat.pow_le_pow_right (by decide) hw
  have small : m < 2 ^ 64 := (Nat.le_mul_of_pos_right m (by positivity)).trans_lt room
  rw [mergeLeft, BitVec.toNat_or, toNat_and_lowMask (by omega), BitVec.toNat_shiftLeft, Nat.shiftLeft_eq, ← pow_256,
    BitVec.toNat_ofNat, Nat.mod_eq_of_lt small, Nat.mod_eq_of_lt room]
  exact mul_or_eq_add m (Nat.mod_lt _ (by positivity))

/-- The loaded bytes below the upper bytes of the register (40_load_store R276, R280). -/
theorem mergeRight_toNat (hc : c ≤ 8) (hm : m < 256 ^ c) (old : Word) :
    (mergeRight c (BitVec.ofNat 64 m) old).toNat = old.toNat / 256 ^ c * 256 ^ c + m := by
  have small : m < 2 ^ 64 := hm.trans_le ((Nat.pow_le_pow_right (by decide) hc).trans_eq (by decide))
  rw [mergeRight, BitVec.toNat_or, toNat_and_not_lowMask hc, BitVec.toNat_ofNat, Nat.mod_eq_of_lt small]
  exact mul_or_eq_add _ hm

theorem eq_ofNat_of_toNat {x : Word} (h : x.toNat = m) : x = BitVec.ofNat 64 m := by
  rw [← h, BitVec.ofNat_toNat, BitVec.setWidth_eq]

theorem low_eq_ofNat_of_toNat {x : Word} (h : x.toNat = m) : low x = BitVec.ofNat 32 m := by
  rw [← h, BitVec.ofNat_toNat, low]

theorem low_sext (x : BitVec 32) : low (sext x) = x := by
  apply BitVec.eq_of_getLsbD_eq
  intro k hk
  rw [low, sext, BitVec.getLsbD_setWidth, BitVec.getLsbD_signExtend]
  simp [hk, show k < 64 by omega]

theorem low_lwrResult (x old : Word) (s : State) : low (lwrResult c x old s) = low (mergeRight c x old) := by
  unfold lwrResult
  dsimp only
  split
  · exact low_sext _
  · exact low_append _ _

theorem lwrResult_holdsWord {x old : Word} (s : State) (h : c = 4 ∨ HoldsWord old) :
    HoldsWord (lwrResult c x old s) := by
  have word : (decide (c = 4) || isWord old) = true := by
    simpa [isWord_iff_holdsWord] using h
  rw [lwrResult, if_pos word]
  exact sextOf_bounds (k := 32) (by decide) _

/-- The bytes a left or right access moves, as the statements name them. -/
theorem partSpan_eq (s : State) (left : Bool) (w k : Nat) : partSpan s left w k =
    (if left == s.bigEndianCpu then w - k else k + 1, if left == s.bigEndianCpu then 0 else k) := by
  unfold partSpan
  split <;> rfl

theorem partSpan_le (s : State) (left : Bool) {w k : Nat} (h : k < w) : (partSpan s left w k).1 ≤ w := by
  rw [partSpan_eq]
  dsimp only
  split <;> omega

end

/-- Settles O46: the bytes read, wherever from, over one end of the register. -/
theorem leftRightLoads : Obligations.LeftRightLoads := by
  intro s base rt offset pa w k left hk c d old merges
  have span : partSpan s left w ((s.ea base offset).toNat % w) = (c, d) := hk ▸ partSpan_eq s left w k
  have count (h : w = 4 ∨ w = 8) : c ≤ w := by
    have le := partSpan_le s left (w := w) (Nat.mod_lt (s.ea base offset).toNat (by omega))
    rwa [span] at le
  have merged {b : Bool} {m : Nat} (hread : w = 4 ∨ w = 8 →
      m < 256 ^ c ∧ Reads b s (partLoad s left (s.ea base offset) w) c (BitVec.ofNat 64 m)) :
      merges (loadShape b) m := by
    refine ⟨?lwl, ?lwr, ?ldl, ?ldr⟩
    case lwl =>
      rintro rfl rfl
      obtain ⟨hm, hr⟩ := hread (.inl rfl)
      refine loadsGprWith_of_reads (f := fun c m => sext (low (mergeLeft 4 c m (s.gpr rt)))) rfl hr ?_
      rw [low_eq_ofNat_of_toNat (mergeLeft_toNat (by decide) (count (.inl rfl)) hm _), sext]
    case lwr =>
      rintro rfl rfl
      obtain ⟨hm, hr⟩ := hread (.inl rfl)
      refine loadsGprWith_of_reads (f := fun c m => lwrResult c m (s.gpr rt) s) rfl hr
        ⟨?_, lwrResult_holdsWord s⟩
      rw [← low_eq_extract, low_lwrResult]
      exact low_eq_ofNat_of_toNat (mergeRight_toNat ((count (.inl rfl)).trans (by decide)) hm _)
    case ldl =>
      rintro rfl h64 rfl
      obtain ⟨hm, hr⟩ := hread (.inr rfl)
      exact loadsGprWith_of_reads (f := fun c m => mergeLeft 8 c m (s.gpr rt))
        (finish_after_gate (require64_enabled s h64)) hr
        (eq_ofNat_of_toNat (mergeLeft_toNat (by decide) (count (.inr rfl)) hm _))
    case ldr =>
      rintro rfl h64 rfl
      obtain ⟨hm, hr⟩ := hread (.inr rfl)
      exact loadsGprWith_of_reads (f := fun c m => mergeRight c m (s.gpr rt))
        (finish_after_gate (require64_enabled s h64)) hr (eq_ofNat_of_toNat (mergeRight_toNat (count (.inr rfl)) hm _))
  have short (h : w = 4 ∨ w = 8) : c ≤ 8 := (count h).trans (by omega)
  exact ⟨fun h => merged (b := false) fun hw => ⟨valueAt_lt s _ (short hw), reads_part_memory span h (short hw)⟩,
    fun h hb => ⟨deviceAnswer s c, deviceAnswer_lt s c, merged (b := true) fun _ =>
      ⟨deviceAnswer_lt s c, reads_part_device span h hb⟩⟩⟩

/-! ### Aligned stores (40_load_store R268 to R271, R289, R290) -/

/-- What each store of n bytes at base + offset has of an instruction and the value it stores. -/
def EachStore (s : State) (base rt : Reg) (offset : BitVec 16) (n : Nat) (p : Instr → Word → Prop) : Prop :=
  (n = 1 → p (.sb base rt offset) (s.gpr rt))
  ∧ (n = 2 → p (.sh base rt offset) (s.gpr rt))
  ∧ (n = 4 → p (.sw base rt offset) (s.gpr rt)
    ∧ (s.cu 1 = true → p (.swc1 base rt offset) ((s.fpr32 rt).setWidth 64)))
  ∧ (n = 8 → (Enabled64 s.seen → p (.sd base rt offset) (s.gpr rt))
    ∧ (FpReady s [rt] → p (.sdc1 base rt offset) (s.fpr64 rt)))

theorem EachStore.imp {s : State} {base rt : Reg} {offset : BitVec 16} {n : Nat} {p q : Instr → Word → Prop}
    (h : EachStore s base rt offset n p) (hpq : ∀ i v, p i v → q i v) : EachStore s base rt offset n q := by
  obtain ⟨sb, sh, word, double⟩ := h
  exact ⟨fun hn => hpq _ _ (sb hn), fun hn => hpq _ _ (sh hn),
    fun hn => ⟨hpq _ _ (word hn).1, fun hcu => hpq _ _ ((word hn).2 hcu)⟩,
    fun hn => ⟨fun h64 => hpq _ _ ((double hn).1 h64), fun hfp => hpq _ _ ((double hn).2 hfp)⟩⟩

theorem finish_after_gates {s : State} {g g' : Except Stop Unit} {r : Except Stop State} (hg : g = .ok ())
    (hg' : g' = .ok ()) : finish s (g >>= fun _ => g' >>= fun _ => r) = finish s r :=
  (finish_after_gate hg).trans (finish_after_gate hg')

theorem exec_eachStore (s : State) (base rt : Reg) (offset : BitVec 16) (n : Nat) :
    EachStore s base rt offset n fun i v => exec i s = finish s (storeBytes n v (s.ea base offset) s) := by
  refine ⟨?sb, ?sh, ?word, ?double⟩
  case sb => rintro rfl; rfl
  case sh => rintro rfl; rfl
  case word =>
    rintro rfl
    exact ⟨rfl, fun hcu => finish_after_gate (requireUnit_usable 1#2 s hcu)⟩
  case double =>
    rintro rfl
    exact ⟨fun h64 => finish_after_gate (require64_enabled s h64), fun ⟨hcu, hok⟩ =>
      finish_after_gates (requireUnit_usable 1#2 s hcu) (requireFpr_ok (hok rt (List.mem_singleton_self rt)))⟩

section
variable {s : State} {i : Instr} {va v : Word} {pa : PAddr} {attr : BitVec 3} {n : Nat}
  (hx : exec i s = finish s (storeBytes n v va s))
include hx

theorem storeBytes_ram (h : Stores s va n pa attr) : StoresAt i s attr pa.toNat n v :=
  storesAt_of (exec_of_stored hx (memStore_of_stores s va n v pa attr h))

theorem storeBytes_device (h : AsksDevice s .store va n pa) : SendsToDevice i s pa.toNat n :=
  sendsToDevice_of (exec_of_stored hx (memStore_device v h))

theorem storeBytes_dropped (h : Dropped s va n pa) : DropsStore i s :=
  dropsStore_of (exec_of_stored hx (memStore_dropped v h))

end

/-- Settles O44: each is `storeBytes` of its register, once its gates are passed. -/
theorem alignedStores : Obligations.AlignedStores := by
  intro s base rt offset pa attr n each
  have stores := exec_eachStore s base rt offset n
  exact ⟨fun h => stores.imp fun _ _ hx => storeBytes_ram hx h,
    fun h => stores.imp fun _ _ hx => storeBytes_device hx h,
    fun h => stores.imp fun _ _ hx => storeBytes_dropped hx h⟩

/-! ### Unaligned stores (40_load_store R277, R278, R281, R282) -/

/-- What each unaligned store of c bytes has of an instruction and the value whose low bytes it stores. -/
def EachPart (s : State) (base rt : Reg) (offset : BitVec 16) (w c : Nat) (left : Bool) (p : Instr → Word → Prop) :
    Prop :=
  (w = 4 → left = true → p (.swl base rt offset) (BitVec.ofNat 64 ((s.gpr rt).toNat % 2 ^ 32 / 256 ^ (4 - c))))
  ∧ (w = 4 → left = false → p (.swr base rt offset) (s.gpr rt))
  ∧ (w = 8 → Enabled64 s.seen → left = true → p (.sdl base rt offset)
    (BitVec.ofNat 64 ((s.gpr rt).toNat / 256 ^ (8 - c))))
  ∧ (w = 8 → Enabled64 s.seen → left = false → p (.sdr base rt offset) (s.gpr rt))

theorem EachPart.imp {s : State} {base rt : Reg} {offset : BitVec 16} {w c : Nat} {left : Bool}
    {p q : Instr → Word → Prop} (h : EachPart s base rt offset w c left p) (hpq : ∀ i v, p i v → q i v) :
    EachPart s base rt offset w c left q := by
  obtain ⟨swl, swr, sdl, sdr⟩ := h
  exact ⟨fun hw hl => hpq _ _ (swl hw hl), fun hw hl => hpq _ _ (swr hw hl),
    fun hw h64 hl => hpq _ _ (sdl hw h64 hl), fun hw h64 hl => hpq _ _ (sdr hw h64 hl)⟩

theorem ushiftRight_eq_ofNat (x : Word) (j : Nat) : x >>> (8 * j) = BitVec.ofNat 64 (x.toNat / 256 ^ j) := by
  rw [pow_256, ← Nat.shiftRight_eq_div_pow, ← BitVec.toNat_ushiftRight, BitVec.ofNat_toNat, BitVec.setWidth_eq]

theorem toNat_and_word (x : Word) : (x &&& 0xFFFFFFFF#64).toNat = x.toNat % 2 ^ 32 := by
  rw [BitVec.toNat_and]
  exact Nat.and_two_pow_sub_one_eq_mod _ 32

/-- A store by parts of the bytes that f takes from the register. -/
def StoresPartOf (s : State) (left : Bool) (va : Word) (w c : Nat) (i : Instr) (v : Word) : Prop :=
  ∃ f : Nat → Word, f c = v ∧ exec i s = finish s (partStore s left va w f >>= fun t => .ok (accessed t))

theorem exec_eachPart (s : State) (base rt : Reg) (offset : BitVec 16) (w c : Nat) (left : Bool) :
    EachPart s base rt offset w c left (StoresPartOf s left (s.ea base offset) w c) := by
  refine ⟨?swl, ?swr, ?sdl, ?sdr⟩
  case swl =>
    rintro rfl rfl
    refine ⟨_, ?_, rfl⟩
    rw [ushiftRight_eq_ofNat, toNat_and_word]
  case swr =>
    rintro rfl rfl
    exact ⟨fun _ => s.gpr rt, rfl, rfl⟩
  case sdl =>
    rintro rfl h64 rfl
    exact ⟨_, ushiftRight_eq_ofNat _ _, finish_after_gate (require64_enabled s h64)⟩
  case sdr =>
    rintro rfl h64 rfl
    exact ⟨fun _ => s.gpr rt, rfl, finish_after_gate (require64_enabled s h64)⟩

/-- Settles O47: each is `partStore` of one end of its register. -/
theorem leftRightStores : Obligations.LeftRightStores := by
  intro s base rt offset pa w k left attr hk c d start each
  have span : partSpan s left w ((s.ea base offset).toNat % w) = (c, d) := hk ▸ partSpan_eq s left w k
  have stores := exec_eachPart s base rt offset w c left
  have same : each = EachPart s base rt offset w c left := rfl
  rw [same]
  exact ⟨fun h => stores.imp fun _ _ ⟨f, hv, hx⟩ => hv ▸ storesAt_of (exec_of_stored hx (partStore_ram span f h)),
    fun h => stores.imp fun _ _ ⟨f, _, hx⟩ => sendsToDevice_of (exec_of_stored hx (partStore_device span f h)),
    fun h => stores.imp fun _ _ ⟨f, _, hx⟩ => dropsStore_of (exec_of_stored hx (partStore_dropped span f h))⟩

/-! ### FPU loads, indexed loads and stores (40_load_store R287 to R294) -/

section
variable {s : State} {i : Instr} {f : Reg} {va v : Word} {b : Bool}

theorem accessed_fpr32 (t : State) (f : Reg) : (accessed t).fpr32 f = t.fpr32 f := by simp [State.fpr32]

theorem accessed_fpr64 (t : State) (f : Reg) : (accessed t).fpr64 f = t.fpr64 f := by simp [State.fpr64]

theorem loaded_pairOf (pa : PAddr) (s : State) (f : Reg) : (loaded pa s).pairOf f = s.pairOf f := by
  simp [State.pairOf]

theorem loaded_fprOk (pa : PAddr) (s : State) (f : Reg) : (loaded pa s).fprOk f = s.fprOk f := by
  simp [State.fprOk]

theorem loadsFgrLow_of_reads
    (hx : exec i s = finish s (memLoad s va 4 >>= fun r => .ok (accessed (setFgrLow f (low r.value) (loaded r.pa s)))))
    (h : Reads b s (memLoad s va 4) 4 v) : loadShape b i s { fgrs := [f] } fun t => t.fpr32 f = low v := by
  obtain ⟨pa, attr, after, hx⟩ := exec_of_reads hx h
  exact loads_of after hx (keeps_setFgrLow ..) rfl (by simp) (by rw [accessed_fpr32, setFgrLow_fpr32]) (by simp)
    (by simp)

theorem loadsFpr64_of_reads (hok : s.fprOk f = true)
    (hx : exec i s = finish s (memLoad s va 8 >>= fun r => requireFpr f s >>= fun _ =>
      .ok (accessed (setFpr64 f r.value (loaded r.pa s)))))
    (h : Reads b s (memLoad s va 8) 8 v) : loadShape b i s { fgrs := s.pairOf f } fun t => t.fpr64 f = v := by
  obtain ⟨pa, attr, after, hx⟩ := exec_of_reads hx h
  rw [finish_after_gate (requireFpr_ok hok)] at hx
  refine loads_of after hx (loaded_pairOf pa s f ▸ keeps_setFpr64 ..) rfl (by simp) ?_ (by simp) (by simp)
  rw [accessed_fpr64, setFpr64_fpr64 _ _ _ ((loaded_fprOk ..).trans hok)]

end

/-- The gates of an indexed access (40_load_store R291). -/
theorem finish_indexed {s : State} {store : Bool} {base ea : Word} {r : Except Stop State} (h1 : s.cu 1 = true)
    (h3 : s.cu 3 = true) : finish s (do requireUnit 1#2 s; requireMips4 s; requireRegion store base ea; r) =
      if ea.extractLsb' 62 2 = base.extractLsb' 62 2 then finish s r
      else .next (takeException (.addressError store ea) s) := by
  rw [finish_after_gates (requireUnit_usable 1#2 s h1) (requireMips4_enabled s h3)]
  unfold requireRegion
  split <;> rfl

/-- What each indexed store of n bytes has of an instruction and the value it stores. -/
def EachIndexed (s : State) (base index f : Reg) (n : Nat) (p : Instr → Word → Prop) : Prop :=
  (n = 4 → p (.swxc1 base index f) ((s.fpr32 f).setWidth 64))
  ∧ (n = 8 → s.fprOk f = true → p (.sdxc1 base index f) (s.fpr64 f))

theorem EachIndexed.imp {s : State} {base index f : Reg} {n : Nat} {p q : Instr → Word → Prop}
    (h : EachIndexed s base index f n p) (hpq : ∀ i v, p i v → q i v) : EachIndexed s base index f n q :=
  ⟨fun hn => hpq _ _ (h.1 hn), fun hn hok => hpq _ _ (h.2 hn hok)⟩

theorem exec_eachIndexed {s : State} {base index f : Reg} {n : Nat} (h1 : s.cu 1 = true) (h3 : s.cu 3 = true)
    (region : (s.gpr base + s.gpr index).extractLsb' 62 2 = (s.gpr base).extractLsb' 62 2) :
    EachIndexed s base index f n fun i v =>
      exec i s = finish s (storeBytes n v (s.gpr base + s.gpr index) s) := by
  refine ⟨?word, ?double⟩
  case word =>
    rintro rfl
    exact (finish_indexed h1 h3).trans (if_pos region)
  case double =>
    rintro rfl hok
    exact ((finish_indexed h1 h3).trans (if_pos region)).trans (finish_after_gate (requireFpr_ok hok))

theorem accessesDevice_weaken {i : Instr} {s : State} {w : Touched} {p : State → Prop}
    (h : AccessesDevice i s w p) : AccessesDevice i s w fun _ => True := by
  obtain ⟨t, hx, ⟨⟨-, drained⟩, link⟩, keeps, steps⟩ := h
  exact ⟨t, hx, ⟨⟨trivial, drained⟩, link⟩, keeps, steps⟩

/-- Settles O49: the FPU loads are loads into FGRs; the indexed accesses are theirs where the region check passes, and
its Address Error where it does not. -/
theorem floatingLoadsAndIndexed : Obligations.FloatingLoadsAndIndexed := by
  refine ⟨fun s base index f offset pa va word double h1 hi => ?loads, fun s base index f pa attr n h1 h3 => ?indexed⟩
  case loads =>
    have ⟨hword, hdouble⟩ :
        exec word s = finish s (memLoad s va 4 >>= fun r => .ok (accessed (setFgrLow f (low r.value) (loaded r.pa s))))
        ∧ exec double s = finish s (memLoad s va 8 >>= fun r => requireFpr f s >>= fun _ =>
            .ok (accessed (setFpr64 f r.value (loaded r.pa s)))) := by
      rcases hi with ⟨rfl, rfl, rfl⟩ | ⟨rfl, rfl, rfl, h3, region⟩
      · have unit := requireUnit_usable 1#2 s h1
        exact ⟨finish_after_gate unit, finish_after_gate unit⟩
      · exact ⟨(finish_indexed h1 h3).trans (if_pos region), (finish_indexed h1 h3).trans (if_pos region)⟩
    have low4 : low (BitVec.ofNat 64 (s.valueAt pa.toNat 4)) = BitVec.ofNat 32 (s.valueAt pa.toNat 4) :=
      BitVec.setWidth_ofNat_of_le (by decide) _
    refine ⟨fun h => low4 ▸ loadsFgrLow_of_reads hword (reads_memory h (by decide)),
      fun h hok => loadsFpr64_of_reads hok hdouble (reads_memory h (by decide)),
      fun hb => ⟨fun h => accessesDevice_weaken (loadsFgrLow_of_reads hword (reads_device h hb)),
        fun h hok => accessesDevice_weaken (loadsFpr64_of_reads hok hdouble (reads_device h hb))⟩⟩
  case indexed =>
    intro va each
    refine ⟨fun region => ?within, fun region => ⟨(finish_indexed h1 h3).trans (if_neg region),
      (finish_indexed h1 h3).trans (if_neg region), (finish_indexed h1 h3).trans (if_neg region),
      (finish_indexed h1 h3).trans (if_neg region)⟩⟩
    have stores := exec_eachIndexed (f := f) (n := n) h1 h3 region
    exact ⟨fun h => stores.imp fun _ _ hx => storeBytes_ram hx h,
      fun h => stores.imp fun _ _ hx => storeBytes_device hx h,
      fun h => stores.imp fun _ _ hx => storeBytes_dropped hx h⟩

end Sys2Proof.Proofs

/-! PROOFS. The exceptions of a load or store: Address Error, those of its translation, Cache Error and Bus Error. -/

namespace Sys2Proof.Proofs

open Sys2Proof.Machine

set_option Elab.async false

section
variable {α : Type} {s : State} {i : Instr} {va : Word} {pa : PAddr} {attr : BitVec 3} {n w : Nat} {e : Exc} {st : Stop}
  {left : Bool} {f : Nat → Word} {v : Word}

/-- The instruction, its gates passed, does x before anything else. -/
def Begins (i : Instr) (s : State) (x : Except Stop α) : Prop :=
  ∃ f : α → Except Stop State, exec i s = finish s (x >>= f)

theorem takes_of_begins {x : Except Stop α} (h : Begins i s x) (he : x = .error (.exc e)) : Takes i s e := by
  obtain ⟨f, hx⟩ := h
  rw [Takes, hx, he]
  rfl

theorem begins_of_exec {x : Except Stop State} (hx : exec i s = finish s x) : Begins i s x :=
  ⟨.ok, hx.trans (congrArg (finish s) (bind_pure x).symm)⟩

/-! ### Where an access stops (20_memory R150 to R152; 60_exceptions R610, R611) -/

theorem physRead_cacheError {p : ParityError} (hready : s.cacheReady attr = true) (hp : s.pins.dataCacheError = some p)
    (hd : s.de = false) : physRead s attr pa n = .error (.exc (.cacheError p.onData)) := by
  rw [physRead, requireCaches_ok attr s hready, bind_ok, dataCacheError_taken s p hp hd]
  rfl

theorem physRead_busError (hready : s.cacheReady attr = true) (hc : NoCacheError s)
    (hb : s.pins.dataBusError = true ∨ regionAt s.physMap pa.toNat = .none) :
    physRead s attr pa n = .error (.exc .busErrorData) := by
  rw [physRead, requireCaches_ok attr s hready, bind_ok, dataCacheError_ok s hc, bind_ok]
  split
  · rfl
  · next hbus => rw [hb.resolve_left hbus]

theorem physWrite_cacheError {p : ParityError} (hready : s.cacheReady attr = true)
    (hp : s.pins.dataCacheError = some p) (hd : s.de = false) :
    physWrite s attr pa n v = .error (.exc (.cacheError p.onData)) := by
  rw [physWrite, requireCaches_ok attr s hready, bind_ok, dataCacheError_taken s p hp hd]
  rfl

theorem memLoad_untranslated (ha : va.toNat % n = 0) (ht : translate s.seen .load va = .error st) :
    memLoad s va n = .error st := by
  rw [memLoad, requireAligned_ok _ _ _ ha, bind_ok, ht]
  rfl

theorem memLoad_stops (ha : va.toNat % n = 0) (ht : translate s.seen .load va = .ok (pa, attr))
    (h : physRead s attr pa n = .error st) : memLoad s va n = .error st := by
  rw [memLoad, requireAligned_ok _ _ _ ha, bind_ok, ht, bind_ok, h]
  rfl

theorem memStore_untranslated (ha : va.toNat % n = 0) (ht : translate s.seen .store va = .error st) :
    memStore s va n v = .error st := by
  rw [memStore, requireAligned_ok _ _ _ ha, bind_ok, ht]
  rfl

theorem memStore_stops (ha : va.toNat % n = 0) (ht : translate s.seen .store va = .ok (pa, attr))
    (h : physWrite s attr pa n v = .error st) : memStore s va n v = .error st := by
  rw [memStore, requireAligned_ok _ _ _ ha, bind_ok, ht, bind_ok, h]

theorem partLoad_untranslated (ht : translate s.seen .load va = .error st) : partLoad s left va w = .error st := by
  rw [partLoad, ht]
  rfl

theorem partLoad_stops (ht : translate s.seen .load va = .ok (pa, attr))
    (h : physRead s attr (pa - BitVec.ofNat 36 (partSpan s left w (va.toNat % w)).2)
      (partSpan s left w (va.toNat % w)).1 = .error st) : partLoad s left va w = .error st := by
  rw [partLoad, ht, bind_ok]
  dsimp only
  rw [h]
  rfl

theorem partStore_untranslated (ht : translate s.seen .store va = .error st) :
    partStore s left va w f = .error st := by
  rw [partStore, ht]
  rfl

theorem partStore_stops (ht : translate s.seen .store va = .ok (pa, attr))
    (h : ∀ pa n v, physWrite s attr pa n v = .error st) : partStore s left va w f = .error st := by
  rw [partStore, ht, bind_ok]
  exact h _ _ _

/-! ### The exceptions of each kind of access -/

theorem traps_memLoad (h : Begins i s (memLoad s va n)) : AccessTraps i s .load va n ∧ ErrorTraps i s .load va n 0 := by
  refine ⟨⟨fun ha => takes_of_begins h (memLoad_misaligned s va n ha),
    fun ha e ht => takes_of_begins h (memLoad_untranslated ha ht)⟩, fun pa attr ha ht hready => ⟨fun p hp hd => ?cache,
    fun _ hc hb => ?bus⟩⟩
  case cache => exact takes_of_begins h (memLoad_stops ha ht (physRead_cacheError hready hp hd))
  case bus =>
    rw [BitVec.sub_zero] at hb
    exact takes_of_begins h (memLoad_stops ha ht (physRead_busError hready hc hb))

theorem traps_memStore (h : Begins i s (memStore s va n v)) :
    AccessTraps i s .store va n ∧ ErrorTraps i s .store va n 0 :=
  ⟨⟨fun ha => takes_of_begins h (memStore_misaligned s va n v ha),
    fun ha _ ht => takes_of_begins h (memStore_untranslated ha ht)⟩, fun _ _ ha ht hready => ⟨fun _ hp hd =>
      takes_of_begins h (memStore_stops ha ht (physWrite_cacheError hready hp hd)), fun hload => nomatch hload⟩⟩

theorem accessTraps_byte {acc : Access}
    (h : ∀ e, translate s.seen acc va = .error (.exc e) → Takes i s e) : AccessTraps i s acc va 1 :=
  ⟨fun ha => absurd (Nat.mod_one _) ha, fun _ => h⟩

theorem traps_partLoad (h : Begins i s (partLoad s left va w)) :
    AccessTraps i s .load va 1 ∧ ErrorTraps i s .load va 1 (partSpan s left w (va.toNat % w)).2 :=
  ⟨accessTraps_byte fun _ ht => takes_of_begins h (partLoad_untranslated ht), fun _ _ _ ht hready =>
    ⟨fun _ hp hd => takes_of_begins h (partLoad_stops ht (physRead_cacheError hready hp hd)),
      fun _ hc hb => takes_of_begins h (partLoad_stops ht (physRead_busError hready hc hb))⟩⟩

theorem traps_partStore (h : Begins i s (partStore s left va w f)) :
    AccessTraps i s .store va 1 ∧ ErrorTraps i s .store va 1 0 :=
  ⟨accessTraps_byte fun _ ht => takes_of_begins h (partStore_untranslated ht), fun _ _ _ ht hready =>
    ⟨fun _ hp hd => takes_of_begins h (partStore_stops ht fun _ _ _ => physWrite_cacheError hready hp hd),
      fun hload => nomatch hload⟩⟩

/-! ### Store conditional (40_load_store R285) -/

theorem accessTraps_storeConditional {rt : Reg} (hx : exec i s = finish s (storeConditional n rt va s)) :
    AccessTraps i s .store va n := by
  refine ⟨fun ha => takes_of_begins (begins_of_exec hx) ?misaligned,
    fun ha e ht => takes_of_begins (begins_of_exec hx) ?untranslated⟩
  case misaligned =>
    rw [storeConditional, requireAligned_error _ _ _ ha]
    rfl
  case untranslated =>
    rw [storeConditional, requireAligned_ok _ _ _ ha, bind_ok, ht]
    rfl

/-- A store conditional takes the Cache Error of its store, if it goes on with it. -/
theorem storesOrFails_cacheError {rt : Reg} {p : ParityError} (hx : exec i s = finish s (storeConditional n rt va s))
    (ha : va.toNat % n = 0) (ht : translate s.seen .store va = .ok (pa, attr)) (hready : s.cacheReady attr = true)
    (hp : s.pins.dataCacheError = some p) (hd : s.de = false) :
    StoresOrFails i s rt attr pa (Takes i s (.cacheError p.onData)) := by
  rw [storeConditional_of ha ht, physWrite_cacheError hready hp hd] at hx
  have goes (h : (s.llbit && s.scSucceeds attr pa) = true) : Takes i s (.cacheError p.onData) := by
    rw [if_pos h] at hx
    exact hx
  have fails (h : ¬(s.llbit && s.scSucceeds attr pa) = true) : FailsStore i s rt attr pa := by
    rw [if_neg h] at hx
    exact failsStore_of hx
  refine ⟨?either, fun hb => fails (by simp [hb]), fun hc hmax => goes ?bound⟩
  case either =>
    by_cases h : (s.llbit && s.scSucceeds attr pa) = true
    · exact .inr ⟨(Bool.and_eq_true_iff.1 h).1, goes h⟩
    · exact .inl (fails h)
  case bound =>
    have fair := (fairFor_iff s attr pa).2 hc
    simp [State.scSucceeds, hc.1, fair, hmax]

/-! ### CACHE (46_cp0 R450) -/

theorem cacheAccess_untranslated {op5 : BitVec 5} (ht : translate s.seen .load va = .error st) :
    cacheAccess op5 va s = .error st := by
  rw [cacheAccess, ht]
  rfl

section
variable {op5 : BitVec 5} (ht : translate s.seen .load va = .ok (pa, attr)) (hattr : attr ≠ 2#3)
include ht hattr

theorem cacheAccess_cacheError {p : ParityError} (hp : s.pins.dataCacheError = some p) (hd : s.de = false) :
    cacheAccess op5 va s = .error (.exc (.cacheError p.onData)) := by
  rw [cacheAccess, ht, bind_ok, if_neg hattr, dataCacheError_taken s p hp hd]
  rfl

/-- Past the Cache Error: the Bus Error, or the operation. -/
theorem cacheAccess_of (hc : NoCacheError s) : cacheAccess op5 va s =
    if s.pins.dataBusError then .error (.exc .busErrorData) else cacheOp op5 va pa s := by
  rw [cacheAccess, ht, bind_ok, if_neg hattr, dataCacheError_ok s hc]
  rfl

end

end

/-- Settles O45: each instruction begins with its access, and the access stops where it says. -/
theorem accessExceptions : Obligations.AccessExceptions := by
  intro s base rt index offset va vx conditional
  simp only [List.forall_mem_cons, List.not_mem_nil, IsEmpty.forall_iff, implies_true, and_true]
  refine ⟨fun _ => rfl, ?loads, ?stores, accessTraps_storeConditional rfl,
    fun _ _ _ ha ht hready hp hd => storesOrFails_cacheError rfl ha ht hready hp hd, fun hcp0 op5 => ?cache,
    ⟨traps_partLoad ⟨_, rfl⟩, traps_partLoad ⟨_, rfl⟩⟩, ⟨traps_partStore ⟨_, rfl⟩, traps_partStore ⟨_, rfl⟩⟩,
    fun h64 => ?wide, fun h1 => ?fpu⟩
  case loads =>
    exact ⟨traps_memLoad ⟨_, rfl⟩, traps_memLoad ⟨_, rfl⟩, traps_memLoad ⟨_, rfl⟩, traps_memLoad ⟨_, rfl⟩,
      traps_memLoad ⟨_, rfl⟩, traps_memLoad ⟨_, rfl⟩⟩
  case stores => exact ⟨traps_memStore ⟨_, rfl⟩, traps_memStore ⟨_, rfl⟩, traps_memStore ⟨_, rfl⟩⟩
  case cache =>
    have begins : Begins (.cache base op5 offset) s (cacheAccess op5 va s) :=
      ⟨_, finish_after_gate (requireUnit_cp0 s hcp0)⟩
    refine ⟨accessTraps_byte fun e ht => takes_of_begins begins (cacheAccess_untranslated ht),
      fun pa attr ht hattr => ⟨fun p hp hd => takes_of_begins begins (cacheAccess_cacheError ht hattr hp hd),
        fun hc hb => takes_of_begins begins ?_⟩⟩
    rw [cacheAccess_of ht hattr hc, if_pos hb]
  case wide =>
    have gate := require64_enabled s h64
    refine ⟨⟨traps_memLoad ⟨_, finish_after_gate gate⟩, traps_memLoad ⟨_, finish_after_gate gate⟩,
      traps_memLoad ⟨_, finish_after_gate gate⟩⟩, ?_⟩
    obtain ⟨sdAccess, sdError⟩ := traps_memStore (i := .sd base rt offset) ⟨_, finish_after_gate gate⟩
    exact ⟨sdAccess, sdError, accessTraps_storeConditional (finish_after_gate gate),
      fun _ _ _ ha ht hready hp hd => storesOrFails_cacheError (finish_after_gate gate) ha ht hready hp hd,
      ⟨traps_partLoad ⟨_, finish_after_gate gate⟩, traps_partLoad ⟨_, finish_after_gate gate⟩⟩,
      traps_partStore ⟨_, finish_after_gate gate⟩, traps_partStore ⟨_, finish_after_gate gate⟩⟩
  case fpu =>
    have unit := requireUnit_usable 1#2 s h1
    refine ⟨traps_memLoad ⟨_, finish_after_gate unit⟩, traps_memStore ⟨_, finish_after_gate unit⟩,
      traps_memLoad ⟨_, finish_after_gate unit⟩,
      fun hok => traps_memStore ⟨_, finish_after_gates unit (requireFpr_ok hok)⟩, fun h3 region => ?_⟩
    have indexed {store : Bool} (r : Except Stop State) : finish s (do
        requireUnit 1#2 s; requireMips4 s; requireRegion store (s.gpr base) vx; r) = finish s r :=
      (finish_indexed h1 h3).trans (if_pos region)
    exact ⟨traps_memLoad ⟨_, indexed _⟩, traps_memStore ⟨_, indexed _⟩, traps_memLoad ⟨_, indexed _⟩,
      fun hok => traps_memStore ⟨_, (indexed _).trans (finish_after_gate (requireFpr_ok hok))⟩⟩

end Sys2Proof.Proofs

/-! PROOFS. The CACHE operations: what each leaves of memory, of the record of older bytes, of the write buffer and of
the CP0 registers. -/

namespace Sys2Proof.Proofs

open Sys2Proof.Machine

set_option Elab.async false

section
variable {op line a : Nat} {s t u : State} {m : List Host.Cell} {st : List StaleByte} {v : Byte}

/-! ### The bytes of a line -/

theorem mem_lineBytes : a ∈ lineBytes line ↔ a / 32 = line := by
  simp only [lineBytes, List.mem_map, List.mem_range]
  constructor
  · rintro ⟨k, hk, rfl⟩
    omega
  · intro h
    exact ⟨a % 32, Nat.mod_lt _ (by decide), by omega⟩

theorem mem_staleOlds_staleLine :
    v ∈ staleOlds (staleLine m st line) a ↔ v ∈ staleOlds st a ∨ (a / 32 = line ∧ v = memRead m a) := by
  rw [staleLine, mem_staleOlds_staleMarkAll, ← mem_lineBytes]
  rfl

theorem mem_staleOlds_staleLines (lines : List Nat) :
    v ∈ staleOlds (lines.foldl (staleLine m) st) a ↔ v ∈ staleOlds st a ∨ (a / 32 ∈ lines ∧ v = memRead m a) := by
  induction lines generalizing st with
  | nil => simp
  | cons l lines ih =>
    rw [List.foldl_cons, ih, mem_staleOlds_staleLine, List.mem_cons]
    tauto

/-- Nothing older than what it may be filled with is left in the instruction cache of an invalidated line. -/
theorem staleOlds_staleInvalidate (h : ∀ e ∈ st, e.addr / 32 = line → e.held = []) (ha : a / 32 = line) :
    staleOlds (staleInvalidate st line) a = [] := by
  have absent : (staleInvalidate st line).find? (fun e => e.addr == a) = none := by
    refine List.find?_eq_none.2 fun e he hea => ?_
    obtain ⟨hmap, holds⟩ := List.mem_filter.1 he
    obtain ⟨f, hf, rfl⟩ := List.mem_map.1 hmap
    have inLine : lineOf f.addr = line := by
      rw [← ha, ← beq_iff_eq.1 hea]
      split <;> rfl
    rw [if_pos inLine] at holds
    simp [h f hf inLine] at holds
  rw [staleOlds, absent]

/-! ### Memory and the record of older bytes (46_cp0 R452, 20_memory R194) -/

/-- What operation op on a line may leave of memory and of the record of older bytes. -/
structure MemoryAfter (op line : Nat) (s : State) (m : List Host.Cell) (st : List StaleByte) : Prop where
  seen : ∀ a, memRead m a ≠ memRead s.mem a → memRead s.mem a ∈ staleOlds st a
  discarded : ∀ a, memRead m a ≠ memRead s.mem a →
    (op ∈ [0x0D, 0x11] ∧ a / 32 = line) ∨ (op ∈ [0x09, 0x03, 0x17] ∧ a / 32 ∈ s.maybeDirty)
  kept : op ∉ [0x0D, 0x10, 0x11, 0x19, 0x09, 0x03, 0x17] → st = s.stale
  written : op = 0x19 → ∀ e ∈ st, e.addr / 32 = line → e.held = []
  invalidated : op = 0x10 → (∀ e ∈ s.stale, e.addr / 32 = line → e.held = []) →
    ∀ a, a / 32 = line → staleOlds st a = []

theorem memoryAfter_same (h : op ∉ [0x10, 0x19]) : MemoryAfter op line s s.mem s.stale where
  seen _ ha := absurd rfl ha
  discarded _ ha := absurd rfl ha
  kept _ := rfl
  written e := absurd (by simp [e]) h
  invalidated e := absurd (by simp [e]) h

/-- Create Dirty Exclusive, and a discarded line. -/
theorem memoryAfter_line (h : op ∈ [0x0D, 0x11]) :
    MemoryAfter op line s (scrambleLine s line s.mem) (staleLine s.mem s.stale line) := by
  have inLine (a : Nat) (ha : memRead (scrambleLine s line s.mem) a ≠ memRead s.mem a) : a / 32 = line := by
    by_contra hne
    exact ha (memRead_scrambleLine hne)
  exact {
    seen := fun a ha => mem_staleOlds_staleLine.2 (.inr ⟨inLine a ha, rfl⟩)
    discarded := fun a ha => .inl ⟨h, inLine a ha⟩
    kept := fun hne => absurd ((by decide : [0x0D, 0x11] ⊆ [0x0D, 0x10, 0x11, 0x19, 0x09, 0x03, 0x17]) h) hne
    written := fun e => absurd (e ▸ h) (by decide)
    invalidated := fun e => absurd (e ▸ h) (by decide) }

/-- The lines of MaybeDirty discarded. -/
theorem memoryAfter_lines (h : op ∈ [0x09, 0x03, 0x17]) :
    MemoryAfter op line s (scrambleDirty s).mem (scrambleDirty s).stale := by
  have dirty (a : Nat) (ha : memRead (scrambleDirty s).mem a ≠ memRead s.mem a) : a / 32 ∈ s.maybeDirty := by
    by_contra hne
    exact ha (memRead_scrambleDirty hne)
  exact {
    seen := fun a ha => (mem_staleOlds_staleLines _).2 (.inr ⟨dirty a ha, rfl⟩)
    discarded := fun a ha => .inr ⟨h, dirty a ha⟩
    kept := fun hne => absurd ((by decide : [0x09, 0x03, 0x17] ⊆ [0x0D, 0x10, 0x11, 0x19, 0x09, 0x03, 0x17]) h) hne
    written := fun e => absurd (e ▸ h) (by decide)
    invalidated := fun e => absurd (e ▸ h) (by decide) }

theorem memoryAfter_writeBack : MemoryAfter 0x19 line s s.mem (staleWriteBack s.stale line) where
  seen _ ha := absurd rfl ha
  discarded _ ha := absurd rfl ha
  kept hne := absurd (by decide) hne
  written _ e he hline := by
    obtain ⟨f, -, rfl⟩ := List.mem_map.1 he
    by_cases hf : lineOf f.addr = line
    · rw [if_pos hf]
    · rw [if_neg hf] at hline
      exact absurd hline hf
  invalidated e := absurd e (by decide)

theorem memoryAfter_invalidate : MemoryAfter 0x10 line s s.mem (staleInvalidate s.stale line) where
  seen _ ha := absurd rfl ha
  discarded _ ha := absurd rfl ha
  kept hne := absurd (by decide) hne
  written e := absurd e (by decide)
  invalidated _ h _ ha := staleOlds_staleInvalidate h ha

/-! ### The data cache and the write buffer (20_memory R191; 46_cp0 R452) -/

/-- What operation op on a line may leave of MaybeDirty, of what memory may not have yet and of the write buffer. -/
structure BufferAfter (op line : Nat) (s : State) (d : List Nat) (un : List Host.Cell) (wb : List Buffered) :
    Prop where
  unwritten : op ∉ [0x0D, 0x15, 0x19] → un = s.unwritten
  buffer : op ∉ [0x15, 0x19] ∨ line ∉ s.maybeDirty → wb = s.writeBuffer
  writtenBack : op ∈ [0x15, 0x19] → (∀ c, c ∈ un ↔ c ∈ s.unwritten ∧ c.1 / 32 ≠ line)
    ∧ (line ∈ s.maybeDirty → ∃ b, wb = b :: s.writeBuffer ∧ b.after = 0
      ∧ (∀ a, a ∈ b.bytes ↔ a / 32 = line) ∧ (∀ c, c ∈ b.olds ↔ c ∈ s.unwritten ∧ c.1 / 32 = line))
  claimed : op = 0x0D → (∀ l, l ∈ d ↔ l ∈ s.maybeDirty ∨ l = line)
    ∧ ∀ a, a / 32 = line → (a, memRead s.mem a) ∈ un
  cleaned : op ∈ [0x15, 0x19] → ∀ l, l ∈ d ↔ l ∈ s.maybeDirty ∧ l ≠ line
  dirty : op ∉ [0x0D, 0x15, 0x19] → d = s.maybeDirty

theorem bufferAfter_same (h : op ∉ [0x0D, 0x15, 0x19]) :
    BufferAfter op line s s.maybeDirty s.unwritten s.writeBuffer where
  unwritten _ := rfl
  buffer _ := rfl
  writtenBack hop := absurd ((by decide : [0x15, 0x19] ⊆ [0x0D, 0x15, 0x19]) hop) h
  claimed e := absurd (by simp [e]) h
  cleaned hop := absurd ((by decide : [0x15, 0x19] ⊆ [0x0D, 0x15, 0x19]) hop) h
  dirty _ := rfl

theorem bufferAfter_claimLine : BufferAfter 0x0D line s (s.maybeDirty.insert line)
    (contents s.mem (lineBytes line) ∪ s.unwritten) s.writeBuffer where
  unwritten hne := absurd (by decide) hne
  buffer _ := rfl
  writtenBack hop := absurd hop (by decide)
  claimed _ := ⟨fun l => by rw [List.mem_insert_iff, or_comm], fun a ha =>
    List.mem_union_iff.2 (.inl ((mem_contents ..).2 ⟨mem_lineBytes.2 ha, rfl⟩))⟩
  cleaned hop := absurd hop (by decide)
  dirty hne := absurd (by decide) hne

theorem bufferLine_dirty (h : line ∈ s.maybeDirty) : s.bufferLine line =
    { bytes := lineBytes line, olds := s.unwritten.filter fun c => lineOf c.1 == line, after := 0 } :: s.writeBuffer :=
  if_pos (List.contains_iff_mem.2 h)

theorem bufferLine_clean (h : line ∉ s.maybeDirty) : s.bufferLine line = s.writeBuffer :=
  if_neg fun hc => h (List.contains_iff_mem.1 hc)

theorem bufferAfter_writeBackLine (h : op ∈ [0x15, 0x19]) : BufferAfter op line s (writeBackLine line s).maybeDirty
    (writeBackLine line s).unwritten (writeBackLine line s).writeBuffer where
  unwritten hne := absurd ((by decide : [0x15, 0x19] ⊆ [0x0D, 0x15, 0x19]) h) hne
  buffer hor := bufferLine_clean (hor.resolve_left (not_not.2 h))
  writtenBack _ := by
    refine ⟨fun c => by simp [writeBackLine, lineOf], fun hd => ⟨_, bufferLine_dirty hd, rfl, fun a => mem_lineBytes,
      fun c => by simp [lineOf]⟩⟩
  claimed e := absurd (e ▸ h) (by decide)
  cleaned _ l := by simp [writeBackLine]
  dirty hne := absurd ((by decide : [0x15, 0x19] ⊆ [0x0D, 0x15, 0x19]) h) hne

/-! ### The CP0 registers (46_cp0 R452; 70_reset_and_hazards R712) -/

/-- What operation op may leave of the CP0 registers. -/
structure Cp0After (op : Nat) (s : State) (c : Cp0) : Prop where
  fields : c = { s.cp0 with status := c.status, tagLo := c.tagLo, ecc := c.ecc }
  status : c.status &&& ~~~0x00040000#32 = s.cp0.status &&& ~~~0x00040000#32
  tags : op ∉ [0x04, 0x05, 0x07] → c.tagLo = s.cp0.tagLo ∧ c.ecc = s.cp0.ecc

theorem cp0After_same : Cp0After op s s.cp0 := ⟨rfl, rfl, fun _ => ⟨rfl, rfl⟩⟩

theorem putField_hit (w : BitVec 32) (b : BitVec 1) :
    putField w 18 b &&& ~~~0x00040000#32 = w &&& ~~~0x00040000#32 := by
  have mask : ∀ b : BitVec 1, b.setWidth 32 <<< 18 &&& ~~~0x00040000#32 = 0#32 := by decide
  rw [putField, BitVec.and_or_distrib_right, mask, BitVec.or_zero, BitVec.and_assoc]
  rfl

theorem cp0After_hit (hu : u.cp0 = s.cp0) : Cp0After op s (setCacheHit u).cp0 := by
  have status : (setCacheHit u).cp0 =
    { u.cp0 with status := putField u.cp0.status 18 (BitVec.ofBool (u.freeBit .cacheHit)) } := rfl
  rw [status, hu]
  exact ⟨rfl, putField_hit _ _, fun _ => ⟨rfl, rfl⟩⟩

theorem cp0After_loadTag (h : op ∈ [0x04, 0x05, 0x07]) : Cp0After op s (loadTag s).cp0 :=
  ⟨rfl, rfl, fun hne => absurd h hne⟩

/-! ### The whole operation -/

/-- What operation op may change. -/
def cacheTouched (op : Nat) : Touched :=
  { cp0 := true, stores := true, caches := true, buffer := true, window := decide (op ∈ [0x04, 0x05, 0x07]) }

/-- What operation op on a line leaves. -/
structure CacheAfter (op line : Nat) (s u : State) : Prop where
  keeps : Keeps (cacheTouched op) { s with mem := u.mem } u
  window : op ∈ [0x04, 0x05, 0x07] → OpensWindow s u
  memory : MemoryAfter op line s u.mem u.stale
  buffer : BufferAfter op line s u.maybeDirty u.unwritten u.writeBuffer
  devices : u.deviceStores = s.deviceStores
  cp0 : Cp0After op s u.cp0
  caches : op ∉ [0x08, 0x09, 0x03, 0x0B, 0x17] → u.caches = s.caches
  pc : u.pc = s.pc
  next : u.next = s.next

/-- The state with another memory and other records of what the caches and the write buffer hold. -/
def withCaches (m : List Host.Cell) (st : List StaleByte) (d : List Nat) (un : List Host.Cell) (wb : List Buffered)
    (c : CacheInit) (s : State) : State :=
  { s with mem := m, stale := st, maybeDirty := d, unwritten := un, writeBuffer := wb, caches := c }

section
variable {d : List Nat} {un : List Host.Cell} {wb : List Buffered} {c : CacheInit}

theorem keeps_withCaches : Keeps (cacheTouched op) { s with mem := m } (withCaches m st d un wb c s) :=
  { keeps_refl (cacheTouched op) { s with mem := m } with
    stores := fun hw => nomatch hw
    buffer := fun hw => nomatch hw
    caches := fun hw => nomatch hw }

theorem keeps_setCacheHit {w : Touched} (hw : w.cp0 = true) (h : Keeps w s t) : Keeps w s (setCacheHit t) :=
  { h with
    cp0 := fun hf => absurd (hw.symm.trans hf) (by decide)
    window := fun hf =>
      ⟨(sameWindow_onCp0 _ t).trans (h.window hf).1, fun hc => absurd (hw.symm.trans hc) (by decide)⟩ }

/-- An operation that leaves Status.CH. -/
theorem cacheAfter_of (hop : op ∉ [0x04, 0x05, 0x07]) (hm : MemoryAfter op line s m st)
    (hb : BufferAfter op line s d un wb) (hc : op ∉ [0x08, 0x09, 0x03, 0x0B, 0x17] → c = s.caches) :
    CacheAfter op line s (withCaches m st d un wb c s) :=
  ⟨keeps_withCaches, fun h => absurd h hop, hm, hb, rfl, cp0After_same, hc, rfl, rfl⟩

theorem cacheAfter_same (notLoad : op ∉ [0x04, 0x05, 0x07]) (notStale : op ∉ [0x10, 0x19])
    (notBuffer : op ∉ [0x0D, 0x15, 0x19]) : CacheAfter op line s s :=
  cacheAfter_of notLoad (memoryAfter_same notStale) (bufferAfter_same notBuffer) fun _ => rfl

/-- A hit operation, which writes it. -/
theorem cacheAfter_hit (hop : op ∉ [0x04, 0x05, 0x07]) (hm : MemoryAfter op line s m st)
    (hb : BufferAfter op line s d un wb) : CacheAfter op line s (setCacheHit (withCaches m st d un wb s.caches s)) :=
  ⟨keeps_setCacheHit rfl keeps_withCaches, fun h => absurd h hop, hm, hb, rfl, cp0After_hit rfl, fun _ => rfl, rfl, rfl⟩

end

theorem cacheAfter_loadTag (hop : op ∈ [0x04, 0x05, 0x07]) : CacheAfter op line s (issue s (loadTag s)) := by
  have other : ∀ o ∈ [0x04, 0x05, 0x07], o ∉ [0x10, 0x19] ∧ o ∉ [0x0D, 0x15, 0x19] := by decide
  have loaded : Keeps (cacheTouched op) s (loadTag s) :=
    { keeps_refl (cacheTouched op) s with cp0 := fun hw => nomatch hw }
  have keeps := keeps_issue (decide_eq_true hop) loaded
  refine ⟨?keeps, fun _ => opensWindow_issue s _ rfl, ?memory, ?buffer, by simp, ?cp0, fun _ => by simp, by simp,
    by simp⟩
  case keeps => rwa [issue_mem]
  case memory =>
    rw [issue_mem, issue_stale]
    exact memoryAfter_same (other op hop).1
  case buffer =>
    rw [issue_maybeDirty, issue_unwritten, issue_writeBuffer]
    exact bufferAfter_same (other op hop).2
  case cp0 =>
    rw [issue_cp0]
    exact cp0After_loadTag hop

theorem storeTagI_eq (va : Word) (s : State) : ∃ c, storeTagI va s = { s with caches := c } := by
  unfold storeTagI
  split
  · exact ⟨_, rfl⟩
  · exact ⟨s.caches, rfl⟩

theorem storeTagD_eq (va : Word) (s : State) : ∃ c, storeTagD va s = { s with caches := c } := by
  unfold storeTagD
  split
  · exact ⟨_, rfl⟩
  · exact ⟨s.caches, rfl⟩

theorem storeTagS_eq (pa : PAddr) (n : Nat) (s : State) : ∃ c, storeTagS pa n s = { s with caches := c } := by
  unfold storeTagS
  split
  · exact ⟨s.caches, rfl⟩
  · exact ⟨_, rfl⟩

/-- The operations that only count lines as initialised. -/
theorem cacheAfter_tagged (hop : op ∈ [0x08, 0x0B]) (h : ∃ c, u = { s with caches := c }) : CacheAfter op line s u := by
  have other : ∀ o ∈ [0x08, 0x0B], o ∉ [0x04, 0x05, 0x07] ∧ o ∉ [0x10, 0x19] ∧ o ∉ [0x0D, 0x15, 0x19]
    ∧ o ∈ [0x08, 0x09, 0x03, 0x0B, 0x17] := by decide
  obtain ⟨notLoad, notStale, notBuffer, tags⟩ := other op hop
  obtain ⟨c, rfl⟩ := h
  exact cacheAfter_of notLoad (memoryAfter_same notStale) (bufferAfter_same notBuffer) fun hne => absurd tags hne

/-- The operations that may discard every line of MaybeDirty as well. -/
theorem cacheAfter_scrambled (hop : op ∈ [0x09, 0x03, 0x17]) (h : ∃ c, u = { s with caches := c }) :
    CacheAfter op line s (scrambleDirty u) := by
  have other : ∀ o ∈ [0x09, 0x03, 0x17], o ∉ [0x04, 0x05, 0x07] ∧ o ∉ [0x0D, 0x15, 0x19]
    ∧ o ∈ [0x08, 0x09, 0x03, 0x0B, 0x17] := by decide
  obtain ⟨notLoad, notBuffer, tags⟩ := other op hop
  obtain ⟨c, rfl⟩ := h
  exact cacheAfter_of notLoad (memoryAfter_lines hop) (bufferAfter_same notBuffer) fun hne => absurd tags hne

theorem cacheAfter_invalidate :
    CacheAfter 0x10 line s (setCacheHit { s with stale := staleInvalidate s.stale line }) :=
  cacheAfter_hit (by decide) memoryAfter_invalidate (bufferAfter_same (by decide))

theorem claimLine_eq : claimLine line s = withCaches (scrambleLine s line s.mem) (staleLine s.mem s.stale line)
    (s.maybeDirty.insert line) (contents s.mem (lineBytes line) ∪ s.unwritten) s.writeBuffer s.caches s := by
  simp only [claimLine, recordStore, withCaches, if_true]

theorem cacheAfter_claim : CacheAfter 0x0D line s (claimLine line s) := by
  rw [claimLine_eq]
  exact cacheAfter_of (by decide) (memoryAfter_line (by decide)) bufferAfter_claimLine fun _ => rfl

theorem cacheAfter_writeBack : CacheAfter 0x15 line s (setCacheHit (writeBackLine line s)) :=
  cacheAfter_hit (by decide) (memoryAfter_same (by decide)) (bufferAfter_writeBackLine (by decide))

theorem cacheAfter_writeBackStep : CacheAfter 0x19 line s (setCacheHit (writeBackStep line s)) :=
  cacheAfter_hit (by decide) memoryAfter_writeBack (bufferAfter_writeBackLine (by decide))

theorem cacheAfter_discard : CacheAfter 0x11 line s (setCacheHit (discardLine line s)) := by
  unfold discardLine
  split
  · exact cacheAfter_hit (by decide) (memoryAfter_line (by decide)) (bufferAfter_same (by decide))
  · exact cacheAfter_hit (by decide) (memoryAfter_same (by decide)) (bufferAfter_same (by decide))

end

/-- The operations of the table that need the cache they work on (46_cp0 R451). -/
def CacheOpRuns (s : State) (va : Word) (op : Nat) : Prop :=
  op ∈ [0x00, 0x04, 0x08, 0x10, 0x14, 0x18, 0x01, 0x05, 0x09, 0x0D, 0x11, 0x15, 0x19]
    ∨ (op ∈ [0x03, 0x07, 0x0B] ∧ s.ss ≠ 3#2)
    ∨ (op = 0x17 ∧ s.ss ≠ 3#2 ∧ va.extractLsb' 0 12 = 0#12)

/-- Every operation of the table completes. -/
theorem cacheOp_after {s : State} {op5 : BitVec 5} {va : Word} (pa : PAddr) (h : CacheOpRuns s va op5.toNat) :
    ∃ u, cacheOp op5 va pa s = .ok u ∧ CacheAfter op5.toNat (pa.toNat / 32) s u := by
  unfold cacheOp
  generalize op5.toNat = op at h
  rcases h with hprimary | ⟨hsecondary, hss⟩ | ⟨rfl, hss, hpage⟩
  · simp only [List.mem_cons, List.not_mem_nil, or_false] at hprimary
    rcases hprimary with rfl | rfl | rfl | rfl | rfl | rfl | rfl | rfl | rfl | rfl | rfl | rfl | rfl
    · exact ⟨_, rfl, cacheAfter_same (by decide) (by decide) (by decide)⟩
    · exact ⟨_, rfl, cacheAfter_loadTag (by decide)⟩
    · exact ⟨_, rfl, cacheAfter_tagged (by decide) (storeTagI_eq va s)⟩
    · exact ⟨_, rfl, cacheAfter_invalidate⟩
    · exact ⟨_, rfl, cacheAfter_same (by decide) (by decide) (by decide)⟩
    · exact ⟨_, rfl, cacheAfter_hit (by decide) (memoryAfter_same (by decide)) (bufferAfter_same (by decide))⟩
    · exact ⟨_, rfl, cacheAfter_same (by decide) (by decide) (by decide)⟩
    · exact ⟨_, rfl, cacheAfter_loadTag (by decide)⟩
    · exact ⟨_, rfl, cacheAfter_scrambled (by decide) (storeTagD_eq va s)⟩
    · exact ⟨_, rfl, cacheAfter_claim⟩
    · exact ⟨_, rfl, cacheAfter_discard⟩
    · exact ⟨_, rfl, cacheAfter_writeBack⟩
    · exact ⟨_, rfl, cacheAfter_writeBackStep⟩
  · have present : (s.ss == 3#2) = false := beq_eq_false_iff_ne.2 hss
    simp only [List.mem_cons, List.not_mem_nil, or_false] at hsecondary
    rw [present]
    rcases hsecondary with rfl | rfl | rfl
    · exact ⟨_, rfl, cacheAfter_scrambled (by decide) ⟨_, rfl⟩⟩
    · exact ⟨_, rfl, cacheAfter_loadTag (by decide)⟩
    · exact ⟨_, rfl, cacheAfter_tagged (by decide) (storeTagS_eq pa 1 s)⟩
  · have present : (s.ss == 3#2) = false := beq_eq_false_iff_ne.2 hss
    rw [present, hpage]
    exact ⟨_, rfl, cacheAfter_scrambled (by decide) (storeTagS_eq _ 128 s)⟩

theorem cacheOp_unlisted {op5 : BitVec 5} (h : cacheOpListed op5 = false) (va : Word) (pa : PAddr) (s : State) :
    cacheOp op5 va pa s = .error (.refuse .cacheOpUndefined) := by
  unfold cacheOpListed at h
  unfold cacheOp
  dsimp only
  split
  case h_18 => rfl
  all_goals next hop => simp [hop] at h

/-- A secondary-cache operation without the cache, and a page invalidate off a page boundary (46_cp0 R451). -/
theorem cacheOp_undefined {op5 : BitVec 5} {va : Word} {s : State} (pa : PAddr)
    (h : (op5.toNat ∈ [0x03, 0x07, 0x0B, 0x17] ∧ s.ss = 3#2) ∨ (op5.toNat = 0x17 ∧ va.extractLsb' 0 12 ≠ 0#12)) :
    cacheOp op5 va pa s = .error (.refuse .cacheOpUndefined) := by
  unfold cacheOp
  generalize op5.toNat = op at h
  rcases h with ⟨hop, hss⟩ | ⟨rfl, hpage⟩
  · have absent : (s.ss == 3#2) = true := beq_iff_eq.2 hss
    simp only [List.mem_cons, List.not_mem_nil, or_false] at hop
    rw [absent]
    rcases hop with rfl | rfl | rfl | rfl <;> rfl
  · exact if_pos (by simp [hpage])

/-- Settles O36: every operation of the table completes in `CacheAfter`, and every other one is refused. -/
theorem cacheOperations : Obligations.CacheOperations := by
  intro s base op5 offset pa attr hcp0 ht hc hb
  have gate := requireUnit_cp0 s hcp0
  refine ⟨fun hattr hruns => ?completes, fun hstop => ?refused⟩
  case completes =>
    obtain ⟨u, hu, after⟩ := cacheOp_after (va := s.ea base offset) pa hruns
    have access : cacheAccess op5 (s.ea base offset) s = .ok u := by
      rw [cacheAccess_of ht hattr hc, hb, ← hu]
      rfl
    obtain ⟨keeps, window, memory, buffer, devices, cp0, caches, pc, next⟩ := after
    have cached {c : BitVec 3} (hne : c ≠ 2#3) (a : Nat) : (advance u).oldBytes c a = staleOlds u.stale a := by
      rw [oldBytes_cached _ _ _ hne, advance_stale]
    have uncached (a : Nat) (h : (a, memRead s.mem a) ∈ u.unwritten) :
        memRead s.mem a ∈ (advance u).oldBytes 2#3 a :=
      (mem_oldBytes_uncached ..).2 (List.mem_append_left _ ((advance_unwritten u).symm ▸ h))
    refine ⟨advance u, finish_of_entry gate access, ?_⟩
    simp only [advance_mem, advance_deviceStores, advance_stale, advance_unwritten, advance_writeBuffer,
      advance_maybeDirty, advance_cp0, advance_caches]
    exact ⟨keeps_advance _ _ _ keeps, fun h => (advance_recent u).trans (window (of_decide_eq_true h)), devices,
      fun a ha => cached (c := 3#3) (by decide) a ▸ memory.seen a ha, memory.kept, buffer.unwritten, buffer.buffer,
      buffer.writtenBack, fun h => ⟨(buffer.claimed h).1, fun a ha => uncached a ((buffer.claimed h).2 a ha)⟩,
      memory.discarded, cp0.fields, cp0.status, cp0.tags, buffer.cleaned, buffer.dirty, memory.written,
      fun h hs a c ha hne => (cached hne a).trans (memory.invalidated h hs a ha), caches, stepsOn_advance_of pc next⟩
  case refused =>
    have stops : cacheAccess op5 (s.ea base offset) s = .error (.refuse .cacheOpUndefined) := by
      by_cases hattr : attr = 2#3
      · rw [cacheAccess, ht, bind_ok, if_pos hattr]
      · rw [cacheAccess_of ht hattr hc, hb]
        rcases hstop with h | h | h
        · exact absurd h hattr
        · exact cacheOp_unlisted h ..
        · exact cacheOp_undefined pa h
    have hx : exec (.cache base op5 offset) s = finish s (cacheAccess op5 (s.ea base offset) s >>= fun t =>
        .ok (advance t)) := finish_after_gate gate
    rw [hx, stops]
    rfl

end Sys2Proof.Proofs

/-! PROOFS. The decoder and the encoder are inverse to each other. -/

namespace Sys2Proof.Proofs

open Sys2Proof.Laws Sys2Proof.Machine

set_option Elab.async false

/-! ### A word and its six fields (30_encoding R221) -/

theorem fieldsOf_pack (f : Fields) : fieldsOf f.pack = f := by
  obtain ⟨op, rs, rt, rd, sa, fn⟩ := f
  have op_eq : (op ++ rs ++ rt ++ rd ++ sa ++ fn).extractLsb' 26 6 = op := by
    iterate 5 rw [BitVec.extractLsb'_append_eq_of_le (by decide)]
    exact BitVec.extractLsb'_eq_self
  have rs_eq : (op ++ rs ++ rt ++ rd ++ sa ++ fn).extractLsb' 21 5 = rs := by
    iterate 4 rw [BitVec.extractLsb'_append_eq_of_le (by decide)]
    exact BitVec.extractLsb'_append_eq_right
  have rt_eq : (op ++ rs ++ rt ++ rd ++ sa ++ fn).extractLsb' 16 5 = rt := by
    iterate 3 rw [BitVec.extractLsb'_append_eq_of_le (by decide)]
    exact BitVec.extractLsb'_append_eq_right
  have rd_eq : (op ++ rs ++ rt ++ rd ++ sa ++ fn).extractLsb' 11 5 = rd := by
    iterate 2 rw [BitVec.extractLsb'_append_eq_of_le (by decide)]
    exact BitVec.extractLsb'_append_eq_right
  have sa_eq : (op ++ rs ++ rt ++ rd ++ sa ++ fn).extractLsb' 6 5 = sa := by
    rw [BitVec.extractLsb'_append_eq_of_le (by decide)]
    exact BitVec.extractLsb'_append_eq_right
  have fn_eq : (op ++ rs ++ rt ++ rd ++ sa ++ fn).extractLsb' 0 6 = fn := BitVec.extractLsb'_append_eq_right
  simp only [fieldsOf, Fields.pack, op_eq, rs_eq, rt_eq, rd_eq, sa_eq, fn_eq]

theorem pack_fieldsOf (w : BitVec 32) : (fieldsOf w).pack = w := by
  simp only [fieldsOf, Fields.pack]
  iterate 5 rw [BitVec.extractLsb'_append_extractLsb'_eq_extractLsb' (by rfl)]
  exact BitVec.extractLsb'_eq_self

/-! ### From the instruction to its fields and back -/

section
open RoundTrip

/-- One lemma of Laws/PerInstr for each instruction, in the order of the opcode table. -/
theorem decodeFields_encodeFields : ∀ i : Instr, decodeFields (encodeFields i) = .ok i :=
  Instr.rec lb lbu lh lhu lw lwu ld sb sh sw sd lwl lwr swl swr ldl ldr sdl sdr ll lld sc scd lwc1 ldc1 swc1 sdc1
    lwxc1 ldxc1 swxc1 sdxc1 pref prefx add addu sub subu dadd daddu dsub dsubu RoundTrip.and RoundTrip.or
    RoundTrip.xor nor slt sltu movn movz addi addiu daddi daddiu andi ori xori slti sltiu lui movf movt sll srl sra
    dsll dsrl dsra dsll32 dsrl32 dsra32 sllv srlv srav dsllv dsrlv dsrav mult multu div divu dmult dmultu ddiv ddivu
    mfhi mflo mthi mtlo j jal jr jalr beq bne beql bnel blez bgtz blezl bgtzl bltz bgez bltzal bgezal bltzl bgezl
    bltzall bgezall bc1f bc1t bc1fl bc1tl syscall brk sync tge tgeu tlt tltu teq tne tgei tgeiu tlti tltiu teqi tnei
    mfc0 dmfc0 mtc0 dmtc0 tlbr tlbwi tlbwr tlbp eret cache mfc1 dmfc1 cfc1 mtc1 dmtc1 ctc1 movS movfS movtS movnS
    movzS movD movfD movtD movnD movzD addS subS mulS divS sqrtS absS negS recipS rsqrtS addD subD mulD divD sqrtD
    absD negD recipD rsqrtD maddS maddD msubS msubD nmaddS nmaddD nmsubS nmsubD cFS cUnS cEqS cUeqS cOltS cUltS cOleS
    cUleS cSfS cNgleS cSeqS cNglS cLtS cNgeS cLeS cNgtS cFD cUnD cEqD cUeqD cOltD cUltD cOleD cUleD cSfD cNgleD cSeqD
    cNglD cLtD cNgeD cLeD cNgtD cvtWS cvtLS roundWS truncWS ceilWS floorWS roundLS truncLS ceilLS floorLS cvtWD cvtLD
    roundWD truncWD ceilWD floorWD roundLD truncLD ceilLD floorLD cvtSD cvtSW cvtSL cvtDS cvtDW cvtDL

end

/-- Settles O6: the six fields pack into a word without loss, and each instruction's fields decode to it. -/
theorem decodeOfEncode : Obligations.DecodeOfEncode := fun i => by
  rw [decode, encode, fieldsOf_pack, decodeFields_encodeFields]

theorem decode_of_encode_eq {w : BitVec 32} {i : Instr} (h : encode i = w) : decode w = .ok i := h ▸ decodeOfEncode i

/-- Settles O5: each word is the encoding of its instruction, and decodes to it by O6. -/
theorem decodesSpecWords : Obligations.DecodesSpecWords := by
  refine ⟨?_, ?_, ?_, ?_, ?_, ?_, ?_, ?_, ?_, ?_, ?_, ?_, ?_, ?_, ?_, ?_, ?_⟩ <;> exact decode_of_encode_eq rfl

/-! ### The fields joined in an operand (30_encoding R222) -/

section
variable (f : Fields)

@[simp] theorem imm_rd : f.imm.extractLsb' 11 5 = f.rd := by
  unfold Fields.imm
  rw [BitVec.extractLsb'_append_eq_of_le (by decide)]
  exact BitVec.extractLsb'_append_eq_left

@[simp] theorem imm_sa : f.imm.extractLsb' 6 5 = f.sa := by
  unfold Fields.imm
  rw [BitVec.extractLsb'_append_eq_of_le (by decide)]
  exact BitVec.extractLsb'_append_eq_right

@[simp] theorem imm_fn : f.imm.extractLsb' 0 6 = f.fn := BitVec.extractLsb'_append_eq_right

@[simp] theorem code10_rd : f.code10.extractLsb' 5 5 = f.rd := BitVec.extractLsb'_append_eq_left

@[simp] theorem code10_sa : f.code10.extractLsb' 0 5 = f.sa := BitVec.extractLsb'_append_eq_right

@[simp] theorem code20_rs : f.code20.extractLsb' 15 5 = f.rs := by
  unfold Fields.code20
  iterate 2 rw [BitVec.extractLsb'_append_eq_of_le (by decide)]
  exact BitVec.extractLsb'_append_eq_left

@[simp] theorem code20_rt : f.code20.extractLsb' 10 5 = f.rt := by
  unfold Fields.code20
  iterate 2 rw [BitVec.extractLsb'_append_eq_of_le (by decide)]
  exact BitVec.extractLsb'_append_eq_right

@[simp] theorem code20_rd : f.code20.extractLsb' 5 5 = f.rd := by
  unfold Fields.code20
  rw [BitVec.extractLsb'_append_eq_of_le (by decide)]
  exact BitVec.extractLsb'_append_eq_right

@[simp] theorem code20_sa : f.code20.extractLsb' 0 5 = f.sa := BitVec.extractLsb'_append_eq_right

@[simp] theorem target_rs : f.target.extractLsb' 21 5 = f.rs := by
  unfold Fields.target
  iterate 3 rw [BitVec.extractLsb'_append_eq_of_le (by decide)]
  exact BitVec.extractLsb'_append_eq_left

@[simp] theorem target_rt : f.target.extractLsb' 16 5 = f.rt := by
  unfold Fields.target
  iterate 3 rw [BitVec.extractLsb'_append_eq_of_le (by decide)]
  exact BitVec.extractLsb'_append_eq_right

@[simp] theorem target_rd : f.target.extractLsb' 11 5 = f.rd := by
  unfold Fields.target
  iterate 2 rw [BitVec.extractLsb'_append_eq_of_le (by decide)]
  exact BitVec.extractLsb'_append_eq_right

@[simp] theorem target_sa : f.target.extractLsb' 6 5 = f.sa := by
  unfold Fields.target
  rw [BitVec.extractLsb'_append_eq_of_le (by decide)]
  exact BitVec.extractLsb'_append_eq_right

@[simp] theorem target_fn : f.target.extractLsb' 0 6 = f.fn := BitVec.extractLsb'_append_eq_right

end

/-- A field read by its value is that constant. -/
theorem eq_ofNat_of_toNat_eq {n k : Nat} {x : BitVec n} (h : x.toNat = k) : x = BitVec.ofNat n k := by
  rw [← h, BitVec.ofNat_toNat, BitVec.setWidth_eq]

/-- A register field that holds a condition code over two bits. -/
theorem cc_join {x : BitVec 5} {b : BitVec 2} (h : x.extractLsb' 0 2 = b) : x.extractLsb' 2 3 ++ b = x := by
  rw [← h, BitVec.extractLsb'_append_extractLsb'_eq_extractLsb' (by rfl)]
  exact BitVec.extractLsb'_eq_self

theorem eq_three : ∀ {b : BitVec 2}, b.toNat ≠ 0 → b.toNat ≠ 1 → b.toNat ≠ 2 → b = 3#2 := by decide

/-! ### From the fields to the instruction and back -/

/-- Decoding the fields f to r drops none of them: what r names is encoded as f. -/
def Recovers (f : Fields) (r : Except Reject Instr) : Prop := ∀ i, r = .ok i → encodeFields i = f

section
variable {f : Fields} {i : Instr} {x y : Except Reject Instr} {c : Prop}

@[simp] theorem recovers_ok : Recovers f (.ok i) ↔ encodeFields i = f :=
  ⟨fun h => h i rfl, by rintro h _ ⟨⟩; exact h⟩

@[simp] theorem recovers_error (e : Reject) : Recovers f (.error e) := nofun

@[simp] theorem recovers_ite [Decidable c] :
    Recovers f (if c then x else y) ↔ (c → Recovers f x) ∧ (¬c → Recovers f y) := by
  split <;> simp [*]

end

/-! Arm by arm: the matched function code is a constant, every other field is an operand or checked to be zero, and a
register field matched by its low two bits is a condition code over them. -/

section
variable (rs rt rd sa : BitVec 5) (fn : BitVec 6)

theorem decodeSpecial_recovers :
    Recovers ⟨0#6, rs, rt, rd, sa, fn⟩ (decodeSpecial ⟨0#6, rs, rt, rd, sa, fn⟩) := by
  unfold decodeSpecial
  dsimp only
  split
  case h_2 h =>
    obtain rfl := eq_ofNat_of_toNat_eq h
    split
    case h_1 b => simp +contextual [encodeFields, cc_join (eq_ofNat_of_toNat_eq b)]
    case h_2 b => simp +contextual [encodeFields, cc_join (eq_ofNat_of_toNat_eq b)]
    case h_3 => exact recovers_error _
  case h_56 => exact recovers_error _
  all_goals
    next h =>
    obtain rfl := eq_ofNat_of_toNat_eq h
    simp +contextual [encodeFields]

theorem decodeRegimm_recovers :
    Recovers ⟨1#6, rs, rt, rd, sa, fn⟩ (decodeRegimm ⟨1#6, rs, rt, rd, sa, fn⟩) := by
  unfold decodeRegimm
  dsimp only
  split
  case h_15 => exact recovers_error _
  all_goals
    next h =>
    obtain rfl := eq_ofNat_of_toNat_eq h
    simp [encodeFields]

theorem decodeCop0_recovers :
    Recovers ⟨16#6, rs, rt, rd, sa, fn⟩ (decodeCop0 ⟨16#6, rs, rt, rd, sa, fn⟩) := by
  unfold decodeCop0
  dsimp only
  split
  case isTrue =>
    split
    case h_6 => exact recovers_error _
    all_goals
      next h =>
      obtain rfl := eq_ofNat_of_toNat_eq h
      simp +contextual [encodeFields]
  case isFalse =>
    split
    case h_5 => exact recovers_error _
    all_goals
      next h =>
      obtain rfl := eq_ofNat_of_toNat_eq h
      simp +contextual [encodeFields]

theorem decodeFmtS_recovers :
    Recovers ⟨17#6, 16#5, rt, rd, sa, fn⟩ (decodeFmtS ⟨17#6, 16#5, rt, rd, sa, fn⟩) := by
  unfold decodeFmtS
  dsimp only
  split
  case h_17 h =>
    obtain rfl := eq_ofNat_of_toNat_eq h
    split
    case h_1 b => simp [encodeFields, cc_join (eq_ofNat_of_toNat_eq b)]
    case h_2 b => simp [encodeFields, cc_join (eq_ofNat_of_toNat_eq b)]
    case h_3 => exact recovers_error _
  case h_41 => exact recovers_error _
  all_goals
    next h =>
    obtain rfl := eq_ofNat_of_toNat_eq h
    simp +contextual [encodeFields, cc_join]

theorem decodeFmtD_recovers :
    Recovers ⟨17#6, 17#5, rt, rd, sa, fn⟩ (decodeFmtD ⟨17#6, 17#5, rt, rd, sa, fn⟩) := by
  unfold decodeFmtD
  dsimp only
  split
  case h_17 h =>
    obtain rfl := eq_ofNat_of_toNat_eq h
    split
    case h_1 b => simp [encodeFields, cc_join (eq_ofNat_of_toNat_eq b)]
    case h_2 b => simp [encodeFields, cc_join (eq_ofNat_of_toNat_eq b)]
    case h_3 => exact recovers_error _
  case h_41 => exact recovers_error _
  all_goals
    next h =>
    obtain rfl := eq_ofNat_of_toNat_eq h
    simp +contextual [encodeFields, cc_join]

theorem decodeFmtW_recovers :
    Recovers ⟨17#6, 20#5, rt, rd, sa, fn⟩ (decodeFmtW ⟨17#6, 20#5, rt, rd, sa, fn⟩) := by
  unfold decodeFmtW
  dsimp only
  split
  case h_3 => exact recovers_error _
  all_goals
    next h =>
    obtain rfl := eq_ofNat_of_toNat_eq h
    simp +contextual [encodeFields]

theorem decodeFmtL_recovers :
    Recovers ⟨17#6, 21#5, rt, rd, sa, fn⟩ (decodeFmtL ⟨17#6, 21#5, rt, rd, sa, fn⟩) := by
  unfold decodeFmtL
  dsimp only
  split
  case h_3 => exact recovers_error _
  all_goals
    next h =>
    obtain rfl := eq_ofNat_of_toNat_eq h
    simp +contextual [encodeFields]

theorem decodeCop1_recovers :
    Recovers ⟨17#6, rs, rt, rd, sa, fn⟩ (decodeCop1 ⟨17#6, rs, rt, rd, sa, fn⟩) := by
  unfold decodeCop1
  dsimp only
  split
  case h_7 h =>
    obtain rfl := eq_ofNat_of_toNat_eq h
    split
    case h_1 b => simp [encodeFields, cc_join (eq_ofNat_of_toNat_eq b)]
    case h_2 b => simp [encodeFields, cc_join (eq_ofNat_of_toNat_eq b)]
    case h_3 b => simp [encodeFields, cc_join (eq_ofNat_of_toNat_eq b)]
    case h_4 b0 b1 b2 => simp [encodeFields, cc_join (eq_three b0 b1 b2)]
  case h_8 h => exact eq_ofNat_of_toNat_eq h ▸ decodeFmtS_recovers rt rd sa fn
  case h_9 h => exact eq_ofNat_of_toNat_eq h ▸ decodeFmtD_recovers rt rd sa fn
  case h_10 h => exact eq_ofNat_of_toNat_eq h ▸ decodeFmtW_recovers rt rd sa fn
  case h_11 h => exact eq_ofNat_of_toNat_eq h ▸ decodeFmtL_recovers rt rd sa fn
  case h_12 => split <;> exact recovers_error _
  all_goals
    next h =>
    obtain rfl := eq_ofNat_of_toNat_eq h
    simp +contextual [encodeFields]

theorem decodeCop1x_recovers :
    Recovers ⟨19#6, rs, rt, rd, sa, fn⟩ (decodeCop1x ⟨19#6, rs, rt, rd, sa, fn⟩) := by
  unfold decodeCop1x
  dsimp only
  split
  case h_14 => exact recovers_error _
  all_goals
    next h =>
    obtain rfl := eq_ofNat_of_toNat_eq h
    simp +contextual [encodeFields]

end

theorem decodeFields_recovers (f : Fields) : Recovers f (decodeFields f) := by
  obtain ⟨op, rs, rt, rd, sa, fn⟩ := f
  unfold decodeFields
  dsimp only
  split
  case h_1 h => exact eq_ofNat_of_toNat_eq h ▸ decodeSpecial_recovers rs rt rd sa fn
  case h_2 h => exact eq_ofNat_of_toNat_eq h ▸ decodeRegimm_recovers rs rt rd sa fn
  case h_3 h => exact eq_ofNat_of_toNat_eq h ▸ decodeCop0_recovers rs rt rd sa fn
  case h_4 h => exact eq_ofNat_of_toNat_eq h ▸ decodeCop1_recovers rs rt rd sa fn
  case h_6 h => exact eq_ofNat_of_toNat_eq h ▸ decodeCop1x_recovers rs rt rd sa fn
  case h_60 => exact recovers_error _
  all_goals
    next h =>
    obtain rfl := eq_ofNat_of_toNat_eq h
    simp +contextual [encodeFields]

/-- Settles O7: no decoder of the table drops a field, and the fields hold every bit of the word. -/
theorem encodeOfDecode : Obligations.EncodeOfDecode := fun w i h => by
  rw [encode, decodeFields_recovers (fieldsOf w) i h, pack_fieldsOf]

end Sys2Proof.Proofs

/-! PROOFS. The coprocessor unit of an instruction and of a word that is none, checked before anything else. -/

namespace Sys2Proof.Proofs

open Sys2Proof.Machine

set_option Elab.async false

/-! ### Instructions of a unit (30_encoding R240) -/

section
variable {α β : Type} {i : Instr} {s : State} {u : BitVec 2} {e : Exc}

/-- What a sequence begins with, the instruction begins with. -/
theorem begins_of_bind {x : Except Stop α} {f : α → Except Stop β} (h : Begins i s (x >>= f)) : Begins i s x :=
  have ⟨g, hx⟩ := h
  ⟨fun a => f a >>= g, hx.trans (congrArg (finish s) (bind_assoc x f g))⟩

/-- The instruction, where it is one of a coprocessor unit, takes whatever exception the check of its unit raises. -/
def ChecksUnit (i : Instr) (s : State) : Prop :=
  ∀ u e, unitOf i = some u → requireUnit u s = .error (.exc e) → Takes i s e

theorem checksUnit_of_none (hu : unitOf i = none) : ChecksUnit i s := fun _ _ h => nomatch hu.symm.trans h

theorem checksUnit_of_begins (hu : unitOf i = some u) (h : Begins i s (requireUnit u s)) : ChecksUnit i s := by
  intro u' e hu' he
  obtain rfl : u = u' := Option.some.inj (hu.symm.trans hu')
  exact takes_of_begins h he

theorem checksUnit_of_fpRun {f : Unit → Except Stop Unit} {c : BitVec 6} {write : State → State}
    (hu : unitOf i = some 1#2) (hx : exec i s = fpRun (requireUnit 1#2 s >>= f) s c write) : ChecksUnit i s := by
  intro u e hu' he
  obtain rfl : 1#2 = u := Option.some.inj (hu.symm.trans hu')
  rw [Takes, hx, he]
  rfl

theorem checksUnit_ctc1 (rt fs : Reg) : ChecksUnit (.ctc1 rt fs) s := by
  rintro _ e ⟨⟩ he
  show execCtc1 rt fs s = _
  rw [execCtc1, he]
  rfl

/-- Every instruction of a unit checks it before anything else. -/
theorem checksUnit (i : Instr) (s : State) : ChecksUnit i s := by
  cases i
  case mfc0 | dmfc0 | mtc0 | dmtc0 | tlbr | tlbwi | tlbwr | tlbp | eret | cache | lwc1 | ldc1 | swc1 | sdc1 | lwxc1
      | ldxc1 | swxc1 | sdxc1 | prefx | movf | movt | mfc1 | dmfc1 | cfc1 | mtc1 | dmtc1 =>
    exact checksUnit_of_begins rfl ⟨_, rfl⟩
  case bc1f | bc1t | bc1fl | bc1tl => exact checksUnit_of_begins rfl (begins_of_bind ⟨_, rfl⟩)
  case movS | movD | movfS | movtS | movnS | movzS | movfD | movtD | movnD | movzD =>
    exact checksUnit_of_begins rfl (begins_of_bind ⟨_, rfl⟩)
  case ctc1 rt fs => exact checksUnit_ctc1 rt fs
  case addS | subS | mulS | divS | sqrtS | absS | negS | recipS | rsqrtS | addD | subD | mulD | divD | sqrtD | absD
      | negD | recipD | rsqrtD | maddS | maddD | msubS | msubD | nmaddS | nmaddD | nmsubS | nmsubD | cFS | cUnS | cEqS
      | cUeqS | cOltS | cUltS | cOleS | cUleS | cSfS | cNgleS | cSeqS | cNglS | cLtS | cNgeS | cLeS | cNgtS | cFD | cUnD
      | cEqD | cUeqD | cOltD | cUltD | cOleD | cUleD | cSfD | cNgleD | cSeqD | cNglD | cLtD | cNgeD | cLeD | cNgtD
      | cvtWS | cvtLS | roundWS | truncWS | ceilWS | floorWS | roundLS | truncLS | ceilLS | floorLS | cvtWD | cvtLD
      | roundWD | truncWD | ceilWD | floorWD | roundLD | truncLD | ceilLD | floorLD | cvtSD | cvtSW | cvtSL | cvtDS
      | cvtDW | cvtDL =>
    exact checksUnit_of_fpRun rfl rfl
  all_goals exact checksUnit_of_none rfl

end

/-- Settles O9: the check of an unusable unit raises the exception, and every instruction of a unit begins with it. -/
theorem unusableUnitTraps : Obligations.UnusableUnitTraps := fun i u s hu hcu hb =>
  checksUnit i s u _ hu (requireUnit_unusable u s hcu hb)

/-! ### Words that are no instruction (30_encoding R231 to R233, 46_cp0 R454, R456) -/

section
variable {w : BitVec 32} {s : State} {r : Reject} {g : Except Stop Unit} {st : Stop}

theorem execWord_rejected (h : decode w = .error r) : execWord w s = execReject r s := by
  unfold execWord
  rw [h]

theorem unimplementedFp_stops (hg : g = .error st) : unimplementedFp g s = stopOut st s := by rw [hg]; rfl

theorem unimplementedFp_ok (hg : g = .ok ()) :
    unimplementedFp g s = .next (takeException .floatingPoint (setFcrCause 0x20#6 s)) := by rw [hg]; rfl

theorem finish_gate_stops {x : Except Stop State} (hg : g = .error st) :
    finish s (g >>= fun _ => x) = stopOut st s := by rw [hg]; rfl

/-- A word of a unit, refused or reserved, whose unit is not usable. -/
theorem execWord_unusable {u : BitVec 2}
    (h : decode w = .error (.reserved (some u)) ∨ decode w = .error (.mustBeZero (some u)))
    (hu : requireUnit u s = .error (.exc (.coprocessorUnusable u))) :
    execWord w s = .next (takeException (.coprocessorUnusable u) s) := by
  rcases h with h | h <;> exact (execWord_rejected h).trans (finish_gate_stops hu)

end

/-- Settles O42: each kind of rejected word by its gates, in their order. -/
theorem reservedWords : Obligations.ReservedWords := by
  refine ⟨fun w s => ?kinds, rfl, rfl, rfl, rfl, rfl, rfl, rfl, rfl, rfl, rfl, rfl⟩
  have unusable (hcu : s.cu 1 = false) := requireUnit_unusable 1#2 s hcu (absurd · (by decide))
  refine ⟨execWord_rejected, execWord_rejected,
    fun u h hcu hb => execWord_unusable h (requireUnit_unusable u s hcu hb), fun u hu => ?usable,
    fun h => ⟨fun hcu => ?fp, fun hcu => ?fpUnusable⟩,
    fun h => ⟨fun hcu => ?fp4Unusable, fun hcu hcu3 => ?fp4, fun hcu hcu3 => ?fp4Disabled⟩,
    fun h => ⟨fun hcu => ?cop2Unusable, fun hcu => ?cop2⟩⟩
  case usable =>
    have gate : requireUnit u s = .ok () := by
      rcases hu with hcu | ⟨rfl, hk⟩
      · exact requireUnit_usable u s hcu
      · exact requireUnit_kernel s hk
    exact ⟨fun h => (execWord_rejected h).trans (finish_after_gate gate),
      fun h => (execWord_rejected h).trans (finish_after_gate gate)⟩
  case fp => exact (execWord_rejected h).trans (unimplementedFp_ok (requireUnit_usable 1#2 s hcu))
  case fpUnusable => exact (execWord_rejected h).trans (unimplementedFp_stops (unusable hcu))
  case fp4Unusable =>
    refine (execWord_rejected h).trans (unimplementedFp_stops (st := .exc (.coprocessorUnusable 1#2)) ?_)
    rw [unusable hcu, bind_error]
  case fp4 =>
    refine (execWord_rejected h).trans (unimplementedFp_ok ?_)
    rw [requireUnit_usable 1#2 s hcu, bind_ok, requireMips4_enabled s hcu3]
  case fp4Disabled =>
    have gate {st : Stop} (h4 : requireMips4 s = .error st) : execWord w s = stopOut st s := by
      refine (execWord_rejected h).trans (unimplementedFp_stops ?_)
      rw [requireUnit_usable 1#2 s hcu, bind_ok, h4]
    exact ⟨fun hb hk => gate (requireMips4_user s hcu3 hb hk), fun hm => gate (requireMips4_above s hcu3 hm)⟩
  case cop2Unusable =>
    exact (execWord_rejected h).trans (finish_gate_stops (requireUnit_unusable 2#2 s hcu (absurd · (by decide))))
  case cop2 => exact (execWord_rejected h).trans (finish_after_gate (requireUnit_usable 2#2 s hcu))

end Sys2Proof.Proofs

/-! PROOFS. User mode: what an instruction may change of the TLB, CP0, the timer latch and the caches. -/

namespace Sys2Proof.Proofs

open Sys2Proof.Machine

set_option Elab.async false

/-! ### The system state that User mode has to keep -/

/-- The TLB, the CP0 registers but LLAddr, the timer latch and the record of the initialised cache lines. -/
def systemPart (s : State) : Vector TlbEntry 48 × Cp0 × Bool × CacheInit :=
  (s.tlb, { s.cp0 with llAddr := 0#32 }, s.timerLatch, s.caches)

theorem systemPart_eq_iff {s t : State} : systemPart t = systemPart s ↔ t.tlb = s.tlb
    ∧ t.cp0 = { s.cp0 with llAddr := t.cp0.llAddr } ∧ t.timerLatch = s.timerLatch ∧ t.caches = s.caches := by
  have registers : ({ t.cp0 with llAddr := 0#32 } : Cp0) = { s.cp0 with llAddr := 0#32 }
      ↔ t.cp0 = { s.cp0 with llAddr := t.cp0.llAddr } :=
    ⟨fun h => congrArg (fun c : Cp0 => { c with llAddr := t.cp0.llAddr }) h,
      fun h => congrArg (fun c : Cp0 => { c with llAddr := 0#32 }) h⟩
  simp only [systemPart, Prod.mk.injEq, registers]

section
variable {s t : State}

@[simp] theorem systemPart_setGpr (r : Reg) (v : Word) : systemPart (setGpr r v s) = systemPart s := by
  simp [systemPart]

@[simp] theorem systemPart_setFgrLow (i : Reg) (v : BitVec 32) : systemPart (setFgrLow i v s) = systemPart s := rfl

@[simp] theorem systemPart_setFpr64 (i : Reg) (v : Word) : systemPart (setFpr64 i v s) = systemPart s := by
  simp [systemPart]

@[simp] theorem systemPart_setFpr (f : FpFmt) (i : Reg) (v : Word) : systemPart (setFpr f i v s) = systemPart s := by
  cases f with
  | s => exact systemPart_setFgrLow i (low v)
  | d => exact systemPart_setFpr64 i v

@[simp] theorem systemPart_setFprInt (f : IntFmt) (i : Reg) (v : Word) :
    systemPart (setFprInt f i v s) = systemPart s := by
  cases f with
  | w => exact systemPart_setFgrLow i (low v)
  | l => exact systemPart_setFpr64 i v

@[simp] theorem systemPart_setFcc (cc : BitVec 3) (v : Bool) : systemPart (setFcc cc v s) = systemPart s := rfl

@[simp] theorem systemPart_setHiLo (x y : Word) : systemPart (setHiLo x y s) = systemPart s := rfl

@[simp] theorem systemPart_freeHiLo : systemPart (freeHiLo s) = systemPart s := rfl

@[simp] theorem systemPart_advance : systemPart (advance s) = systemPart s := by simp [systemPart]

@[simp] theorem systemPart_accessed : systemPart (accessed s) = systemPart s := by simp [systemPart]

@[simp] theorem systemPart_branchTo (x : Word) : systemPart (branchTo x s) = systemPart s := rfl

@[simp] theorem systemPart_loaded (pa : PAddr) : systemPart (loaded pa s) = systemPart s := by
  simp [systemPart]

@[simp] theorem systemPart_failLink (fair : Bool) : systemPart (failLink fair s) = systemPart s := by
  simp [systemPart]

@[simp] theorem systemPart_endLink : systemPart (endLink s) = systemPart s := rfl

/-- LLAddr is the one register a load linked writes. -/
@[simp] theorem systemPart_setLink (pa : PAddr) (attr : BitVec 3) : systemPart (setLink pa attr s) = systemPart s := rfl

@[simp] theorem systemPart_writeGpr (r : Reg) (v : Word) : systemPart (writeGpr r v s) = systemPart s := by
  simp [writeGpr]

@[simp] theorem systemPart_moveIf (c : Bool) (rd rs : Reg) : systemPart (moveIf c rd rs s) = systemPart s := by
  cases c <;> simp [moveIf]

@[simp] theorem systemPart_branchIf (c : Bool) (offset : BitVec 16) :
    systemPart (branchIf c offset s) = systemPart s := rfl

@[simp] theorem systemPart_branchLikely (c : Bool) (offset : BitVec 16) :
    systemPart (branchLikely c offset s) = systemPart s := by
  cases c <;> rfl

theorem systemPart_advance_hiLo (c : Bool) (x y : Word) :
    systemPart (advance (if c then setHiLo x y s else freeHiLo s)) = systemPart s := by
  cases c <;> simp

@[simp] theorem systemPart_link (r : Reg) : systemPart (link r s) = systemPart s := systemPart_setGpr ..

theorem systemPart_written {attr : BitVec 3} {pa : PAddr} {n : Nat} {v : Word} (h : Written s attr pa n v t) :
    systemPart t = systemPart s := by
  cases h with
  | dropped _ => rfl
  | ram _ => simp [systemPart]
  | device _ _ => rfl

end

/-! ### The ends of an instruction in User mode -/

/-- The instruction takes an exception, FCR31 written before it where it is the Floating-Point exception, or keeps the
system state. -/
def EndsInUser (s t : State) : Prop :=
  (∃ e, t = takeException e s) ∨ (∃ f31, t = takeException .floatingPoint { s with fcr31 := f31 })
    ∨ systemPart t = systemPart s

/-- Completed parts of an instruction keep the system state. -/
def KeepsSystem (s : State) : Except Stop State → Prop := Yields fun t => systemPart t = systemPart s

section
variable {s t : State} {r : Except Stop State} {va : Word} {n : Nat}

theorem leads_systemPart (h : systemPart t = systemPart s) : Leads (EndsInUser s) (.next t) :=
  leads_next (.inr (.inr h))

theorem leads_takes {i : Instr} {e : Exc} (h : Takes i s e) : Leads (EndsInUser s) (exec i s) := by
  rw [show exec i s = _ from h]
  exact leads_next (.inl ⟨e, rfl⟩)

theorem leads_finish (h : KeepsSystem s r) : Leads (EndsInUser s) (finish s r) := fun t ht => by
  rcases (finish_next s t r).1 ht with hok | ⟨e, -, rfl⟩
  · exact .inr (.inr (h t hok))
  · exact .inl ⟨e, rfl⟩

theorem leads_gated {g : Except Stop Unit} (h : systemPart t = systemPart s) :
    Leads (EndsInUser s) (finish s (g >>= fun _ => .ok t)) :=
  leads_finish (yields_after fun _ => yields_ok h)

/-- An FPU operation writes FCR31 before its Floating-Point exception. -/
theorem leads_fpRun (gate : Except Stop Unit) (c : BitVec 6) {write : State → State}
    (hw : ∀ t, systemPart (write t) = systemPart t) : Leads (EndsInUser s) (fpRun gate s c write) := fun t ht => by
  rcases fpRun_next gate s t c write ht with ⟨e, -, rfl⟩ | ⟨-, -, rfl⟩ | ⟨-, -, rfl⟩
  · exact .inl ⟨e, rfl⟩
  · exact .inr (.inl ⟨_, rfl⟩)
  · exact .inr (.inr (systemPart_advance.trans (hw _)))

theorem leads_ctc1 (rt fs : Reg) : Leads (EndsInUser s) (execCtc1 rt fs s) := by
  unfold execCtc1 ctc1Finish
  rcases requireUnit 1#2 s with st | ⟨⟩
  · exact leads_finish (yields_error st)
  · dsimp only
    split
    · split
      · exact leads_next (.inr (.inl ⟨_, rfl⟩))
      · exact leads_systemPart systemPart_advance
    · exact leads_refused _

theorem leads_trapIf (c : Bool) : Leads (EndsInUser s) (trapIf c s) :=
  leads_finish (yields_ite (yields_error _) (yields_ok systemPart_advance))

theorem leads_moveFprIf (f : FpFmt) (c : Bool) (fs fd : Reg) : Leads (EndsInUser s) (moveFprIf f c fs fd s) :=
  leads_gated (by cases c <;> simp [copyFpr])

theorem keepsSystem_trap32 (ok : Bool) (x : BitVec 33) (rd : Reg) : KeepsSystem s (trap32 ok x rd s) :=
  yields_ite (yields_error _) (yields_ok (systemPart_writeGpr ..))

theorem keepsSystem_trap64 (x : BitVec 65) (rd : Reg) : KeepsSystem s (trap64 x rd s) :=
  yields_ite (yields_error _) (yields_ok (systemPart_writeGpr ..))

theorem keepsSystem_loadGpr (ext : Word → Word) (rt : Reg) : KeepsSystem s (loadGpr n ext rt va s) :=
  yields_after fun _ => yields_ok (by simp)

theorem keepsSystem_loadLinked (ext : Word → Word) (rt : Reg) : KeepsSystem s (loadLinked n ext rt va s) :=
  yields_after fun _ => yields_ok (by simp)

theorem keepsSystem_storeBytes (v : Word) : KeepsSystem s (storeBytes n v va s) := yields_bind fun t ht =>
  have ⟨_, _, _, _, hw⟩ := memStore_ok s t va n v ht
  yields_ok (systemPart_accessed.trans (systemPart_written hw))

theorem keepsSystem_storePart (left : Bool) (v : Nat → Word) :
    KeepsSystem s (do let t ← partStore s left va n v; .ok (accessed t)) := yields_bind fun t ht =>
  have ⟨_, _, _, hw⟩ := partStore_ok s t left va n v ht
  yields_ok (systemPart_accessed.trans (systemPart_written hw))

theorem keepsSystem_storeConditional (rt : Reg) : KeepsSystem s (storeConditional n rt va s) := by
  refine yields_after fun _ => yields_after fun p => yields_ite ?stores ?fails
  case stores =>
    exact yields_bind fun t ht => yields_ok (by simpa using systemPart_written (physWrite_ok s t p.2 p.1 n _ ht))
  case fails => exact yields_ok (by simp)

end

/-- With CP0 not usable, its instructions take Coprocessor Unusable; the others write no system state but LLAddr. -/
theorem exec_endsInUser {s : State} {e : Exc} (h0 : requireUnit 0#2 s = .error (.exc e)) (i : Instr) :
    Leads (EndsInUser s) (exec i s) := by
  cases i
  -- CP0
  case mfc0 | dmfc0 | mtc0 | dmtc0 | tlbr | tlbwi | tlbwr | tlbp | eret | cache =>
    exact leads_takes (checksUnit _ s _ _ rfl h0)
  -- Loads and stores
  case lb | lbu | lh | lhu | lw => exact leads_finish (keepsSystem_loadGpr _ _)
  case lwu | ld => exact leads_finish (yields_after fun _ => keepsSystem_loadGpr _ _)
  case sb | sh | sw => exact leads_finish (keepsSystem_storeBytes _)
  case sd | swc1 => exact leads_finish (yields_after fun _ => keepsSystem_storeBytes _)
  case sdc1 => exact leads_finish (yields_after fun _ => yields_after fun _ => keepsSystem_storeBytes _)
  case lwl | lwr => exact leads_finish (yields_after fun _ => yields_ok (by simp))
  case ldl | ldr => exact leads_finish (yields_after fun _ => yields_after fun _ => yields_ok (by simp))
  case swl | swr => exact leads_finish (keepsSystem_storePart _ _)
  case sdl | sdr => exact leads_finish (yields_after fun _ => keepsSystem_storePart _ _)
  case ll => exact leads_finish (keepsSystem_loadLinked _ _)
  case lld => exact leads_finish (yields_after fun _ => keepsSystem_loadLinked _ _)
  case sc => exact leads_finish (keepsSystem_storeConditional _)
  case scd => exact leads_finish (yields_after fun _ => keepsSystem_storeConditional _)
  case lwc1 => exact leads_finish (yields_after fun _ => yields_after fun _ => yields_ok (by simp))
  case ldc1 =>
    exact leads_finish (yields_after fun _ => yields_after fun _ => yields_after fun _ => yields_ok (by simp))
  case lwxc1 =>
    exact leads_finish (yields_after fun _ => yields_after fun _ => yields_after fun _ => yields_after fun _ =>
      yields_ok (by simp))
  case ldxc1 =>
    exact leads_finish (yields_after fun _ => yields_after fun _ => yields_after fun _ => yields_after fun _ =>
      yields_after fun _ => yields_ok (by simp))
  case swxc1 =>
    exact leads_finish (yields_after fun _ => yields_after fun _ => yields_after fun _ => keepsSystem_storeBytes _)
  case sdxc1 =>
    exact leads_finish (yields_after fun _ => yields_after fun _ => yields_after fun _ => yields_after fun _ =>
      keepsSystem_storeBytes _)
  case pref => exact leads_gated systemPart_advance
  case prefx => exact leads_finish (yields_after fun _ => yields_after fun _ => yields_ok systemPart_advance)
  -- Integer arithmetic, logic and shifts
  case add | sub | addi => exact leads_finish (keepsSystem_trap32 _ _ _)
  case dadd | dsub | daddi => exact leads_finish (yields_after fun _ => keepsSystem_trap64 _ _)
  case addu | subu | addiu | and | or | xor | nor | andi | ori | xori | slt | sltu | slti | sltiu | lui | sll | srl
      | sra | sllv | srlv | srav =>
    exact leads_systemPart (systemPart_writeGpr ..)
  case daddu | dsubu | daddiu | dsll | dsrl | dsra | dsll32 | dsrl32 | dsra32 | dsllv | dsrlv | dsrav =>
    exact leads_gated (systemPart_writeGpr ..)
  case movn | movz => exact leads_gated (systemPart_moveIf ..)
  case movf | movt =>
    exact leads_finish (yields_after fun _ => yields_after fun _ => yields_ok (systemPart_moveIf ..))
  -- HI and LO
  case mult | multu | div | divu => exact leads_gated (systemPart_advance_hiLo ..)
  case dmult | dmultu =>
    exact leads_finish (yields_after fun _ => yields_after fun _ => yields_ok systemPart_advance)
  case ddiv | ddivu =>
    exact leads_finish (yields_after fun _ => yields_after fun _ => yields_ok (systemPart_advance_hiLo ..))
  case mfhi | mflo => exact leads_systemPart (systemPart_writeGpr ..)
  case mthi | mtlo => exact leads_gated systemPart_advance
  -- Jumps and branches
  case j | jr => exact leads_gated rfl
  case jal => exact leads_gated (by simp)
  case jalr => exact leads_finish (yields_after fun _ => yields_ite (yields_error _) (yields_ok (by simp)))
  case beq | bne | blez | bgtz | bltz | bgez | bc1f | bc1t => exact leads_gated rfl
  case beql | bnel | blezl | bgtzl | bltzl | bgezl | bc1fl | bc1tl => exact leads_gated (systemPart_branchLikely ..)
  case bltzal | bgezal | bltzall | bgezall =>
    exact leads_finish (yields_after fun _ => yields_after fun _ => yields_ok (by simp))
  -- System calls and traps
  case syscall | brk => exact leads_next (.inl ⟨_, rfl⟩)
  case sync => exact leads_systemPart systemPart_advance
  case tge | tgeu | tlt | tltu | teq | tne | tgei | tgeiu | tlti | tltiu | teqi | tnei => exact leads_trapIf _
  -- FPU moves
  case mfc1 | cfc1 | mtc1 => exact leads_gated (by simp)
  case dmfc1 | dmtc1 =>
    exact leads_finish (yields_after fun _ => yields_after fun _ => yields_after fun _ => yields_ok (by simp))
  case ctc1 => exact leads_ctc1 _ _
  case movS | movD => exact leads_gated (systemPart_advance.trans (systemPart_setFpr ..))
  case movfS | movtS | movnS | movzS | movfD | movtD | movnD | movzD => exact leads_moveFprIf _ _ _ _
  -- FPU arithmetic, compares and conversions
  case addS | subS | mulS | divS | sqrtS | absS | negS | recipS | rsqrtS | addD | subD | mulD | divD | sqrtD | absD
      | negD | recipD | rsqrtD | maddS | maddD | msubS | msubD | nmaddS | nmaddD | nmsubS | nmsubD | cvtSD | cvtSW
      | cvtSL | cvtDS | cvtDW | cvtDL =>
    exact leads_fpRun _ _ fun _ => systemPart_setFpr ..
  case cFS | cUnS | cEqS | cUeqS | cOltS | cUltS | cOleS | cUleS | cSfS | cNgleS | cSeqS | cNglS | cLtS | cNgeS | cLeS
      | cNgtS | cFD | cUnD | cEqD | cUeqD | cOltD | cUltD | cOleD | cUleD | cSfD | cNgleD | cSeqD | cNglD | cLtD | cNgeD
      | cLeD | cNgtD =>
    exact leads_fpRun _ _ fun _ => systemPart_setFcc ..
  case cvtWS | cvtLS | roundWS | truncWS | ceilWS | floorWS | roundLS | truncLS | ceilLS | floorLS | cvtWD | cvtLD
      | roundWD | truncWD | ceilWD | floorWD | roundLD | truncLD | ceilLD | floorLD =>
    exact leads_fpRun _ _ fun _ => systemPart_setFprInt ..

/-- Settles O8: in User mode without CU0 the check of unit 0 stops every CP0 instruction, and an exception leaves the
TLB as it is. -/
theorem userModeKeepsSystemState : Obligations.UserModeKeepsSystemState := by
  intro i s t hexl herl hksu hcu hx
  have unusable := requireUnit_unusable 0#2 s hcu fun _ => ⟨hexl, herl, .inr hksu⟩
  rcases exec_endsInUser unusable i t hx with ⟨e, rfl⟩ | ⟨f31, rfl⟩ | h
  · exact ⟨takeException_tlb e s, .inl ⟨e, rfl⟩⟩
  · exact ⟨takeException_tlb _ _, .inr (.inl ⟨f31, rfl⟩)⟩
  · obtain ⟨tlb, registers⟩ := systemPart_eq_iff.1 h
    exact ⟨tlb, .inr (.inr registers)⟩

end Sys2Proof.Proofs

/-! PROOFS. The return from an exception. -/

namespace Sys2Proof.Proofs

open Sys2Proof.Machine

set_option Elab.async false

/-- CP0 without the level that a return in state s clears: ERL if it is seen set, else EXL (46_cp0 R448). -/
def clearLevel (s : State) (c : Cp0) : Cp0 :=
  { c with status := c.status &&& ~~~(if s.seen.erl then 0x4#32 else 0x2#32) }

section
variable {s : State}

/-- Outside a delay slot, an ERET that may use CP0 is the return from the exception (46_cp0 R448). -/
theorem exec_eret (hcp0 : Cp0Usable s) (hslot : s.next = none) : exec .eret s = .next (returnFromException s) := by
  have notInSlot : s.inDelaySlot = false := by simp [State.inDelaySlot, hslot]
  have returns : exec .eret s = finish s (if s.inDelaySlot then .error (.refuse .eretInDelaySlot)
      else .ok (returnFromException s)) := finish_after_gate (requireUnit_cp0 s hcp0)
  rw [returns, notInSlot]
  rfl

theorem returnFromException_pc : (returnFromException s).pc =
    if s.seen.erl then s.seen.cp0.errorEpc else s.seen.cp0.epc := rfl

/-- The level it returns from is cleared for good: the older system states lose it too (60_exceptions R640; log 8). -/
theorem changesCp0_returnFromException : ChangesCp0 (clearLevel s) s (returnFromException s) :=
  changesCp0_onCp0 (clearLevel s) s

theorem keeps_returnFromException :
    Keeps { cp0 := true, llbit := true, link := true } s (returnFromException s) :=
  { keeps_refl { cp0 := true, llbit := true, link := true } s with
    cp0 := fun hw => nomatch hw
    llbit := fun hw => nomatch hw
    link := fun hw => nomatch hw
    window := fun _ => ⟨sameWindow_onCp0 (clearLevel s) s, fun hw => nomatch hw⟩ }

end

/-- Settles O35: the return goes by the registers as seen, and with no recent CP0 write these are the present ones. -/
theorem exceptionReturn : Obligations.ExceptionReturn := fun s =>
  ⟨seen_of_recent_nil s, fun hcp0 hslot => ⟨returnFromException s, exec_eret hcp0 hslot, returnFromException_pc,
    returnFromException_next s, returnFromException_llbit s, changesCp0_returnFromException, link_breakLink s,
    keeps_returnFromException⟩⟩

end Sys2Proof.Proofs

/-! PROOFS. Integer arithmetic, logic, comparison and the conditional moves: what they write, when they trap, and when
they move. -/

namespace Sys2Proof.Proofs

open Sys2Proof.Machine

set_option Elab.async false

/-! ### Values that fit a width -/

section
variable {m n : Nat}

theorem two_pow_succ_cast (n : Nat) : ((2 ^ (n + 1) : Nat) : Int) = 2 * 2 ^ n := by
  push_cast
  ring

/-- Truncation to n bits keeps a value that fits them. -/
theorem toInt_setWidth_of_fits {x : BitVec m} (hn : 0 < n) (hm : n ≤ m)
    (h : -2 ^ (n - 1) ≤ x.toInt ∧ x.toInt < 2 ^ (n - 1)) : (x.setWidth n).toInt = x.toInt := by
  obtain ⟨k, rfl⟩ : ∃ k, n = k + 1 := ⟨n - 1, by omega⟩
  obtain ⟨hlo, hhi⟩ := h
  rw [Nat.add_sub_cancel] at hlo hhi
  have half := two_pow_succ_cast k
  calc (x.setWidth (k + 1)).toInt
      = x.toInt.bmod (2 ^ (k + 1)) := by
        rw [BitVec.toInt_setWidth, BitVec.toInt_eq_toNat_bmod x, Int.bmod_bmod_of_dvd (pow_dvd_pow 2 hm)]
    _ = x.toInt := Int.bmod_eq_of_le (by omega) (by omega)

/-- The two top bits differ exactly when the value does not fit one bit less (41_alu R301, R307): they count the
quarter of the range of unsigned values, and the middle two quarters are the values that do not fit. -/
theorem topBits_differ_iff (x : BitVec (n + 2)) :
    (x.getLsbD (n + 1) != x.getLsbD n) = true ↔ ¬(-2 ^ n ≤ x.toInt ∧ x.toInt < 2 ^ n) := by
  have upper : x.getLsbD (n + 1) = decide (x.toNat / 2 ^ n / 2 % 2 = 1) := by
    rw [← BitVec.testBit_toNat, Nat.testBit_eq_decide_div_mod_eq, pow_succ, Nat.div_div_eq_div_mul]
  have lower : x.getLsbD n = decide (x.toNat / 2 ^ n % 2 = 1) := by
    rw [← BitVec.testBit_toNat, Nat.testBit_eq_decide_div_mod_eq]
  have whole : 2 ^ (n + 2) = 2 ^ n * 4 := pow_add 2 n 2
  have cast : (2 : Int) ^ n = ((2 ^ n : Nat) : Int) := by push_cast; rfl
  have bound : x.toNat < 2 ^ n * 4 := whole ▸ x.isLt
  rw [upper, lower, cast, BitVec.toInt_eq_toNat_cond, whole]
  have atLeast := Nat.div_mul_le_self x.toNat (2 ^ n)
  have below := Nat.lt_div_mul_add (a := x.toNat) (Nat.two_pow_pos n)
  have quarter : x.toNat / 2 ^ n < 4 := Nat.div_lt_of_lt_mul bound
  generalize x.toNat / 2 ^ n = q at *
  generalize 2 ^ n = p at *
  interval_cases q <;> simp <;> omega

/-- One bit more holds the sum of any two operands. -/
theorem toInt_add_extended (x : BitVec n) (y : BitVec m) (h : m ≤ n) :
    (x.signExtend (n + 1) + y.signExtend (n + 1)).toInt = x.toInt + y.toInt := by
  have widen : (2 : Int) ^ m ≤ 2 ^ n := pow_le_pow_right₀ (by decide) h
  have xlo := x.le_two_mul_toInt
  have xhi := x.two_mul_toInt_lt
  have ylo := y.le_two_mul_toInt
  have yhi := y.two_mul_toInt_lt
  have half := two_pow_succ_cast n
  rw [BitVec.toInt_add, BitVec.toInt_signExtend_of_le (by omega), BitVec.toInt_signExtend_of_le (by omega)]
  exact Int.bmod_eq_of_le (by omega) (by omega)

/-- One bit more holds the difference of any two operands. -/
theorem toInt_sub_extended (x y : BitVec n) :
    (x.signExtend (n + 1) - y.signExtend (n + 1)).toInt = x.toInt - y.toInt := by
  have xlo := x.le_two_mul_toInt
  have xhi := x.two_mul_toInt_lt
  have ylo := y.le_two_mul_toInt
  have yhi := y.two_mul_toInt_lt
  have half := two_pow_succ_cast n
  rw [BitVec.toInt_sub, BitVec.toInt_signExtend_of_le (by omega), BitVec.toInt_signExtend_of_le (by omega)]
  exact Int.bmod_eq_of_le (by omega) (by omega)

theorem ofInt_toInt_sub (x y : BitVec n) : BitVec.ofInt n (x.toInt - y.toInt) = x - y := by
  apply BitVec.eq_of_toInt_eq
  rw [BitVec.toInt_ofInt, BitVec.toInt_sub]

end

theorem toInt_low {x : Word} (h : HoldsWord x) : (low x).toInt = x.toInt :=
  toInt_setWidth_of_fits (by decide) (by decide) h

/-- The immediate signed, as a number. -/
theorem toInt_simm (imm : BitVec 16) : (simm imm).toInt = imm.toInt := BitVec.toInt_signExtend_of_le (by decide)

/-! ### How an arithmetic instruction completes -/

section
variable {i : Instr} {s : State} {d rs : Reg} {u v : Word} {r : Int}

theorem writesGpr_of_eq (hx : exec i s = .next (writeGpr d u s)) (hv : u = v) : WritesGpr i s d v :=
  hv ▸ writesGpr_of i s d u hx

/-- The sign-extended result of a word operation without a trap, on operands that are words. -/
theorem writesGpr_result32 {ok : Bool} {x : BitVec 32} (hx : exec i s = .next (writeGpr d (s.result32 ok x) s))
    (hok : ok = true) (hr : x.toInt = r.bmod (2 ^ 32)) : WritesGpr i s d (BitVec.ofInt 64 (r.bmod (2 ^ 32))) :=
  writesGpr_of_eq hx (by rw [hok, ← hr]; rfl)

theorem addsOrTraps_of {n : Nat} {overflows : Bool}
    (hx : exec i s = finish s (if overflows then .error (.exc .overflow) else .ok (writeGpr d u s)))
    (ho : overflows = true ↔ ¬(-2 ^ (n - 1) ≤ r ∧ r < 2 ^ (n - 1)))
    (hu : -2 ^ (n - 1) ≤ r ∧ r < 2 ^ (n - 1) → u = BitVec.ofInt 64 r) : AddsOrTraps i s d n r := by
  unfold AddsOrTraps
  split
  case isTrue fits =>
    rw [if_neg fun overflow => ho.1 overflow fits] at hx
    exact writesGpr_of_eq hx (hu fits)
  case isFalse exceeds =>
    rw [if_pos (ho.2 exceeds)] at hx
    exact hx

theorem addsOrTraps_trap32 {ok : Bool} {x : BitVec 33} (hx : exec i s = finish s (trap32 ok x d s)) (hok : ok = true)
    (hr : x.toInt = r) : AddsOrTraps i s d 32 r := by
  subst hok hr
  refine addsOrTraps_of hx (topBits_differ_iff (n := 31) x) fun fits => ?_
  rw [← toInt_setWidth_of_fits (n := 32) (by decide) (by decide) fits]
  rfl

theorem addsOrTraps_trap64 {x : BitVec 65} (hx : exec i s = finish s (trap64 x d s)) (hr : x.toInt = r) :
    AddsOrTraps i s d 64 r := by
  subst hr
  refine addsOrTraps_of hx (topBits_differ_iff (n := 63) x) fun fits => ?_
  rw [← toInt_setWidth_of_fits (n := 64) (by decide) (by decide) fits, BitVec.ofInt_toInt]

theorem movesIf_of {b : Bool} {c : Prop} (hx : exec i s = .next (moveIf b d rs s)) (hb : b = true ↔ c) :
    MovesIf i s c d (s.gpr rs) := by
  refine ⟨fun hc => ?_, fun hc => ?_⟩
  · rw [moveIf, if_pos (hb.2 hc)] at hx
    exact writesGpr_of i s d _ hx
  · rw [moveIf, if_neg (mt hb.1 hc)] at hx
    exact changesNothing_of hx

end

/-! ### Logic, LUI and set on less than (41_alu R313 to R324) -/

theorem zimm_eq (imm : BitVec 16) : zimm imm = BitVec.ofNat 64 imm.toNat := (BitVec.ofNat_toNat ..).symm

/-- The immediate in the upper half of the word is 65536 times its signed value. -/
theorem sext_upper (imm : BitVec 16) : sext (imm ++ 0#16) = BitVec.ofInt 64 (imm.toInt * 65536) :=
  congrArg (BitVec.ofInt 64) (BitVec.toInt_append_zero.trans (Int.mul_comm ..))

theorem boolWord_of_iff {b : Bool} {c : Prop} [Decidable c] (h : b = true ↔ c) :
    boolWord b = if c then 1#64 else 0#64 := if_congr h rfl rfl

/-- Settles O11: each writes its result and advances; the immediates and the comparisons are read as numbers. -/
theorem logicAndSetOnLess : Obligations.LogicAndSetOnLess := by
  intro s rs rt rd imm
  refine ⟨writesGpr_of _ _ _ _ rfl, writesGpr_of _ _ _ _ rfl, writesGpr_of _ _ _ _ rfl, writesGpr_of _ _ _ _ rfl,
    ?andi, ?ori, ?xori, writesGpr_of_eq rfl (sext_upper imm), ?slt, ?sltu, ?slti, ?sltiu⟩
  case andi | ori | xori => exact writesGpr_of_eq rfl (by rw [zimm_eq])
  case slt => exact writesGpr_of_eq rfl (boolWord_of_iff BitVec.slt_iff_toInt_lt)
  case sltu => exact writesGpr_of_eq rfl (boolWord_of_iff BitVec.ult_iff_lt)
  case slti =>
    refine writesGpr_of_eq rfl (boolWord_of_iff ?_)
    rw [BitVec.slt_iff_toInt_lt, toInt_simm]
  case sltiu => exact writesGpr_of_eq rfl (boolWord_of_iff BitVec.ult_iff_lt)

/-! ### Sums and differences of words (41_alu R300 to R306) -/

/-- Settles O12: the 33-bit result is exact, so its top bits tell whether it fits a word. -/
theorem wordAddSub : Obligations.WordAddSub := by
  intro s rs rt rd imm hrs
  have word : isWord (s.gpr rs) = true := (isWord_iff_holdsWord _).2 hrs
  have value := toInt_low hrs
  refine ⟨fun hrt => ?registers, ?addi, ?addiu⟩
  case registers =>
    have words : (isWord (s.gpr rs) && isWord (s.gpr rt)) = true := by
      rw [word, (isWord_iff_holdsWord _).2 hrt]
      rfl
    have value' := toInt_low hrt
    refine ⟨addsOrTraps_trap32 rfl words ?add, addsOrTraps_trap32 rfl words ?sub, writesGpr_result32 rfl words ?addu,
      writesGpr_result32 rfl words ?subu⟩
    case add => rw [toInt_add_extended _ _ le_rfl, value, value']
    case sub => rw [toInt_sub_extended, value, value']
    case addu => rw [BitVec.toInt_add, value, value']
    case subu => rw [BitVec.toInt_sub, value, value']
  case addi =>
    refine addsOrTraps_trap32 rfl word ?_
    rw [toInt_add_extended _ _ (by decide), value]
  case addiu =>
    refine writesGpr_result32 rfl word ?_
    rw [BitVec.toInt_add, value, BitVec.toInt_signExtend_of_le (by decide)]

/-! ### Sums and differences of doublewords (41_alu R307 to R312) -/

/-- Settles O13: the 65-bit result is exact, and without a trap the wrap of 64 bits is that of the register. -/
theorem doublewordAddSub : Obligations.DoublewordAddSub := by
  intro s rs rt rd imm h64
  have gate := require64_enabled s h64
  refine ⟨addsOrTraps_trap64 (finish_after_gate gate) (toInt_add_extended _ _ le_rfl),
    addsOrTraps_trap64 (finish_after_gate gate) (toInt_sub_extended _ _),
    addsOrTraps_trap64 (finish_after_gate gate) (toInt_add_extended _ _ (by decide)),
    writesGpr_of_eq (finish_of_ok gate) ?daddu, writesGpr_of_eq (finish_of_ok gate) (ofInt_toInt_sub _ _).symm,
    writesGpr_of_eq (finish_of_ok gate) ?daddiu⟩
  case daddu => rw [BitVec.ofInt_add, BitVec.ofInt_toInt, BitVec.ofInt_toInt]
  case daddiu =>
    rw [BitVec.ofInt_add, BitVec.ofInt_toInt]
    rfl

/-! ### Conditional moves (41_alu R325 to R328) -/

/-- A condition code that the instruction before did not change is seen as it is (70_reset_and_hazards R714). -/
theorem fccSeen_of_unchanged {s : State} {cc : BitVec 3} (h : s.fccPrev.getLsbD cc.toNat = s.fcc cc) :
    s.fccSeen cc = s.fcc cc := if_pos h

/-- Settles O14: once its gates are passed each is one `moveIf`, by its condition. -/
theorem conditionalMoves : Obligations.ConditionalMoves := by
  intro s rs rt rd cc hcu3
  have enabled := requireMips4_enabled s hcu3
  refine ⟨movesIf_of (finish_of_ok enabled) bne_iff_ne, movesIf_of (finish_of_ok enabled) beq_iff_eq,
    fun hcu1 hsame => ?_⟩
  have unit := requireUnit_usable 1#2 s hcu1
  have seen := fccSeen_of_unchanged hsame
  refine ⟨movesIf_of (finish_of_ok_ok unit enabled) ?movf, movesIf_of (finish_of_ok_ok unit enabled) ?movt⟩
  case movf => rw [seen, Bool.not_eq_true']
  case movt => rw [seen]

end Sys2Proof.Proofs

/-! PROOFS. The shifts: the value of each as a number, and what they write. -/

namespace Sys2Proof.Proofs

open Sys2Proof.Machine

set_option Elab.async false

/-! ### The shifts of bit vectors as products and quotients by a power of two -/

section
variable {n : Nat}

theorem shiftLeft_eq_ofNat_mul (x : BitVec n) (k : Nat) : x <<< k = BitVec.ofNat n (x.toNat * 2 ^ k) := by
  rw [← Nat.shiftLeft_eq]
  rfl

theorem ushiftRight_eq_ofNat_div (x : BitVec n) (k : Nat) : x >>> k = BitVec.ofNat n (x.toNat / 2 ^ k) := by
  rw [← Nat.shiftRight_eq_div_pow, ← BitVec.toNat_ushiftRight, BitVec.ofNat_toNat, BitVec.setWidth_eq]

theorem toInt_sshiftRight_eq_div (x : BitVec n) (k : Nat) : (x.sshiftRight k).toInt = x.toInt / 2 ^ k := by
  rw [BitVec.toInt_sshiftRight, Int.shiftRight_eq_div_pow]
  norm_cast

theorem sshiftRight_eq_ofInt_div (x : BitVec n) (k : Nat) : x.sshiftRight k = BitVec.ofInt n (x.toInt / 2 ^ k) := by
  rw [← toInt_sshiftRight_eq_div, BitVec.ofInt_toInt]

end

/-! ### The shifts of a low word, and the amount in a register -/

/-- The low word alone decides the product modulo 2^32, so any source may be shifted left (42_shift R340). -/
theorem sext_low_shiftLeft (x : Word) (k : Nat) :
    sext (low x <<< k) = BitVec.ofInt 64 ((x.toInt * 2 ^ k).bmod (2 ^ 32)) := by
  have value : (low x <<< k).toInt = (x.toInt * 2 ^ k).bmod (2 ^ 32) := calc (low x <<< k).toInt
    _ = (((x.toNat : Int) % (2 ^ 32 : Nat)) * 2 ^ k).bmod (2 ^ 32) := by
      rw [BitVec.toInt_shiftLeft, low, BitVec.toNat_setWidth, Nat.shiftLeft_eq]
      push_cast
      rfl
    _ = ((x.toNat : Int).bmod (2 ^ 32) * 2 ^ k).bmod (2 ^ 32) := by rw [Int.emod_mul_bmod, Int.bmod_mul_bmod]
    _ = (x.toInt.bmod (2 ^ 32) * 2 ^ k).bmod (2 ^ 32) := by
      rw [BitVec.toInt_eq_toNat_bmod x, Int.bmod_bmod_of_dvd (by decide)]
    _ = (x.toInt * 2 ^ k).bmod (2 ^ 32) := Int.bmod_mul_bmod
  rw [← value]
  rfl

theorem toInt_low_ushiftRight (x : Word) (k : Nat) :
    (low x >>> k).toInt = ((x.toNat % 2 ^ 32 / 2 ^ k : Nat) : Int).bmod (2 ^ 32) := by
  rw [BitVec.toInt_eq_toNat_bmod, BitVec.toNat_ushiftRight, Nat.shiftRight_eq_div_pow, low, BitVec.toNat_setWidth]

theorem toInt_low_sshiftRight {x : Word} (h : HoldsWord x) (k : Nat) :
    ((low x).sshiftRight k).toInt = x.toInt / 2 ^ k := by
  rw [toInt_sshiftRight_eq_div, toInt_low h]

theorem amount5_eq (rs : Reg) (s : State) : amount5 rs s = (s.gpr rs).toNat % 32 := BitVec.extractLsb'_toNat ..

theorem amount6_eq (rs : Reg) (s : State) : amount6 rs s = (s.gpr rs).toNat % 64 := BitVec.extractLsb'_toNat ..

/-! ### How a shift completes -/

section
variable {i : Instr} {s : State} {rt rd : Reg} {k : Nat}

theorem writesGpr_shiftRight32 (f : BitVec 32 → BitVec 32) {r : Int} (hx : exec i s = shiftRight32 f rt rd s)
    (hword : HoldsWord (s.gpr rt)) (hr : (f (low (s.gpr rt))).toInt = r) :
    WritesGpr i s rd (BitVec.ofInt 64 r) :=
  writesGpr_of_eq hx (by rw [(isWord_iff_holdsWord _).2 hword, ← hr]; rfl)

theorem writesGpr_srl32 (hx : exec i s = shiftRight32 (fun v => v >>> k) rt rd s) (hword : HoldsWord (s.gpr rt)) :
    WritesGpr i s rd (BitVec.ofInt 64 ((((s.gpr rt).toNat % 2 ^ 32 / 2 ^ k : Nat) : Int).bmod (2 ^ 32))) :=
  writesGpr_shiftRight32 _ hx hword (toInt_low_ushiftRight _ k)

theorem writesGpr_sra32 (hx : exec i s = shiftRight32 (fun v => v.sshiftRight k) rt rd s)
    (hword : HoldsWord (s.gpr rt)) : WritesGpr i s rd (BitVec.ofInt 64 ((s.gpr rt).toInt / 2 ^ k)) :=
  writesGpr_shiftRight32 _ hx hword (toInt_low_sshiftRight hword k)

theorem writesGpr_shift64 (f : Word → Word) {v : Word} (hx : exec i s = shift64 f rt rd s) (h64 : Enabled64 s.seen)
    (hv : f (s.gpr rt) = v) : WritesGpr i s rd v :=
  writesGpr_of_eq (hx.trans (finish_of_ok (require64_enabled s h64))) hv

theorem writesGpr_sll64 (hx : exec i s = shift64 (fun v => v <<< k) rt rd s) (h64 : Enabled64 s.seen) :
    WritesGpr i s rd (BitVec.ofNat 64 ((s.gpr rt).toNat * 2 ^ k)) :=
  writesGpr_shift64 _ hx h64 (shiftLeft_eq_ofNat_mul _ k)

theorem writesGpr_srl64 (hx : exec i s = shift64 (fun v => v >>> k) rt rd s) (h64 : Enabled64 s.seen) :
    WritesGpr i s rd (BitVec.ofNat 64 ((s.gpr rt).toNat / 2 ^ k)) :=
  writesGpr_shift64 _ hx h64 (ushiftRight_eq_ofNat_div _ k)

theorem writesGpr_sra64 (hx : exec i s = shift64 (fun v => v.sshiftRight k) rt rd s) (h64 : Enabled64 s.seen) :
    WritesGpr i s rd (BitVec.ofInt 64 ((s.gpr rt).toInt / 2 ^ k)) :=
  writesGpr_shift64 _ hx h64 (sshiftRight_eq_ofInt_div _ k)

end

/-! ### The fifteen shifts (42_shift R340 to R355) -/

/-- Settles O15: a left shift of the low word takes any source, a right shift asks for a word, a doubleword shift for
64-bit operations; the amount of each is a field, 32 more, or the low bits of a register. -/
theorem shifts : Obligations.Shifts := by
  refine ⟨fun s rs rt rd sa => ?words, fun s rs rt rd sa h64 => ?doublewords⟩
  case words =>
    rw [← amount5_eq rs s]
    refine ⟨writesGpr_of_eq rfl (sext_low_shiftLeft ..), writesGpr_of_eq rfl (sext_low_shiftLeft ..), fun hword => ?_⟩
    exact ⟨writesGpr_srl32 rfl hword, writesGpr_srl32 rfl hword, writesGpr_sra32 rfl hword, writesGpr_sra32 rfl hword⟩
  case doublewords =>
    rw [← amount6_eq rs s]
    exact ⟨writesGpr_sll64 rfl h64, writesGpr_srl64 rfl h64, writesGpr_sra64 rfl h64,
      writesGpr_sll64 rfl h64, writesGpr_srl64 rfl h64, writesGpr_sra64 rfl h64,
      writesGpr_sll64 rfl h64, writesGpr_srl64 rfl h64, writesGpr_sra64 rfl h64⟩

end Sys2Proof.Proofs

/-! PROOFS. The products and quotients in HI and LO, and that a multiply or divide runs on any operands. -/

namespace Sys2Proof.Proofs

open Sys2Proof.Machine

set_option Elab.async false

/-! ### Products and quotients of bit vectors as numbers -/

section
variable {n : Nat}

/-- Twice the width holds the signed product. -/
theorem toInt_mul_extended (hn : 0 < n) (x y : BitVec n) :
    (x.signExtend (n + n) * y.signExtend (n + n)).toInt = x.toInt * y.toInt := by
  obtain ⟨k, rfl⟩ : ∃ k, n = k + 1 := ⟨n - 1, by omega⟩
  have lower := BitVec.le_toInt_mul_toInt (x := x) (y := y)
  have upper := BitVec.toInt_mul_toInt_le (x := x) (y := y)
  have width : (2 : Nat) ^ (k + 1 + (k + 1)) = 4 * 2 ^ ((k + 1) * 2 - 2) := by
    rw [show k + 1 + (k + 1) = 2 + ((k + 1) * 2 - 2) by omega, pow_add]
    rfl
  have bound : ((2 ^ ((k + 1) * 2 - 2) : Nat) : Int) = 2 ^ ((k + 1) * 2 - 2) := by push_cast; rfl
  have positive := Nat.two_pow_pos ((k + 1) * 2 - 2)
  rw [BitVec.toInt_mul, BitVec.toInt_signExtend_of_le (by omega), BitVec.toInt_signExtend_of_le (by omega), width]
  exact Int.bmod_eq_of_le (by omega) (by omega)

/-- Twice the width holds the unsigned product. -/
theorem toNat_mul_extended (x y : BitVec n) :
    (x.setWidth (n + n) * y.setWidth (n + n)).toNat = x.toNat * y.toNat := by
  have bound : x.toNat * y.toNat < 2 ^ (n + n) := Nat.mul_two n ▸ BitVec.toNat_mul_toNat_lt
  have widen (z : BitVec n) : (z.setWidth (n + n)).toNat = z.toNat := BitVec.toNat_setWidth_of_le (by omega)
  rw [BitVec.toNat_mul_of_lt (by rwa [widen, widen]), widen, widen]

/-- The width of the operands holds their quotient, but for the most negative number by -1. -/
theorem toInt_ofInt_tdiv (hn : 0 < n) {x y : BitVec n} (h : ¬(x.toInt = -2 ^ (n - 1) ∧ y.toInt = -1)) :
    (BitVec.ofInt n (x.toInt.tdiv y.toInt)).toInt = x.toInt.tdiv y.toInt := by
  have fits : x ≠ BitVec.intMin n ∨ y ≠ -1#n := by
    refine not_and_or.1 (mt (And.imp ?_ ?_) h)
    · rintro rfl
      exact BitVec.toInt_intMin_of_pos hn
    · rintro rfl
      rw [BitVec.neg_one_eq_allOnes, BitVec.toInt_allOnes, if_pos hn]
  rw [BitVec.toInt_ofInt, ← BitVec.toInt_sdiv, BitVec.toInt_sdiv_of_ne_or_ne x y fits]

theorem toInt_ofInt_tmod (x y : BitVec n) : (BitVec.ofInt n (x.toInt.tmod y.toInt)).toInt = x.toInt.tmod y.toInt := by
  rw [← BitVec.toInt_srem, BitVec.ofInt_toInt]

theorem toNat_ofInt_of_le {m : Nat} (x : BitVec n) (h : m ≤ x.toNat) : (BitVec.ofInt n m).toNat = m := by
  rw [BitVec.ofInt_natCast, BitVec.toNat_ofNat, Nat.mod_eq_of_lt (h.trans_lt x.isLt)]

end

/-! ### Words in registers -/

theorem toInt_sext (x : BitVec 32) : (sext x).toInt = x.toInt := BitVec.toInt_signExtend_of_le (by decide)

theorem sext_holdsWord (x : BitVec 32) : HoldsWord (sext x) :=
  (isWord_iff_holdsWord _).1 (beq_iff_eq.2 (congrArg sext (low_sext x)))

/-- The halves of a 64-bit product, each in the low word of a register (43_muldiv R363, R364). -/
theorem low_sext_halves (p : BitVec 64) : low (sext (p.extractLsb' 32 32)) ++ low (sext (p.extractLsb' 0 32)) = p := by
  rw [low_sext, low_sext]
  exact BitVec.extractLsb'_append_extractLsb' (w := 32) (len := 32)

theorem toInt_ne_zero {n : Nat} {x : BitVec n} (h : x ≠ 0#n) : x.toInt ≠ 0 := BitVec.toInt_zero ▸ BitVec.toInt_ne.2 h

theorem low_ne_zero {x : Word} (hx : HoldsWord x) (h : x ≠ 0#64) : low x ≠ 0#32 := fun h0 =>
  toInt_ne_zero h (by rw [← toInt_low hx, h0, BitVec.toInt_zero])

theorem toNat_ne_zero {n : Nat} {x : BitVec n} (h : x ≠ 0#n) : x.toNat ≠ 0 := BitVec.toNat_zero ▸ BitVec.toNat_ne.1 h

/-! ### How a multiply or divide completes (43_muldiv R360, R361) -/

section
variable {i : Instr} {s : State} {c : Bool} {a b : Word} {x y : BitVec 32} {r : Word → Word → Prop} {rs rt : Reg}

theorem keeps_setHiLo (a b : Word) (s : State) : Keeps { hiLo := true } s (setHiLo a b s) :=
  { keeps_refl { hiLo := true } s with hiLo := nofun }

theorem setsHiLo_of (hx : exec i s = .next (advance (setHiLo a b s))) (hr : r a b) : SetsHiLo i s r :=
  effects_advance hx (keeps_setHiLo a b s) (by simpa using hr)

/-- Where the spec gives HI and LO values. -/
theorem setsHiLo_defined (hx : exec i s = .next (advance (if c then setHiLo a b s else freeHiLo s))) (hc : c = true)
    (hr : r a b) : SetsHiLo i s r :=
  setsHiLo_of (hx.trans (by rw [if_pos hc])) hr

/-- The same where they are words. -/
theorem setsHiLo_words (hx : exec i s = .next (advance (if c then setHiLo (sext x) (sext y) s else freeHiLo s)))
    (hc : c = true) (hr : r (sext x) (sext y)) : SetsHiLo i s fun h l => HoldsWord h ∧ HoldsWord l ∧ r h l :=
  setsHiLo_defined hx hc ⟨sext_holdsWord x, sext_holdsWord y, hr⟩

/-- With or without a value, HI and LO and nothing else are written (logs 10 and 11). -/
theorem setsHiLo_any (hx : exec i s = .next (advance (if c then setHiLo a b s else freeHiLo s))) :
    SetsHiLo i s fun _ _ => True := by
  cases c with
  | true => exact setsHiLo_of hx trivial
  | false => exact setsHiLo_of hx trivial

theorem bothWords_of (hs : HoldsWord (s.gpr rs)) (ht : HoldsWord (s.gpr rt)) : bothWords rs rt s = true := by
  rw [bothWords, (isWord_iff_holdsWord _).2 hs, (isWord_iff_holdsWord _).2 ht]
  rfl

/-- A signed quotient has a value: the divisor is not 0, and it is not the most negative number by -1. -/
theorem quotient_defined {n d m : Int} (hd : d ≠ 0) (h : ¬(n = m ∧ d = -1)) :
    (!(decide (d = 0) || (decide (n = m) && decide (d = -1)))) = true := by
  have fits := not_and_or.1 h
  simpa [hd] using fits

end

/-! ### The statements -/

/-- Settles O16: a product has twice the width of its operands, so it is exact, and HI and LO are its halves. -/
theorem products : Obligations.Products := by
  refine fun s rs rt free => ⟨fun hs ht => ?words, fun h64 => ?doublewords⟩
  case words =>
    have gate := requireHiLo_ok s free
    have defined := bothWords_of hs ht
    refine ⟨setsHiLo_words (finish_of_ok gate) defined ?mult, setsHiLo_words (finish_of_ok gate) defined ?multu⟩
    case mult => rw [low_sext_halves, ← toInt_low hs, ← toInt_low ht, toInt_mul_extended (n := 32) (by decide)]
    case multu =>
      rw [low_sext_halves, toNat_mul_extended (n := 32)]
      simp only [low, BitVec.toNat_setWidth]
  case doublewords =>
    have runs {t : State} := finish_of_ok_ok (s := s) (t := t) (require64_enabled s h64) (requireHiLo_ok s free)
    have halves (p : BitVec 128) : p.extractLsb' 64 64 ++ p.extractLsb' 0 64 = p :=
      BitVec.extractLsb'_append_extractLsb' (w := 64) (len := 64)
    refine ⟨setsHiLo_of runs ?dmult, setsHiLo_of runs ?dmultu⟩
    case dmult => rw [halves, toInt_mul_extended (n := 64) (by decide)]
    case dmultu => rw [halves, toNat_mul_extended (n := 64)]

/-- Settles O17: where the spec gives a value, quotient and remainder fit the width of their operands. -/
theorem quotients : Obligations.Quotients := by
  refine fun s rs rt free => ⟨fun hs ht h0 => ?words, fun h64 h0 => ?doublewords⟩
  case words =>
    have runs {t : State} := finish_of_ok (s := s) (t := t) (requireHiLo_ok s free)
    have words := bothWords_of hs ht
    have nonzero := low_ne_zero ht h0
    refine ⟨fun hfits => setsHiLo_words runs ?definedDiv ?div, setsHiLo_words runs ?definedDivu ?divu⟩
    case definedDiv =>
      rw [words]
      exact quotient_defined (toInt_ne_zero nonzero) (by rwa [toInt_low hs, toInt_low ht])
    case div =>
      rw [← toInt_low hs, ← toInt_low ht] at hfits ⊢
      exact ⟨(toInt_sext _).trans (toInt_ofInt_tdiv (by decide) hfits), (toInt_sext _).trans (toInt_ofInt_tmod ..)⟩
    case definedDivu =>
      rw [words]
      exact decide_eq_true (toNat_ne_zero nonzero)
    case divu =>
      have value (r : Reg) : (low (s.gpr r)).toNat = (s.gpr r).toNat % 2 ^ 32 := BitVec.toNat_setWidth ..
      rw [low_sext, low_sext, ← value rs, ← value rt]
      exact ⟨toNat_ofInt_of_le _ (Nat.div_le_self ..), toNat_ofInt_of_le _ (Nat.mod_le ..)⟩
  case doublewords =>
    have runs {t : State} := finish_of_ok_ok (s := s) (t := t) (require64_enabled s h64) (requireHiLo_ok s free)
    exact ⟨fun hfits => setsHiLo_defined runs (quotient_defined (toInt_ne_zero h0) hfits)
        ⟨toInt_ofInt_tdiv (by decide) hfits, toInt_ofInt_tmod ..⟩,
      setsHiLo_defined runs (decide_eq_true (toNat_ne_zero h0))
        ⟨toNat_ofInt_of_le _ (Nat.div_le_self ..), toNat_ofInt_of_le _ (Nat.mod_le ..)⟩⟩

/-- Settles O18: no gate of a multiply or divide looks at the operands, which decide only what HI and LO hold. -/
theorem mulDivAlwaysRuns : Obligations.MulDivAlwaysRuns := fun s _ _ free =>
  have gate := requireHiLo_ok s free
  ⟨setsHiLo_any (finish_of_ok gate), setsHiLo_any (finish_of_ok gate), setsHiLo_any (finish_of_ok gate),
    setsHiLo_any (finish_of_ok gate), fun h64 =>
      have enabled := require64_enabled s h64
      ⟨setsHiLo_any (finish_of_ok_ok enabled gate), setsHiLo_any (finish_of_ok_ok enabled gate)⟩⟩

end Sys2Proof.Proofs

/-! PROOFS. The HI/LO guards, which every instruction sets, counts down or leaves, and the moves of HI and LO. -/

namespace Sys2Proof.Proofs

open Sys2Proof.Machine

set_option Elab.async false

/-! ### What leaves the guards and what counts them down (43_muldiv R362) -/

/-- Both guards are as before. -/
def SameGuards (s t : State) : Prop := t.hiGuard = s.hiGuard ∧ t.loGuard = s.loGuard

/-- Both guards are counted down by one. -/
def CountsDown (s t : State) : Prop := t.hiGuard = s.hiGuard - 1 ∧ t.loGuard = s.loGuard - 1

section
variable {s t : State} {α β γ : Type}

theorem countsDown_advance (h : SameGuards s t) : CountsDown s (advance t) := by
  obtain ⟨hi, lo⟩ := h
  simp [CountsDown, hi, lo]

theorem countsDown_branchTo (x : Word) (h : SameGuards s t) : CountsDown s (branchTo x t) := by
  obtain ⟨hi, lo⟩ := h
  simp [CountsDown, hi, lo]

theorem countsDown_branchLikely (c : Bool) (offset : BitVec 16) (h : SameGuards s t) :
    CountsDown s (branchLikely c offset t) := by
  cases c with
  | true => exact countsDown_branchTo _ h
  | false =>
    obtain ⟨hi, lo⟩ := h
    simp [CountsDown, branchLikely, hi, lo]

theorem sameGuards_link (r : Reg) (s : State) : SameGuards s (link r s) := ⟨setGpr_hiGuard .., setGpr_loGuard ..⟩

theorem countsDown_moveIf (c : Bool) (rd rs : Reg) (s : State) : CountsDown s (moveIf c rd rs s) := by
  cases c with
  | true => exact countsDown_advance ⟨setGpr_hiGuard .., setGpr_loGuard ..⟩
  | false => exact countsDown_advance ⟨rfl, rfl⟩

theorem countsDown_hiLo (c : Bool) (a b : Word) (s : State) :
    CountsDown s (advance (if c then setHiLo a b s else freeHiLo s)) := by
  cases c with
  | true => exact countsDown_advance ⟨rfl, rfl⟩
  | false => exact countsDown_advance ⟨rfl, rfl⟩

theorem sameGuards_setFpr (f : FpFmt) (i : Reg) (v : Word) (s : State) : SameGuards s (setFpr f i v s) := by
  cases f with
  | s => exact ⟨rfl, rfl⟩
  | d => exact ⟨setFpr64_hiGuard .., setFpr64_loGuard ..⟩

theorem sameGuards_setFprInt (f : IntFmt) (i : Reg) (v : Word) (s : State) : SameGuards s (setFprInt f i v s) := by
  cases f with
  | w => exact ⟨rfl, rfl⟩
  | l => exact ⟨setFpr64_hiGuard .., setFpr64_loGuard ..⟩

theorem sameGuards_written {attr : BitVec 3} {pa : PAddr} {n : Nat} {v : Word} (h : Written s attr pa n v t) :
    SameGuards s t := by
  cases h with
  | dropped _ => exact ⟨rfl, rfl⟩
  | ram _ => exact ⟨setField_hiGuard .., setField_loGuard ..⟩
  | device _ _ => exact ⟨rfl, rfl⟩

theorem memStore_sameGuards (s : State) (va : Word) (n : Nat) (v : Word) : Yields (SameGuards s) (memStore s va n v) :=
  fun t ht =>
  have ⟨_, _, _, _, hw⟩ := memStore_ok s t va n v ht
  sameGuards_written hw

theorem partStore_sameGuards (s : State) (left : Bool) (va : Word) (n : Nat) (v : Nat → Word) :
    Yields (SameGuards s) (partStore s left va n v) := fun t ht =>
  have ⟨_, _, _, hw⟩ := partStore_ok s t left va n v ht
  sameGuards_written hw

theorem tlbProbe_sameGuards (s : State) : Yields (SameGuards s) (tlbProbe s) := by
  unfold tlbProbe
  dsimp only
  split
  · exact yields_error _
  · split
    · exact yields_ok ⟨rfl, rfl⟩
    · exact yields_ok ⟨rfl, rfl⟩
    · exact yields_error _

theorem cacheOp_sameGuards (op5 : BitVec 5) (va : Word) (pa : PAddr) (s : State) :
    Yields (SameGuards s) (cacheOp op5 va pa s) := by
  unfold cacheOp
  dsimp only
  split
  case h_14 | h_15 | h_16 | h_17 => exact yields_ite (yields_error _) (yields_ok (by simp [SameGuards]))
  case h_18 => exact yields_error _
  all_goals exact yields_ok (by simp [SameGuards])

theorem cacheAccess_sameGuards (op5 : BitVec 5) (va : Word) (s : State) :
    Yields (SameGuards s) (cacheAccess op5 va s) :=
  yields_after fun _ => yields_ite (yields_error _)
    (yields_after fun _ => yields_ite (yields_error _) (cacheOp_sameGuards op5 va _ s))

/-! ### How an instruction leaves the guards (43_muldiv R362; log 9) -/

/-- The instruction has counted both guards down, or has taken an exception, FCR31 written before it where it is the
Floating-Point exception. -/
def EndsCounted (s t : State) : Prop := CountsDown s t ∨ ∃ e f31, t = takeException e { s with fcr31 := f31 }

theorem counted_next (h : CountsDown s t) : Leads (EndsCounted s) (.next t) := leads_next (.inl h)

theorem counted_finish {r : Except Stop State} (h : Yields (CountsDown s) r) :
    Leads (EndsCounted s) (finish s r) := fun t ht => by
  rcases (finish_next s t r).1 ht with hok | ⟨e, -, rfl⟩
  · exact .inl (h t hok)
  · exact .inr ⟨e, s.fcr31, rfl⟩

/-- An instruction of one part, a gate or an access, and one completed state; and so for two and three parts. -/
theorem counted_after {x : Except Stop α} {f : α → State} (h : ∀ a, CountsDown s (f a)) :
    Leads (EndsCounted s) (finish s (x >>= fun a => .ok (f a))) :=
  counted_finish (yields_after fun a => yields_ok (h a))

theorem counted_after₂ {x : Except Stop α} {y : α → Except Stop β} {f : α → β → State}
    (h : ∀ a b, CountsDown s (f a b)) :
    Leads (EndsCounted s) (finish s (x >>= fun a => y a >>= fun b => .ok (f a b))) :=
  counted_finish (yields_after fun a => yields_after fun b => yields_ok (h a b))

theorem counted_after₃ {x : Except Stop α} {y : α → Except Stop β} {z : α → β → Except Stop γ} {f : α → β → γ → State}
    (h : ∀ a b c, CountsDown s (f a b c)) :
    Leads (EndsCounted s) (finish s (x >>= fun a => y a >>= fun b => z a b >>= fun c => .ok (f a b c))) :=
  counted_finish (yields_after fun a => yields_after fun b => yields_after fun c => yields_ok (h a b c))

/-- What leaves the guards, and then an advance. -/
theorem yields_countsDown {x : Except Stop State} {f : State → State} (hx : Yields (SameGuards s) x)
    (hf : ∀ t, SameGuards t (f t)) : Yields (CountsDown s) (x >>= fun t => .ok (advance (f t))) :=
  yields_bind fun t ht =>
    have ⟨hi, lo⟩ := hx t ht
    yields_ok (countsDown_advance ⟨(hf t).1.trans hi, (hf t).2.trans lo⟩)

theorem storeBytes_countsDown (n : Nat) (v va : Word) : Yields (CountsDown s) (storeBytes n v va s) :=
  yields_countsDown (f := breakLink) (memStore_sameGuards s va n v) fun _ => ⟨rfl, rfl⟩

theorem storePart_countsDown (left : Bool) (va : Word) (n : Nat) (v : Nat → Word) :
    Yields (CountsDown s) (do let t ← partStore s left va n v; .ok (accessed t)) :=
  yields_countsDown (f := breakLink) (partStore_sameGuards s left va n v) fun _ => ⟨rfl, rfl⟩

theorem storeConditional_countsDown (n : Nat) (rt : Reg) (va : Word) :
    Yields (CountsDown s) (storeConditional n rt va s) := by
  refine yields_after fun _ => yields_after fun p => yields_ite ?stores ?fails
  case stores =>
    exact yields_countsDown (f := fun t => setGpr rt 1#64 (endLink t))
      (fun t ht => sameGuards_written (physWrite_ok s t p.2 p.1 n _ ht)) fun _ => by simp [SameGuards]
  case fails => exact yields_ok (countsDown_advance (by simp [SameGuards]))

theorem trap32_countsDown (ok : Bool) (x : BitVec 33) (rd : Reg) : Yields (CountsDown s) (trap32 ok x rd s) :=
  yields_ite (yields_error _) (yields_ok (countsDown_advance (by simp [SameGuards])))

theorem trap64_countsDown (x : BitVec 65) (rd : Reg) : Yields (CountsDown s) (trap64 x rd s) :=
  yields_ite (yields_error _) (yields_ok (countsDown_advance (by simp [SameGuards])))

theorem counted_trapIf (c : Bool) : Leads (EndsCounted s) (trapIf c s) :=
  counted_finish (yields_ite (yields_error _) (yields_ok (countsDown_advance ⟨rfl, rfl⟩)))

theorem counted_moveFprIf (f : FpFmt) (c : Bool) (fs fd : Reg) : Leads (EndsCounted s) (moveFprIf f c fs fd s) :=
  counted_after fun _ => countsDown_advance <| by
    cases c with
    | true => exact sameGuards_setFpr ..
    | false => exact ⟨rfl, rfl⟩

/-- An FPU operation writes FCR31 before its Floating-Point exception. -/
theorem counted_fpRun (gate : Except Stop Unit) (c : BitVec 6) {write : State → State}
    (hw : ∀ t, SameGuards t (write t)) : Leads (EndsCounted s) (fpRun gate s c write) := fun t ht => by
  rcases fpRun_next gate s t c write ht with ⟨e, -, rfl⟩ | ⟨-, -, rfl⟩ | ⟨-, -, rfl⟩
  · exact .inr ⟨e, s.fcr31, rfl⟩
  · exact .inr ⟨_, _, rfl⟩
  · exact .inl (countsDown_advance (hw _))

theorem counted_ctc1 (rt fs : Reg) : Leads (EndsCounted s) (execCtc1 rt fs s) := by
  unfold execCtc1 ctc1Finish
  rcases requireUnit 1#2 s with st | ⟨⟩
  · exact counted_finish (yields_error st)
  · dsimp only
    split
    · split
      · exact leads_next (.inr ⟨_, _, rfl⟩)
      · exact counted_next (countsDown_advance ⟨rfl, rfl⟩)
    · exact leads_refused _

end

/-- Every instruction but MFHI and MFLO that completes counts the guards down. -/
theorem exec_endsCounted (i : Instr) (s : State) (other : ∀ rd, i ≠ .mfhi rd ∧ i ≠ .mflo rd) :
    Leads (EndsCounted s) (exec i s) := by
  cases i
  case mfhi rd => exact absurd rfl (other rd).1
  case mflo rd => exact absurd rfl (other rd).2
  -- Registers written and the pc advanced, after as many gates and accesses as the instruction has
  case addu | subu | addiu | and | or | xor | nor | andi | ori | xori | slt | sltu | slti | sltiu | lui | sll | srl
      | sra | sllv | srlv | srav | sync =>
    exact counted_next (countsDown_advance (by simp [SameGuards]))
  case lb | lbu | lh | lhu | lw | lwl | lwr | ll | pref | daddu | dsubu | daddiu | dsll | dsrl | dsra | dsll32 | dsrl32
      | dsra32 | dsllv | dsrlv | dsrav | mthi | mtlo | mfc0 | mtc0 | mfc1 | cfc1 | mtc1 =>
    exact counted_after fun _ => countsDown_advance (by simp [SameGuards])
  case lwu | ld | ldl | ldr | lld | lwc1 | prefx | dmult | dmultu | dmfc0 | dmtc0 | tlbr | tlbwi | tlbwr =>
    exact counted_after₂ fun _ _ => countsDown_advance (by simp [SameGuards])
  case ldc1 | dmfc1 | dmtc1 => exact counted_after₃ fun _ _ _ => countsDown_advance (by simp [SameGuards])
  case lwxc1 =>
    exact counted_finish (yields_after fun _ => yields_after fun _ => yields_after fun _ => yields_after fun _ =>
      yields_ok (countsDown_advance (by simp [SameGuards])))
  case ldxc1 =>
    exact counted_finish (yields_after fun _ => yields_after fun _ => yields_after fun _ => yields_after fun _ =>
      yields_after fun _ => yields_ok (countsDown_advance (by simp [SameGuards])))
  -- Conditional moves, sums that may trap, multiplies and divides
  case movn | movz => exact counted_after fun _ => countsDown_moveIf ..
  case movf | movt => exact counted_after₂ fun _ _ => countsDown_moveIf ..
  case add | sub | addi => exact counted_finish (trap32_countsDown _ _ _)
  case dadd | dsub | daddi => exact counted_finish (yields_after fun _ => trap64_countsDown _ _)
  case mult | multu | div | divu => exact counted_after fun _ => countsDown_hiLo ..
  case ddiv | ddivu => exact counted_after₂ fun _ _ => countsDown_hiLo ..
  -- Stores, TLBP and CACHE
  case sb | sh | sw => exact counted_finish (storeBytes_countsDown _ _ _)
  case sd | swc1 => exact counted_finish (yields_after fun _ => storeBytes_countsDown _ _ _)
  case sdc1 => exact counted_finish (yields_after fun _ => yields_after fun _ => storeBytes_countsDown _ _ _)
  case swxc1 =>
    exact counted_finish (yields_after fun _ => yields_after fun _ => yields_after fun _ => storeBytes_countsDown _ _ _)
  case sdxc1 =>
    exact counted_finish (yields_after fun _ => yields_after fun _ => yields_after fun _ => yields_after fun _ =>
      storeBytes_countsDown _ _ _)
  case swl | swr => exact counted_finish (storePart_countsDown _ _ _ _)
  case sdl | sdr => exact counted_finish (yields_after fun _ => storePart_countsDown _ _ _ _)
  case sc => exact counted_finish (storeConditional_countsDown _ _ _)
  case scd => exact counted_finish (yields_after fun _ => storeConditional_countsDown _ _ _)
  case tlbp =>
    exact counted_finish (yields_after fun _ => yields_countsDown (f := issue s) (tlbProbe_sameGuards s)
      fun _ => by simp [SameGuards])
  case cache =>
    exact counted_finish (yields_after fun _ => yields_countsDown (f := id) (cacheAccess_sameGuards _ _ s)
      fun _ => ⟨rfl, rfl⟩)
  -- Jumps and branches, ERET, system calls and traps
  case j | jr | beq | bne | blez | bgtz | bltz | bgez | bc1f | bc1t =>
    exact counted_after fun _ => countsDown_branchTo _ ⟨rfl, rfl⟩
  case jal => exact counted_after fun _ => countsDown_branchTo _ (sameGuards_link ..)
  case jalr =>
    exact counted_finish (yields_after fun _ => yields_ite (yields_error _)
      (yields_ok (countsDown_branchTo _ (sameGuards_link ..))))
  case beql | bnel | blezl | bgtzl | bltzl | bgezl | bc1fl | bc1tl =>
    exact counted_after fun _ => countsDown_branchLikely _ _ ⟨rfl, rfl⟩
  case bltzal | bgezal => exact counted_after₂ fun _ _ => countsDown_branchTo _ (sameGuards_link ..)
  case bltzall | bgezall => exact counted_after₂ fun _ _ => countsDown_branchLikely _ _ (sameGuards_link ..)
  case eret => exact counted_finish (yields_after fun _ => yields_ite (yields_error _) (yields_ok ⟨rfl, rfl⟩))
  case syscall | brk => exact leads_next (.inr ⟨_, s.fcr31, rfl⟩)
  case tge | tgeu | tlt | tltu | teq | tne | tgei | tgeiu | tlti | tltiu | teqi | tnei => exact counted_trapIf _
  -- The FPU
  case ctc1 => exact counted_ctc1 _ _
  case movS | movD => exact counted_after fun _ => countsDown_advance (sameGuards_setFpr ..)
  case movfS | movtS | movnS | movzS | movfD | movtD | movnD | movzD => exact counted_moveFprIf _ _ _ _
  case addS | subS | mulS | divS | sqrtS | absS | negS | recipS | rsqrtS | addD | subD | mulD | divD | sqrtD | absD
      | negD | recipD | rsqrtD | maddS | maddD | msubS | msubD | nmaddS | nmaddD | nmsubS | nmsubD | cvtSD | cvtSW
      | cvtSL | cvtDS | cvtDW | cvtDL =>
    exact counted_fpRun _ _ (sameGuards_setFpr _ _ _)
  case cvtWS | cvtLS | roundWS | truncWS | ceilWS | floorWS | roundLS | truncLS | ceilLS | floorLS | cvtWD | cvtLD
      | roundWD | truncWD | ceilWD | floorWD | roundLD | truncLD | ceilLD | floorLD =>
    exact counted_fpRun _ _ (sameGuards_setFprInt _ _ _)
  case cFS | cUnS | cEqS | cUeqS | cOltS | cUltS | cOleS | cUleS | cSfS | cNgleS | cSeqS | cNglS | cLtS | cNgeS | cLeS
      | cNgtS | cFD | cUnD | cEqD | cUeqD | cOltD | cUltD | cOleD | cUleD | cSfD | cNgleD | cSeqD | cNglD | cLtD | cNgeD
      | cLeD | cNgtD =>
    exact counted_fpRun _ _ fun _ => ⟨rfl, rfl⟩

/-! ### The moves (43_muldiv R371 to R374) -/

section
variable {i : Instr} {s : State} {d : Reg} {v : Word} {g h : Nat}

/-- A register written by an instruction that sets a guard. -/
theorem writesGpr_guarded (hx : exec i s = .next { writeGpr d v s with hiGuard := g, loGuard := h }) :
    WritesGpr i s d v := by
  have keeps := keeps_advance _ _ _ (keeps_setGpr d v s)
  have steps : StepsOn s (writeGpr d v s) := stepsOn_advance_of (setGpr_pc ..) (setGpr_next ..)
  exact ⟨_, hx, (advance_gpr ..).trans (setGpr_gpr_same d v s), { keeps with }, { steps with }⟩

theorem requireHi_hazard (hh : s.hiloHazard = true) (hg : 0 < s.hiGuard) :
    requireHi s = .error (.refuse .hiLoHazard) := by
  simp [requireHi, hh, hg]

theorem requireLo_hazard (hh : s.hiloHazard = true) (hg : 0 < s.loGuard) :
    requireLo s = .error (.refuse .hiLoHazard) := by
  simp [requireLo, hh, hg]

theorem requireHiLo_hazard (hh : s.hiloHazard = true) (hg : 0 < s.hiGuard ∨ 0 < s.loGuard) :
    requireHiLo s = .error (.refuse .hiLoHazard) := by
  unfold requireHiLo
  by_cases hi : 0 < s.hiGuard
  · rw [requireHi_hazard hh hi, bind_error]
  · have passes : requireHi s = .ok () := by simp [requireHi, hi]
    rw [passes, bind_ok, requireLo_hazard hh (hg.resolve_left hi)]

theorem effects_mthi (rs : Reg) (free : NoHiLoHazard s) : Effects (.mthi rs) s { hiLo := true } fun t =>
    t.hi = s.gpr rs ∧ t.hiTag = .moved ∧ t.loTag = s.loTag ∧ (s.loTag = .moved → t.lo = s.lo) := by
  refine effects_advance (finish_of_ok (requireHi_ok s free))
    { keeps_refl { hiLo := true } s with hiLo := nofun } ?_
  simp +contextual

theorem effects_mtlo (rs : Reg) (free : NoHiLoHazard s) : Effects (.mtlo rs) s { hiLo := true } fun t =>
    t.lo = s.gpr rs ∧ t.loTag = .moved ∧ t.hiTag = s.hiTag ∧ (s.hiTag = .moved → t.hi = s.hi) := by
  refine effects_advance (finish_of_ok (requireLo_ok s free))
    { keeps_refl { hiLo := true } s with hiLo := nofun } ?_
  simp +contextual

end

/-- Settles O19: MFHI and MFLO set their guard on top of the count, every other instruction counts or takes an
exception, which keeps the guards; a guard above 0 is what stops a write of HI or LO. -/
theorem hiLoMoves : Obligations.HiLoMoves := by
  refine ⟨fun i s t hx => ⟨?mfhi, ?mflo, fun other => ?others⟩, fun s rs rt rd => ?moves⟩
  case mfhi =>
    rintro rd rfl
    cases hx
    exact ⟨rfl, (countsDown_advance ⟨setGpr_hiGuard .., setGpr_loGuard ..⟩).2⟩
  case mflo =>
    rintro rd rfl
    cases hx
    exact ⟨rfl, (countsDown_advance ⟨setGpr_hiGuard .., setGpr_loGuard ..⟩).1⟩
  case others =>
    rcases exec_endsCounted i s other t hx with counted | ⟨e, f31, rfl⟩
    · exact .inl counted
    · exact .inr ⟨e, f31, rfl, takeException_hiGuard .., takeException_loGuard ..⟩
  case moves =>
    refine ⟨writesGpr_guarded rfl, writesGpr_guarded rfl, fun free => ⟨effects_mthi rs free, effects_mtlo rs free⟩,
      fun hh hg => finish_gate_stops (requireHi_hazard hh hg), fun hh hg => finish_gate_stops (requireLo_hazard hh hg),
      fun hh hg => ?_⟩
    have hazard := requireHiLo_hazard hh hg
    simp only [List.mem_cons, List.not_mem_nil, or_false, forall_eq_or_imp, forall_eq]
    have stops {x : Except Stop State} := finish_gate_stops (s := s) (x := x) hazard
    exact ⟨⟨stops, stops, stops, stops⟩, fun h64 =>
      have stops64 {x : Except Stop State} := (finish_after_gate (require64_enabled s h64)).trans (stops (x := x))
      ⟨stops64, stops64, stops64, stops64⟩⟩

end Sys2Proof.Proofs

/-! PROOFS. The conditional branches, and the jumps and branches that have no defined effect. -/

namespace Sys2Proof.Proofs

open Sys2Proof.Machine

set_option Elab.async false

/-! ### Branches behind their gates (44_jump_branch R380 to R382) -/

section
variable {i : Instr} {s : State} {b : Bool} {c : Prop} {offset : BitVec 16} {g : Except Stop Unit}

/-- An ordinary branch whose gates are passed: it has no effect besides branching. -/
theorem branchesIf_of_ok (hg : g = .ok ()) (hb : b = true ↔ c)
    (hx : exec i s = finish s (g >>= fun _ => .ok (branchIf b offset s))) : BranchesIf i s c offset {} :=
  branchesIf_of (hx.trans (finish_of_ok hg)) hb rfl (keeps_refl _ s)

theorem branchesLikely_of_ok (hg : g = .ok ()) (hb : b = true ↔ c)
    (hx : exec i s = finish s (g >>= fun _ => .ok (branchLikely b offset s))) : BranchesLikely i s c offset {} :=
  branchesLikely_of (hx.trans (finish_of_ok hg)) hb rfl (keeps_refl _ s)

end

/-! ### The comparisons with zero (44_jump_branch R391, R392) -/

theorem sle_zero_iff (v : Word) : v.sle 0#64 = true ↔ v.toInt ≤ 0 := by
  rw [BitVec.sle_iff_toInt_le, BitVec.toInt_zero]

theorem zero_slt_iff (v : Word) : (0#64).slt v = true ↔ 0 < v.toInt := by
  rw [BitVec.slt_iff_toInt_lt, BitVec.toInt_zero]

/-- Settles O21: outside a delay slot the one gate is passed, and the bit that each branch tests is its comparison of
the 64-bit registers. -/
theorem registerBranches : Obligations.RegisterBranches := by
  intro s rs rt offset hn
  have hslot := requireNoSlot_ok s hn
  exact ⟨branchesIf_of_ok hslot beq_iff_eq rfl, branchesIf_of_ok hslot bne_iff_ne rfl,
    branchesIf_of_ok hslot (sle_zero_iff _) rfl, branchesIf_of_ok hslot (zero_slt_iff _) rfl,
    branchesIf_of_ok hslot (isNeg_iff _) rfl, branchesIf_of_ok hslot (not_isNeg_iff _) rfl,
    branchesLikely_of_ok hslot beq_iff_eq rfl, branchesLikely_of_ok hslot bne_iff_ne rfl,
    branchesLikely_of_ok hslot (sle_zero_iff _) rfl, branchesLikely_of_ok hslot (zero_slt_iff _) rfl,
    branchesLikely_of_ok hslot (isNeg_iff _) rfl, branchesLikely_of_ok hslot (not_isNeg_iff _) rfl⟩

/-! ### The branches on a condition code (44_jump_branch R405 to R409) -/

/-- With the FPU usable and the condition code enabled, only the check of the delay slot is left of the gates. -/
theorem bc1Gate_enabled {s : State} {cc : BitVec 3} (h1 : s.cu 1 = true) (h3 : cc = 0#3 ∨ s.cu 3 = true) :
    bc1Gate cc s = requireNoSlot s := by
  rw [bc1Gate, requireUnit_usable 1#2 s h1, bind_ok, requireCc_ok cc s h3, bind_ok]

/-- Settles O23: the gates are passed, and the code is seen as it is. -/
theorem conditionCodeBranches : Obligations.ConditionCodeBranches := by
  intro s cc offset hn h1 h3 hsame
  have gate : bc1Gate cc s = .ok () := (bc1Gate_enabled h1 h3).trans (requireNoSlot_ok s hn)
  have seen := fccSeen_of_unchanged hsame
  have whenClear : (!s.fccSeen cc) = true ↔ s.fcc cc = false := by rw [seen, Bool.not_eq_true']
  have whenSet : s.fccSeen cc = true ↔ s.fcc cc = true := by rw [seen]
  exact ⟨branchesIf_of_ok gate whenClear rfl, branchesIf_of_ok gate whenSet rfl,
    branchesLikely_of_ok gate whenClear rfl, branchesLikely_of_ok gate whenSet rfl⟩

/-! ### What is refused (44_jump_branch R383, R388, R395; 46_cp0 R448; log 31) -/

/-- A condition code outside MIPS IV is code 0 (44_jump_branch R405). -/
theorem codeEnabled_of_mips4 {s : State} {cc : BitVec 3} (h : (cc != 0#3) = true → s.cu 3 = true) :
    cc = 0#3 ∨ s.cu 3 = true :=
  (eq_or_ne cc 0#3).imp_right fun hne => h (bne_iff_ne.2 hne)

/-- A jump or branch whose unit is usable and whose condition code is enabled checks the delay slot next. -/
theorem jump_begins_noSlot (i : Instr) (s : State) (hj : isJump i = true) (hu : UnitMarked i s)
    (h4 : needsMips4 i = true → s.cu 3 = true) : Begins i s (requireNoSlot s) := by
  cases i
  case j | jal | jr | jalr | beq | bne | beql | bnel | blez | bgtz | blezl | bgtzl | bltz | bgez | bltzal | bgezal
      | bltzl | bgezl | bltzall | bgezall => exact ⟨_, rfl⟩
  case bc1f cc _ | bc1t cc _ | bc1fl cc _ | bc1tl cc _ =>
    rw [← bc1Gate_enabled (hu 1#2 rfl) (codeEnabled_of_mips4 h4)]
    exact ⟨_, rfl⟩
  all_goals exact nomatch hj

/-- ERET in a delay slot, where it may use CP0. -/
theorem exec_eret_slot {s : State} (hcp0 : Cp0Usable s) (hslot : s.next ≠ none) :
    exec .eret s = .refused .eretInDelaySlot := by
  have inSlot : s.inDelaySlot = true := Option.isSome_iff_ne_none.2 hslot
  calc exec .eret s
      = finish s (if s.inDelaySlot then .error (.refuse .eretInDelaySlot) else .ok (returnFromException s)) :=
        finish_after_gate (requireUnit_cp0 s hcp0)
    _ = .refused .eretInDelaySlot := by rw [if_pos inSlot, finish_refusal]

/-- JALR with its link register as its source (44_jump_branch R388). -/
theorem exec_jalr_same {s : State} (rs : Reg) (hn : s.next = none) :
    exec (.jalr rs rs) s = .refused .linkRegisterSource :=
  calc exec (.jalr rs rs) s
      = finish s (if rs = rs then .error (.refuse .linkRegisterSource)
          else .ok (branchTo (s.gpr rs) (link rs s))) := finish_after_gate (requireNoSlot_ok s hn)
    _ = .refused .linkRegisterSource := by rw [if_pos rfl, finish_refusal]

/-- Settles O24: in a delay slot the check of the slot refuses; outside one it is passed, and the check of the link
register refuses. -/
theorem unpredictableJumpsStop : Obligations.UnpredictableJumpsStop := by
  refine ⟨fun i s hj hslot hu h4 => ?slot, fun s rs offset => ⟨fun hn => ?source, fun hslot hcp0 => ?eret⟩⟩
  case slot =>
    obtain ⟨rest, hx⟩ := jump_begins_noSlot i s hj hu h4
    exact hx.trans (by rw [requireNoSlot_slot s hslot, bind_error, finish_refusal])
  case source =>
    have refuses : requireLinkSource 31#5 = .error (.refuse .linkRegisterSource) := if_pos rfl
    have stops {x : Except Stop State} :
        finish s (requireNoSlot s >>= fun _ => requireLinkSource 31#5 >>= fun _ => x) = .refused .linkRegisterSource :=
      (finish_after_gate (requireNoSlot_ok s hn)).trans (finish_gate_stops refuses)
    exact ⟨exec_jalr_same rs hn, stops, stops, stops, stops⟩
  case eret => exact exec_eret_slot hcp0 hslot

end Sys2Proof.Proofs

/-! PROOFS. The moves between FPU registers. -/

namespace Sys2Proof.Proofs

open Sys2Proof.Machine

set_option Elab.async false

section
variable {s : State} {i : Instr} {f : FpFmt} {fs fd : Reg}

/-! ### An FPR copied (47_fpu_move R484) -/

/-- An S value is held in the low word of the doubleword that stands for it. -/
theorem low_fpr_single (s : State) (r : Reg) : low (s.fpr .s r) = s.fpr32 r :=
  BitVec.setWidth_setWidth_of_le _ (by decide)

/-- An instruction whose whole effect is an FPR copied: an S copy writes the low word of one FGR, a D copy
all that holds the FPR (10_state R53). -/
theorem writesFpr_of_copy (hfd : s.fprOk fd = true) (hx : exec i s = .next (advance (copyFpr f fs fd s))) :
    WritesFpr i s f fd (s.fpr f fs) := by
  cases f with
  | s =>
    obtain ⟨t, runs, written, kept⟩ := writesFgrLow_of hx
    exact ⟨t, runs, congrArg (·.setWidth 64) (written.trans (low_fpr_single s fs)), kept⟩
  | d => exact writesFpr64_of hfd hx

theorem fprOk_destination (h : FpReady s [fs, fd]) : s.fprOk fd = true := h.2 fd (by simp)

/-! ### The moves behind their gates (47_fpu_move R476 to R480) -/

theorem moveFpr_copies (h : FpReady s [fs, fd]) : moveFpr f fs fd s = .next (advance (copyFpr f fs fd s)) :=
  finish_of_ok (fpGate_ready s _ h)

theorem moveFprIf_copies (h : FpReady s [fs, fd]) (hcu3 : s.cu 3 = true) :
    moveFprIf f true fs fd s = .next (advance (copyFpr f fs fd s)) :=
  finish_of_ok (fpGate4_ready s _ h hcu3)

/-- A move whose condition fails names no FPR to its gate. -/
theorem moveFprIf_idle (hcu1 : s.cu 1 = true) (hcu3 : s.cu 3 = true) : moveFprIf f false fs fd s = .next (advance s) :=
  finish_of_ok (fpGate4_ready s [] ⟨hcu1, List.forall_mem_nil _⟩ hcu3)

/-- A conditional move, by its condition. -/
theorem movesFprIf_of {c : Bool} (hcu1 : s.cu 1 = true) (hcu3 : s.cu 3 = true)
    (hx : exec i s = moveFprIf f c fs fd s) :
    (c = true → FpReady s [fs, fd] → WritesFpr i s f fd (s.fpr f fs)) ∧ (c = false → ChangesNothing i s) := by
  refine ⟨fun hc ready => ?copies, fun hc => ?idle⟩
  case copies =>
    subst hc
    exact writesFpr_of_copy (fprOk_destination ready) (hx.trans (moveFprIf_copies ready hcu3))
  case idle =>
    subst hc
    exact changesNothing_of (hx.trans (moveFprIf_idle hcu1 hcu3))

end

/-- Settles O52: MOV.fmt is one copy behind its gate, and each conditional move is `moveFprIf` in its format and
condition, by its equation of exec. -/
theorem fprMoves : Obligations.FprMoves := by
  intro s rt fs fd cc hcu1
  refine ⟨fun ready => ?moves, fun hcu3 => ?conditional⟩
  case moves =>
    have destination := fprOk_destination ready
    exact ⟨writesFpr_of_copy (i := .movS fs fd) destination (moveFpr_copies ready),
      writesFpr_of_copy (i := .movD fs fd) destination (moveFpr_copies ready)⟩
  case conditional =>
    have both {i j : Instr} {c : Bool} (hi : exec i s = moveFprIf .s c fs fd s)
        (hj : exec j s = moveFprIf .d c fs fd s) :
        (c = true → FpReady s [fs, fd] → WritesFpr i s .s fd (s.fpr .s fs) ∧ WritesFpr j s .d fd (s.fpr .d fs))
          ∧ (c = false → ChangesNothing i s ∧ ChangesNothing j s) := by
      obtain ⟨singleCopies, singleIdle⟩ := movesFprIf_of hcu1 hcu3 hi
      obtain ⟨doubleCopies, doubleIdle⟩ := movesFprIf_of hcu1 hcu3 hj
      exact ⟨fun hc ready => ⟨singleCopies hc ready, doubleCopies hc ready⟩, fun hc => ⟨singleIdle hc, doubleIdle hc⟩⟩
    simp only [List.forall_mem_cons, List.not_mem_nil, IsEmpty.forall_iff, implies_true, and_true]
    exact ⟨both rfl rfl, both rfl rfl, both rfl rfl, both rfl rfl⟩

end Sys2Proof.Proofs

/-! PROOFS. The bits of a floating-point number: its sign, exponent and fraction, what they stand for, and the words
that are delivered. -/

namespace Sys2Proof.Proofs

open Sys2Proof.Machine

set_option Elab.async false

/-! ### The fields of a word (48_fpu_arith R510) -/

/-- The bits of the fraction. -/
abbrev fracBits (f : FpFmt) : Nat := fpPrec f - 1

/-- The sign of a word in a format. -/
def fpSign (f : FpFmt) (w : Word) : Bool := w.getLsbD (fpSignBit f)

/-- The biased exponent. -/
def fpExp (f : FpFmt) (w : Word) : Nat := w.toNat / 2 ^ fracBits f % (fpExpOnes f + 1)

/-- The fraction. -/
def fpFrac (f : FpFmt) (w : Word) : Nat := w.toNat % 2 ^ fracBits f

section
variable {f : FpFmt} {w v : Word} {neg : Bool} {ex frac : Nat}

theorem unpack_eq (f : FpFmt) (w : Word) : unpack f w =
    if fpExp f w = fpExpOnes f then
      if fpFrac f w = 0 then .inf (fpSign f w) else if 2 ^ (fracBits f - 1) ≤ fpFrac f w then .snan else .qnan
    else if fpExp f w = 0 then
      if fpFrac f w = 0 then .zero (fpSign f w) else .finite true (fpSign f w) (fpFrac f w) (fpEmin f - fracBits f)
    else .finite false (fpSign f w) (2 ^ fracBits f + fpFrac f w) ((fpExp f w : Int) - fpEmax f - fracBits f) := rfl

theorem fpFrac_lt (f : FpFmt) (w : Word) : fpFrac f w < 2 ^ fracBits f := Nat.mod_lt _ (Nat.two_pow_pos _)

theorem fpExp_le (f : FpFmt) (w : Word) : fpExp f w ≤ fpExpOnes f := Nat.lt_succ_iff.1 (Nat.mod_lt _ (Nat.succ_pos _))

theorem fpExpOnes_pos (f : FpFmt) : 0 < fpExpOnes f := Nat.succ_pos _

theorem unpack_inf (he : fpExp f w = fpExpOnes f) (hf : fpFrac f w = 0) : unpack f w = .inf (fpSign f w) := by
  rw [unpack_eq, if_pos he, if_pos hf]

theorem unpack_nan (he : fpExp f w = fpExpOnes f) (hf : fpFrac f w ≠ 0) :
    unpack f w = if 2 ^ (fracBits f - 1) ≤ fpFrac f w then .snan else .qnan := by
  rw [unpack_eq, if_pos he, if_neg hf]

theorem unpack_zero (he : fpExp f w = 0) (hf : fpFrac f w = 0) : unpack f w = .zero (fpSign f w) := by
  rw [unpack_eq, if_neg (he ▸ (fpExpOnes_pos f).ne), if_pos he, if_pos hf]

theorem unpack_denormal (he : fpExp f w = 0) (hf : fpFrac f w ≠ 0) :
    unpack f w = .finite true (fpSign f w) (fpFrac f w) (fpEmin f - fracBits f) := by
  rw [unpack_eq, if_neg (he ▸ (fpExpOnes_pos f).ne), if_pos he, if_neg hf]

theorem unpack_normal (h0 : 0 < fpExp f w) (h1 : fpExp f w < fpExpOnes f) : unpack f w =
    .finite false (fpSign f w) (2 ^ fracBits f + fpFrac f w) ((fpExp f w : Int) - fpEmax f - fracBits f) := by
  rw [unpack_eq, if_neg h1.ne, if_neg h0.ne']

/-! ### Words out of fields -/

/-- The exponent and the fraction fill the bits below the sign. -/
theorem fields_fill (f : FpFmt) :
    (fpExpOnes f + 1) * 2 ^ fracBits f = 2 ^ fpSignBit f ∧ 2 * 2 ^ fpSignBit f ≤ 2 ^ 64 := by
  cases f <;> decide

/-- The word below its sign. -/
def belowSign (f : FpFmt) (ex frac : Nat) : Nat := ex * 2 ^ fracBits f + frac

theorem belowSign_lt (he : ex ≤ fpExpOnes f) (hf : frac < 2 ^ fracBits f) : belowSign f ex frac < 2 ^ fpSignBit f :=
  calc ex * 2 ^ fracBits f + frac < (ex + 1) * 2 ^ fracBits f := by rw [Nat.add_mul]; omega
    _ ≤ (fpExpOnes f + 1) * 2 ^ fracBits f := Nat.mul_le_mul_right _ (by omega)
    _ = 2 ^ fpSignBit f := (fields_fill f).1

theorem toNat_packBits (he : ex ≤ fpExpOnes f) (hf : frac < 2 ^ fracBits f) :
    (packBits f neg ex frac).toNat = neg.toNat * 2 ^ fpSignBit f + belowSign f ex frac := by
  have low := belowSign_lt he hf
  have room := (fields_fill f).2
  have sign : neg.toNat * 2 ^ fpSignBit f = if neg then 2 ^ fpSignBit f else 0 := by cases neg <;> simp
  have small : (if neg then 2 ^ fpSignBit f else 0) ≤ 2 ^ fpSignBit f := by split <;> omega
  rw [packBits, BitVec.toNat_ofNat, sign, Nat.add_assoc]
  exact Nat.mod_eq_of_lt (show _ + belowSign f ex frac < _ by omega)

theorem belowSign_fields (ex : Nat) (hf : frac < 2 ^ fracBits f) :
    belowSign f ex frac % 2 ^ fracBits f = frac ∧ belowSign f ex frac / 2 ^ fracBits f = ex := by
  rw [belowSign, Nat.mul_add_mod_self_right, Nat.mod_eq_of_lt hf, Nat.mul_comm, Nat.mul_add_div (Nat.two_pow_pos _),
    Nat.div_eq_of_lt hf]
  exact ⟨rfl, Nat.add_zero _⟩

/-- The same with the sign as a bit above the exponent. -/
theorem toNat_packBits_exponent (he : ex ≤ fpExpOnes f) (hf : frac < 2 ^ fracBits f) : (packBits f neg ex frac).toNat
    = neg.toNat * (fpExpOnes f + 1) * 2 ^ fracBits f + belowSign f ex frac := by
  rw [toNat_packBits he hf, Nat.mul_assoc, (fields_fill f).1]

theorem fpFrac_packBits (he : ex ≤ fpExpOnes f) (hf : frac < 2 ^ fracBits f) :
    fpFrac f (packBits f neg ex frac) = frac := by
  rw [fpFrac, toNat_packBits_exponent he hf, Nat.mul_add_mod_self_right, (belowSign_fields ex hf).1]

theorem fpExp_packBits (he : ex ≤ fpExpOnes f) (hf : frac < 2 ^ fracBits f) :
    fpExp f (packBits f neg ex frac) = ex := by
  rw [fpExp, toNat_packBits_exponent he hf, Nat.mul_comm _ (2 ^ fracBits f), Nat.mul_add_div (Nat.two_pow_pos _),
    (belowSign_fields ex hf).2, Nat.mul_add_mod_self_right, Nat.mod_eq_of_lt (Nat.lt_succ_iff.2 he)]

theorem fpSign_packBits (he : ex ≤ fpExpOnes f) (hf : frac < 2 ^ fracBits f) :
    fpSign f (packBits f neg ex frac) = neg := by
  have low := belowSign_lt he hf
  rw [fpSign, BitVec.getLsbD, Nat.testBit_eq_decide_div_mod_eq, toNat_packBits he hf, Nat.mul_comm,
    Nat.mul_add_div (Nat.two_pow_pos _), Nat.div_eq_of_lt low]
  cases neg <;> rfl

theorem unpack_packInf (f : FpFmt) (neg : Bool) : unpack f (packInf f neg) = .inf neg := by
  have frac : 0 < 2 ^ fracBits f := Nat.two_pow_pos _
  rw [packInf, unpack_inf (fpExp_packBits le_rfl frac) (fpFrac_packBits le_rfl frac), fpSign_packBits le_rfl frac]

theorem unpack_packZero (f : FpFmt) (neg : Bool) : unpack f (packZero f neg) = .zero neg := by
  have frac : 0 < 2 ^ fracBits f := Nat.two_pow_pos _
  have exp := Nat.zero_le (fpExpOnes f)
  rw [packZero, unpack_zero (fpExp_packBits exp frac) (fpFrac_packBits exp frac), fpSign_packBits exp frac]

theorem unpack_packBits (h0 : 0 < ex) (h1 : ex < fpExpOnes f) (hf : frac < 2 ^ fracBits f) :
    unpack f (packBits f neg ex frac)
      = .finite false neg (2 ^ fracBits f + frac) ((ex : Int) - fpEmax f - fracBits f) := by
  have exp := fpExp_packBits (neg := neg) h1.le hf
  rw [unpack_normal (exp.symm ▸ h0) (exp.symm ▸ h1), exp, fpFrac_packBits h1.le hf, fpSign_packBits h1.le hf]

/-- Two words that agree below the sign have the same exponent and fraction. -/
theorem fields_congr (h : ∀ i < fpSignBit f, v.getLsbD i = w.getLsbD i) :
    fpExp f v = fpExp f w ∧ fpFrac f v = fpFrac f w := by
  have split : fpExpOnes f + 1 = 2 ^ (fpSignBit f - fracBits f) ∧ fracBits f < fpSignBit f := by
    cases f <;> decide
  obtain ⟨ones, width⟩ := split
  constructor
  · apply Nat.eq_of_testBit_eq
    intro i
    rw [fpExp, fpExp, ones, Nat.testBit_mod_two_pow, Nat.testBit_mod_two_pow, Nat.testBit_div_two_pow,
      Nat.testBit_div_two_pow]
    by_cases hi : i < fpSignBit f - fracBits f
    · rw [show v.toNat.testBit (i + fracBits f) = w.toNat.testBit (i + fracBits f) from h _ (by omega)]
    · simp [hi]
  · apply Nat.eq_of_testBit_eq
    intro i
    rw [fpFrac, fpFrac, Nat.testBit_mod_two_pow, Nat.testBit_mod_two_pow]
    by_cases hi : i < fracBits f
    · rw [show v.toNat.testBit i = w.toNat.testBit i from h i (by omega)]
    · simp [hi]

/-- A word that its format holds (all of a D word, the low half for S) is put together from its fields. -/
theorem packBits_fields (hw : w.toNat < 2 * 2 ^ fpSignBit f) :
    packBits f (fpSign f w) (fpExp f w) (fpFrac f w) = w := by
  apply BitVec.eq_of_toNat_eq
  rw [toNat_packBits (fpExp_le f w) (fpFrac_lt f w)]
  have sign : (fpSign f w).toNat = w.toNat / 2 ^ fpSignBit f := by
    have small : w.toNat / 2 ^ fpSignBit f < 2 := Nat.div_lt_of_lt_mul (by rwa [Nat.mul_comm])
    rw [fpSign, BitVec.getLsbD, Nat.testBit_eq_decide_div_mod_eq, Nat.mod_eq_of_lt small]
    interval_cases w.toNat / 2 ^ fpSignBit f <;> rfl
  have below : belowSign f (fpExp f w) (fpFrac f w) = w.toNat % 2 ^ fpSignBit f := by
    rw [← (fields_fill f).1, Nat.mul_comm, Nat.mod_mul, belowSign, fpExp, fpFrac]
    ring
  rw [sign, below]
  exact Nat.div_add_mod' _ _

end

end Sys2Proof.Proofs

/-! PROOFS. What is delivered: the classes of all words, the values out of range, and the values that are delivered as
they are. -/

namespace Sys2Proof.Proofs

open Sys2Proof.Machine

set_option Elab.async false

section
variable {f : FpFmt} {md : FpMode} {w v : Word} {neg sticky : Bool} {m p q : Nat} {e : Int} {x : Exact}

/-! ### What the bits stand for (48_fpu_arith R510) -/

/-- The bits of the exponent. -/
def expBits : FpFmt → Nat
  | .s => 8
  | .d => 11

theorem fpExpOnes_succ (f : FpFmt) : fpExpOnes f + 1 = 2 ^ expBits f := by cases f <;> rfl

theorem top_fraction_bit (f : FpFmt) (w : Word) :
    w.getLsbD (fracBits f - 1) = decide (2 ^ (fracBits f - 1) ≤ fpFrac f w) := by
  obtain ⟨k, bits⟩ : ∃ k, fracBits f = k + 1 := ⟨fracBits f - 1, by cases f <;> rfl⟩
  have half : fpFrac f w / 2 ^ k = w.toNat / 2 ^ k % 2 := by
    rw [fpFrac, bits, pow_succ, Nat.mod_mul_right_div_self]
  have small : fpFrac f w / 2 ^ k < 2 := half ▸ Nat.mod_lt _ two_pos
  rw [bits, Nat.add_sub_cancel, BitVec.getLsbD, Nat.testBit_eq_decide_div_mod_eq, ← half, decide_eq_decide,
    ← Nat.one_le_div_iff (Nat.two_pow_pos k)]
  omega

/-- In normal form: the number of a finite value with a hidden bit. -/
theorem scaled_normal (neg : Bool) (frac fb : Nat) (ex bias : Int) :
    scaled neg (2 ^ fb + frac) (ex - bias - fb) = sgn neg * 2 ^ (ex - bias) * (1 + (frac : Rat) / 2 ^ fb) := by
  rw [scaled_eq, zpow_sub₀ two_ne_zero, zpow_natCast]
  push_cast
  field_simp

theorem scaled_denormal (neg : Bool) (frac fb : Nat) (bias : Int) :
    scaled neg frac (1 - bias - fb) = sgn neg * 2 ^ (1 - bias) * ((frac : Rat) / 2 ^ fb) := by
  rw [scaled_eq, zpow_sub₀ two_ne_zero, zpow_natCast]
  ring

theorem standsFor (f : FpFmt) (w : Word) : StandsFor f w (fpSignBit f) (expBits f) (fracBits f) (fpEmax f) := by
  have exp : w.toNat / 2 ^ fracBits f % 2 ^ expBits f = fpExp f w := by rw [fpExp, fpExpOnes_succ]
  have ones : 2 ^ expBits f - 1 = fpExpOnes f := by rw [← fpExpOnes_succ, Nat.add_sub_cancel]
  unfold StandsFor
  rw [exp, ones]
  refine ⟨fun he hf => ?nan, unpack_inf, fun h0 h1 => ?normal, fun he hf => ?denormal, unpack_zero⟩
  case nan => rw [unpack_nan he hf, top_fraction_bit]; simp
  case normal =>
    rw [unpack_normal h0 h1]
    exact ⟨⟨_, _, rfl⟩, scaled_normal ..⟩
  case denormal =>
    rw [unpack_denormal he hf]
    exact ⟨⟨_, _, rfl⟩, scaled_denormal ..⟩

/-- Every word is of one of the classes. -/
theorem unpack_cases (f : FpFmt) (w : Word) :
    (unpack f w = .snan ∨ unpack f w = .qnan)
    ∨ (fpExp f w = fpExpOnes f ∧ fpFrac f w = 0 ∧ unpack f w = .inf (fpSign f w))
    ∨ (fpExp f w = 0 ∧ fpFrac f w = 0 ∧ unpack f w = .zero (fpSign f w))
    ∨ (0 < fpFrac f w ∧ unpack f w = .finite true (fpSign f w) (fpFrac f w) (fpEmin f - fracBits f))
    ∨ (0 < fpExp f w ∧ fpExp f w < fpExpOnes f ∧ unpack f w
      = .finite false (fpSign f w) (2 ^ fracBits f + fpFrac f w) ((fpExp f w : Int) - fpEmax f - fracBits f)) := by
  rcases Nat.eq_zero_or_pos (fpFrac f w) with hf | hf
  · rcases Nat.eq_zero_or_pos (fpExp f w) with he | h0
    · exact .inr (.inr (.inl ⟨he, hf, unpack_zero he hf⟩))
    · rcases (fpExp_le f w).eq_or_lt with he | h1
      · exact .inr (.inl ⟨he, hf, unpack_inf he hf⟩)
      · exact .inr (.inr (.inr (.inr ⟨h0, h1, unpack_normal h0 h1⟩)))
  · rcases Nat.eq_zero_or_pos (fpExp f w) with he | h0
    · exact .inr (.inr (.inr (.inl ⟨hf, unpack_denormal he hf.ne'⟩)))
    · rcases (fpExp_le f w).eq_or_lt with he | h1
      · refine .inl ?_
        rw [unpack_nan he hf.ne']
        split
        · exact .inl rfl
        · exact .inr rfl
      · exact .inr (.inr (.inr (.inr ⟨h0, h1, unpack_normal h0 h1⟩)))

/-! ### The bounds of a rounded significand (48_fpu_arith R513) -/

/-- Rounding keeps p bits of a longer significand, or one unit more. -/
theorem leading_bits (hm : 0 < m) (hp : 0 < p) (hn : ¬m.log2 + 1 ≤ p) :
    2 ^ (p - 1) ≤ m / 2 ^ (m.log2 + 1 - p) ∧ m / 2 ^ (m.log2 + 1 - p) < 2 ^ p := by
  rw [Nat.le_div_iff_mul_le (Nat.two_pow_pos _), Nat.div_lt_iff_lt_mul (Nat.two_pow_pos _), ← pow_add, ← pow_add,
    show p - 1 + (m.log2 + 1 - p) = m.log2 by omega, show p + (m.log2 + 1 - p) = m.log2 + 1 by omega]
  exact ⟨Nat.log2_self_le hm.ne', Nat.lt_log2_self⟩

theorem normalized_bounds {r : Nat} {E : Int} {inexact : Bool} (hp : 0 < p) (hlow : 2 ^ (p - 1) ≤ q) (hhigh : q < 2 ^ p)
    (hr : r = q ∨ r = q + 1) :
    2 ^ (p - 1) ≤ (normalized p r E inexact).1 ∧ (normalized p r E inexact).1 < 2 ^ p := by
  unfold normalized
  split
  · exact ⟨le_rfl, Nat.pow_lt_pow_right one_lt_two (Nat.sub_lt hp one_pos)⟩
  · dsimp only
    omega

/-- A rounded significand has p bits, whatever is known of the number that it stands for. -/
theorem roundTo_bounds (mode : Rounding) (neg sticky : Bool) (e : Int) (hm : 0 < m) (hp : 0 < p) :
    2 ^ (p - 1) ≤ (roundTo p mode neg m e sticky).1 ∧ (roundTo p mode neg m e sticky).1 < 2 ^ p := by
  by_cases hn : m.log2 + 1 ≤ p
  · rw [roundTo, if_pos hn]
    have scale : 0 < 2 ^ (p - (m.log2 + 1)) := Nat.two_pow_pos _
    have low := Nat.mul_le_mul_right (2 ^ (p - (m.log2 + 1))) (Nat.log2_self_le hm.ne')
    have high := Nat.mul_lt_mul_of_pos_right (Nat.lt_log2_self (n := m)) scale
    rw [← pow_add] at low high
    rw [show m.log2 + (p - (m.log2 + 1)) = p - 1 by omega] at low
    rw [show m.log2 + 1 + (p - (m.log2 + 1)) = p by omega] at high
    exact ⟨low, high⟩
  · rw [roundTo_long hn]
    obtain ⟨low, high⟩ := leading_bits hm hp hn
    refine normalized_bounds hp low high ?_
    split
    · exact .inr rfl
    · exact .inl rfl

/-! ### Delivery by the rounded exponent (48_fpu_arith R513 to R517) -/

/-- The exponent of the leading bit of a real result in a format, after rounding. -/
def roundedExp (f : FpFmt) (md : FpMode) (neg : Bool) (m : Nat) (e : Int) (sticky : Bool) : Int :=
  (roundTo (fpPrec f) md.rounding neg m e sticky).2.1 + fpPrec f - 1

theorem prec_pos (f : FpFmt) : 0 < fpPrec f := by cases f <;> decide

theorem prec_eq (f : FpFmt) : fpPrec f = fracBits f + 1 := by cases f <;> rfl

theorem deliverReal_eq (f : FpFmt) (md : FpMode) (neg : Bool) (m : Nat) (e : Int) (sticky : Bool) :
    deliverReal f md neg m e sticky =
      if (fpEmax f : Int) < roundedExp f md neg m e sticky then (causeOI, overflowValue f md.rounding neg)
      else if roundedExp f md neg m e sticky < fpEmin f then deliverTiny f md neg
      else (if (roundTo (fpPrec f) md.rounding neg m e sticky).2.2 then causeI else 0#6,
        packBits f neg (roundedExp f md neg m e sticky + fpEmax f).toNat
          ((roundTo (fpPrec f) md.rounding neg m e sticky).1 - 2 ^ fracBits f)) := by
  have exp : (roundTo (fpPrec f) md.rounding neg m e sticky).2.1 + (fpPrec f - 1 : Nat)
      = roundedExp f md neg m e sticky := by
    rw [roundedExp, Nat.cast_sub (prec_pos f)]
    omega
  rw [← exp]
  rfl

theorem unpack_packMax (f : FpFmt) (neg : Bool) :
    unpack f (packMax f neg) = .finite false neg (2 ^ fpPrec f - 1) (fpEmax f - fpPrec f + 1) := by
  have frac : 2 ^ fracBits f - 1 < 2 ^ fracBits f := Nat.sub_lt (Nat.two_pow_pos _) one_pos
  have exp : 0 < fpExpOnes f - 1 ∧ fpExpOnes f - 1 < fpExpOnes f := by cases f <;> decide
  rw [packMax, unpack_packBits exp.1 exp.2 frac]
  cases f <;> rfl

theorem unpack_packMinNormal (f : FpFmt) (neg : Bool) : unpack f (packMinNormal f neg)
    = .finite false neg (2 ^ (fpPrec f - 1)) (2 - (fpEmax f : Int) - fpPrec f) := by
  have exp : 1 < fpExpOnes f := by cases f <;> decide
  rw [packMinNormal, unpack_packBits one_pos exp (Nat.two_pow_pos _)]
  cases f <;> rfl

/-- The mode rounds a number of this sign away from zero. -/
def RoundsAway (mode : Rounding) (neg : Bool) : Prop := (mode = .rp ∧ neg = false) ∨ (mode = .rm ∧ neg = true)

theorem overflowValue_inf {mode : Rounding} (h : mode = .rn ∨ RoundsAway mode neg) :
    overflowValue f mode neg = packInf f neg := by
  rcases h with rfl | ⟨rfl, rfl⟩ | ⟨rfl, rfl⟩ <;> rfl

theorem overflowValue_max {mode : Rounding} (h : ¬(mode = .rn ∨ RoundsAway mode neg)) :
    overflowValue f mode neg = packMax f neg := by
  cases mode with
  | rn => exact absurd (.inl rfl) h
  | rz => rfl
  | rp =>
    cases neg with
    | true => rfl
    | false => exact absurd (.inr (.inl ⟨rfl, rfl⟩)) h
  | rm =>
    cases neg with
    | true => exact absurd (.inr (.inr ⟨rfl, rfl⟩)) h
    | false => rfl

theorem underflowValue_min {mode : Rounding} (h : RoundsAway mode neg) :
    underflowValue f mode neg = packMinNormal f neg := by
  rcases h with ⟨rfl, rfl⟩ | ⟨rfl, rfl⟩ <;> rfl

theorem underflowValue_zero {mode : Rounding} (h : ¬RoundsAway mode neg) :
    underflowValue f mode neg = packZero f neg := by
  cases mode with
  | rn => rfl
  | rz => rfl
  | rp =>
    cases neg with
    | true => rfl
    | false => exact absurd (.inl ⟨rfl, rfl⟩) h
  | rm =>
    cases neg with
    | true => exact absurd (.inr ⟨rfl, rfl⟩) h
    | false => rfl

theorem deliverReal_overflow (h : (fpEmax f : Int) < roundedExp f md neg m e sticky) :
    deliverReal f md neg m e sticky = (causeOI, overflowValue f md.rounding neg) := by
  rw [deliverReal_eq, if_pos h]

theorem deliverReal_tiny (h : roundedExp f md neg m e sticky < fpEmin f) :
    deliverReal f md neg m e sticky = deliverTiny f md neg := by
  have notOver : ¬(fpEmax f : Int) < roundedExp f md neg m e sticky := by
    unfold fpEmin at h
    omega
  rw [deliverReal_eq, if_neg notOver, if_pos h]

theorem deliverReal_normal (hm : 0 < m) (h0 : fpEmin f ≤ roundedExp f md neg m e sticky)
    (h1 : roundedExp f md neg m e sticky ≤ fpEmax f) :
    (deliverReal f md neg m e sticky).1
        = (if (roundTo (fpPrec f) md.rounding neg m e sticky).2.2 then causeI else 0#6)
    ∧ unpack f (deliverReal f md neg m e sticky).2
        = .finite false neg (roundTo (fpPrec f) md.rounding neg m e sticky).1
          (roundTo (fpPrec f) md.rounding neg m e sticky).2.1 := by
  obtain ⟨low, high⟩ := roundTo_bounds md.rounding neg sticky e hm (prec_pos f)
  rw [deliverReal_eq, if_neg h1.not_gt, if_neg h0.not_gt]
  refine ⟨rfl, ?_⟩
  have double : 2 ^ fpPrec f = 2 ^ fracBits f * 2 := by rw [prec_eq, pow_succ]
  unfold fpEmin at h0
  rw [unpack_packBits (by omega) (by unfold fpExpOnes; omega) (by rw [double] at high; omega), Nat.add_sub_cancel' low,
    Int.toNat_of_nonneg (by omega), roundedExp, prec_eq]
  congr 1
  push_cast
  omega

/-! ### Values that are delivered as they are (48_fpu_arith R525, R526) -/

/-- The exact result of a value with another sign. -/
def exactWith (neg : Bool) : FpVal → Exact
  | .zero _ => .zero neg
  | .inf _ => .inf neg
  | .finite _ _ m e => .real neg m e false
  | _ => .invalid

theorem exactOf_eq (v : FpVal) : exactOf v = exactWith v.negative v := by cases v <;> rfl

theorem exactNeg_eq (v : FpVal) : exactNeg v = exactWith (!v.negative) v := by cases v <;> rfl

theorem exactAbs_eq (v : FpVal) : exactAbs v = exactWith false v := by cases v <;> rfl

/-- A significand of p bits is not rounded. -/
theorem roundTo_self {mode : Rounding} (hlow : 2 ^ (p - 1) ≤ m) (hhigh : m < 2 ^ p) (hp : 0 < p) :
    roundTo p mode neg m e sticky = (m, e, sticky) := by
  have bits : m.log2 + 1 = p := by
    have : m.log2 = p - 1 := (Nat.log2_eq_iff ((Nat.two_pow_pos _).trans_le hlow).ne').2
      ⟨hlow, by rwa [Nat.sub_add_cancel hp]⟩
    omega
  rw [roundTo, if_pos bits.le, bits, Nat.sub_self, pow_zero, mul_one, Nat.cast_zero, sub_zero]

theorem deliver_normal {ex frac : Nat} (h0 : 0 < ex) (h1 : ex < fpExpOnes f) (hf : frac < 2 ^ fracBits f) :
    deliver f md (.real neg (2 ^ fracBits f + frac) ((ex : Int) - fpEmax f - fracBits f) false)
      = (0#6, packBits f neg ex frac) := by
  have double : 2 ^ fpPrec f = 2 ^ fracBits f * 2 := by rw [prec_eq, pow_succ]
  have same := roundTo_self (mode := md.rounding) (neg := neg) (sticky := false)
    (e := (ex : Int) - fpEmax f - fracBits f) (Nat.le_add_right (2 ^ fracBits f) frac) (by omega) (prec_pos f)
  have exp : roundedExp f md neg (2 ^ fracBits f + frac) ((ex : Int) - fpEmax f - fracBits f) false
      = (ex : Int) - fpEmax f := by
    rw [roundedExp, same, prec_eq]
    push_cast
    omega
  unfold fpExpOnes at h1
  rw [deliver, deliverReal_eq, exp, same, if_neg (by omega), if_neg (by unfold fpEmin; omega), Int.sub_add_cancel,
    Int.toNat_natCast, Nat.add_sub_cancel_left]
  rfl

/-- A normal number, a zero or an infinity, given a sign, is delivered as its own bits with that sign. -/
theorem deliver_exactWith
    (h : isNormal (unpack f w) = true ∨ (∃ n, unpack f w = .zero n) ∨ ∃ n, unpack f w = .inf n) :
    (unpack f w).negative = fpSign f w
      ∧ ∀ neg, deliver f md (exactWith neg (unpack f w)) = (0#6, packBits f neg (fpExp f w) (fpFrac f w)) := by
  rcases unpack_cases f w with (hv | hv) | ⟨he, hf, hv⟩ | ⟨he, hf, hv⟩ | ⟨-, hv⟩ | ⟨h0, h1, hv⟩
  case inl.inl => simp [hv, isNormal] at h
  case inl.inr => simp [hv, isNormal] at h
  case inr.inl =>
    rw [hv, he, hf]
    exact ⟨rfl, fun _ => rfl⟩
  case inr.inr.inl =>
    rw [hv, he, hf]
    exact ⟨rfl, fun _ => rfl⟩
  case inr.inr.inr.inl => simp [hv, isNormal] at h
  case inr.inr.inr.inr =>
    rw [hv]
    exact ⟨rfl, fun _ => deliver_normal h0 h1 (fpFrac_lt f w)⟩

/-- The fields of a word with another sign make up any word that differs from it in nothing else. -/
theorem packBits_of_sign (hsign : fpSign f v = neg) (hbelow : ∀ i < fpSignBit f, v.getLsbD i = w.getLsbD i)
    (hv : v.toNat < 2 * 2 ^ fpSignBit f) : packBits f neg (fpExp f w) (fpFrac f w) = v := by
  obtain ⟨exp, frac⟩ := fields_congr hbelow
  rw [← exp, ← frac, ← hsign, packBits_fields hv]

/-- The bit of the sign. -/
abbrev signMask (f : FpFmt) : Word := 1#64 <<< fpSignBit f

theorem signMask_getLsbD (f : FpFmt) {i : Nat} (hi : i ≤ fpSignBit f) :
    (signMask f).getLsbD i = decide (i = fpSignBit f) := by
  have room : fpSignBit f < 64 := by cases f <;> decide
  rw [BitVec.getLsbD_shiftLeft, decide_eq_true (by omega : i < 64), Bool.true_and, BitVec.getLsbD_one]
  by_cases h : i = fpSignBit f
  · simp [h]
  · simp [h, show i < fpSignBit f by omega]

theorem packBits_flipped (hw : w.toNat < 2 * 2 ^ fpSignBit f) :
    packBits f (!fpSign f w) (fpExp f w) (fpFrac f w) = w ^^^ signMask f := by
  have mask : (signMask f).toNat < 2 * 2 ^ fpSignBit f := by cases f <;> decide
  refine packBits_of_sign ?_ (fun i hi => ?_) ?_
  · rw [fpSign, BitVec.getLsbD_xor, signMask_getLsbD f le_rfl, decide_eq_true rfl, Bool.xor_true]
    rfl
  · rw [BitVec.getLsbD_xor, signMask_getLsbD f hi.le, decide_eq_false hi.ne, Bool.xor_false]
  · rw [← pow_succ'] at *
    exact BitVec.toNat_xor .. ▸ Nat.xor_lt_two_pow hw mask

theorem packBits_cleared (hw : w.toNat < 2 * 2 ^ fpSignBit f) :
    packBits f false (fpExp f w) (fpFrac f w) = w &&& ~~~signMask f := by
  have room : fpSignBit f < 64 := by cases f <;> decide
  refine packBits_of_sign ?_ (fun i hi => ?_) ?_
  · rw [fpSign, BitVec.getLsbD_and, BitVec.getLsbD_not, signMask_getLsbD f le_rfl, decide_eq_true rfl]
    simp
  · rw [BitVec.getLsbD_and, BitVec.getLsbD_not, signMask_getLsbD f hi.le, decide_eq_false hi.ne,
      decide_eq_true (by omega : i < 64)]
    simp
  · rw [BitVec.toNat_and]
    exact Nat.and_le_left.trans_lt hw

end

/-- Settles O60: the words by their fields, and real results by their rounded exponent. -/
theorem deliverOfUnpack : Obligations.DeliverOfUnpack := by
  refine ⟨fun w => ⟨standsFor .s w, standsFor .d w⟩, fun f md w hw kind => ?own, fun f md neg m e sticky hm => ?real,
    fun f md => ⟨rfl, fun n => ⟨rfl, unpack_packInf f n, rfl, unpack_packZero f n, rfl, unpack_packInf f n⟩⟩⟩
  case own =>
    have fits : w.toNat < 2 * 2 ^ fpSignBit f := by
      cases f with
      | s => exact hw rfl
      | d => exact w.isLt
    obtain ⟨sign, delivered⟩ := deliver_exactWith (md := md) kind
    rw [exactOf_eq, exactNeg_eq, exactAbs_eq, sign, delivered, delivered, delivered, packBits_fields fits,
      packBits_flipped fits, packBits_cleared fits]
    exact ⟨rfl, rfl, rfl⟩
  case real =>
    intro r d ex away
    have d_eq : d = deliverReal f md neg m e sticky := rfl
    refine ⟨fun big => ?_, fun tiny => ?_, fun low high => deliverReal_normal hm low high⟩
    · rw [d_eq, deliverReal_overflow big]
      exact ⟨rfl, fun h => (congrArg _ (overflowValue_inf h)).trans (unpack_packInf f neg),
        fun h => (congrArg _ (overflowValue_max h)).trans (unpack_packMax f neg)⟩
    · rw [d_eq, deliverReal_tiny tiny, deliverTiny]
      refine ⟨fun h => ?_, fun hu hfs => ?_⟩
      · have stops : (md.uiEnabled || !md.fs) = true := by simpa using h
        rw [if_pos stops]
      · have flushes : (md.uiEnabled || !md.fs) = false := by simp [hu, hfs]
        rw [flushes]
        exact ⟨rfl, fun h => (congrArg _ (underflowValue_min h)).trans (unpack_packMinNormal f neg),
          fun h => (congrArg _ (underflowValue_zero h)).trans (unpack_packZero f neg)⟩

end Sys2Proof.Proofs

/-! PROOFS. FPU arithmetic: how an operation with a Cause set and a result finishes, its screening, multiply-add and the
approximations. -/

namespace Sys2Proof.Proofs

open Sys2Proof.Machine

set_option Elab.async false

/-! ### FCR31 after an operation that does not trap (48_fpu_arith R512) -/

/-- FCR31 with Cause set c and its letters raised among the Flags. -/
def fcrDelivered (c : BitVec 6) (w : BitVec 32) : BitVec 32 :=
  putField w 12 c ||| ((c.extractLsb' 0 5).setWidth 32 <<< 2)

theorem fcrDelivered_getLsbD (c : BitVec 6) (w : BitVec 32) {i : Nat} (hi : i < 32) :
    (fcrDelivered c w).getLsbD i = if 12 ≤ i ∧ i < 18 then c.getLsbD (i - 12)
      else if 2 ≤ i ∧ i < 7 then w.getLsbD i || c.getLsbD (i - 2) else w.getLsbD i := by
  rw [fcrDelivered, getLsbD_raised _ _ hi, getLsbD_putField _ _ _ hi]
  by_cases hflags : 2 ≤ i ∧ i < 7
  · rw [if_pos hflags, if_neg (by omega), if_neg (by omega), if_pos hflags]
  · rw [if_neg hflags, if_neg hflags]

/-- The bits of FCR31 outside Cause and Flags. -/
theorem fcrOther_bits {i : Nat} (hi : i < 32) (h : (0xFFFC0F83#32).getLsbD i = true) :
    ¬(12 ≤ i ∧ i < 18) ∧ ¬(2 ≤ i ∧ i < 7) := by
  revert h
  interval_cases i <;> decide

section
variable {s t : State} {f : FpFmt} {fd : Reg} {i : Instr} {c : BitVec 6} {v : Word} {r r' : BitVec 6 × Word}

theorem fcrAfter_of (h : t.fcr31 = fcrDelivered c s.fcr31) : FcrAfter s t c where
  cause := by
    apply BitVec.eq_of_getLsbD_eq
    intro i hi
    rw [State.fcrCause, h, BitVec.getLsbD_extractLsb', fcrDelivered_getLsbD _ _ (by omega), if_pos (by omega),
      decide_eq_true hi, Bool.true_and, Nat.add_sub_cancel_left]
  flags := by
    apply BitVec.eq_of_getLsbD_eq
    intro i hi
    rw [State.fcrFlags, State.fcrFlags, h, BitVec.getLsbD_extractLsb', fcrDelivered_getLsbD _ _ (by omega),
      if_neg (by omega), if_pos (by omega), BitVec.getLsbD_or, BitVec.getLsbD_extractLsb', BitVec.getLsbD_extractLsb',
      decide_eq_true hi, Bool.true_and, Bool.true_and, Bool.true_and, Nat.add_sub_cancel_left, Nat.zero_add]
  rest := by
    apply BitVec.eq_of_getLsbD_eq
    intro i hi
    rw [BitVec.getLsbD_and, BitVec.getLsbD_and, h]
    cases hm : (0xFFFC0F83#32).getLsbD i with
    | false => rw [Bool.and_false, Bool.and_false]
    | true =>
      obtain ⟨notCause, notFlags⟩ := fcrOther_bits hi hm
      rw [fcrDelivered_getLsbD _ _ hi, if_neg notCause, if_neg notFlags]

/-! ### Trap or delivery (48_fpu_arith R512) -/

theorem keeps_setFpr (f : FpFmt) (i : Reg) (v : Word) (s : State) :
    Keeps { fgrs := s.fgrsOf f i } s (setFpr f i v s) := by
  cases f with
  | s => exact keeps_setFgrLow i (low v) s
  | d => exact keeps_setFpr64 i v s

/-- An FPR written after FCR31: nothing else has changed. -/
theorem keeps_delivered (f : FpFmt) (fd : Reg) (v : Word) (x : BitVec 32) (s : State) :
    Keeps { fgrs := s.fgrsOf f fd, fcr31 := true } s (setFpr f fd v (withFcr31 x s)) := by
  have control : Keeps { fgrs := s.fgrsOf f fd, fcr31 := true } s (withFcr31 x s) :=
    { keeps_withFcr31 x s with fgrs := fun _ _ => rfl }
  have written := keeps_setFpr f fd v (withFcr31 x s)
  exact keeps_trans control { written with
    fgrs := fun k hk => written.fgrs k hk
    fcr31 := fun hw => nomatch hw }

theorem setFpr_fcr31 (f : FpFmt) (i : Reg) (v : Word) (s : State) : (setFpr f i v s).fcr31 = s.fcr31 := by
  cases f with
  | s => exact setFgrLow_fcr31 ..
  | d => exact setFpr64_fcr31 ..

theorem setFpr_pc (f : FpFmt) (i : Reg) (v : Word) (s : State) : (setFpr f i v s).pc = s.pc := by
  cases f with
  | s => exact setFgrLow_pc ..
  | d => exact setFpr64_pc ..

theorem setFpr_next (f : FpFmt) (i : Reg) (v : Word) (s : State) : (setFpr f i v s).next = s.next := by
  cases f with
  | s => exact setFgrLow_next ..
  | d => exact setFpr64_next ..

/-- What an FPR reads after an advance from its write. -/
theorem advance_setFpr_fpr (v : Word) (h : s.fprOk fd = true) :
    (advance (setFpr f fd v s)).fpr f fd = (match f with | .s => (low v).setWidth 64 | .d => v) := by
  cases f with
  | s => exact congrArg (·.setWidth 64) ((advance_fpr32 ..).trans (setFgrLow_fpr32 ..))
  | d => exact (advance_fpr64 ..).trans (setFpr64_fpr64 fd v s h)

/-- An operation that passes its gate finishes with its Cause set and result. -/
theorem finishesFp_of {gate : Except Stop Unit} (hfd : s.fprOk fd = true) (hg : gate = .ok ())
    (hx : exec i s = fpRun gate s r.1 (setFpr f fd r.2)) : FinishesFp i s f fd r := by
  rw [hg] at hx
  unfold FinishesFp
  split
  next traps => exact hx.trans (if_pos traps)
  next quiet =>
    have completes : exec i s = .next (advance (setFpr f fd r.2 (withFcr31 (fcrDelivered r.1 s.fcr31) s))) :=
      hx.trans (if_neg quiet)
    exact effects_advance completes (keeps_delivered f fd r.2 _ s)
      ⟨advance_setFpr_fpr r.2 hfd, fcrAfter_of ((advance_fcr31 _).trans (setFpr_fcr31 ..))⟩
      (setFpr_pc ..) (setFpr_next ..)

/-- The result of an operation that traps is nowhere seen. -/
theorem finishesFp_of_trap (hc : r.1 = r'.1) (ht : fcrTraps r.1 s = true) (h : FinishesFp i s f fd r) :
    FinishesFp i s f fd r' := by
  unfold FinishesFp at h ⊢
  rw [if_pos ht] at h
  rwa [← hc, if_pos ht]

theorem fcrTraps_causeE (s : State) : fcrTraps causeE s = true := (fcrTraps_iff _ s).2 (.inl rfl)

/-- Unimplemented always traps. -/
theorem trapsFp_of_causeE (h : FinishesFp i s f fd r) (hr : r.1 = causeE) : TrapsFp i s causeE := by
  unfold FinishesFp at h
  rwa [hr, if_pos (fcrTraps_causeE s)] at h

/-! ### Screening (48_fpu_arith R511) -/

/-- A value that screening lets pass: no NaN and not denormalized. -/
def Plain (v : FpVal) : Prop := unimplementedOperand v = false ∧ isSnan v = false

theorem unimplementedOperand_iff (v : FpVal) :
    unimplementedOperand v = true ↔ v = .qnan ∨ ∃ n m e, v = .finite true n m e := by
  cases v <;> simp [unimplementedOperand]

theorem isSnan_iff (v : FpVal) : isSnan v = true ↔ v = .snan := by cases v <;> simp [isSnan]

section
variable {md : FpMode} {ops : List FpVal}

theorem screened_unimplemented (h : ∃ v ∈ ops, unimplementedOperand v = true) :
    screened f md ops r = (causeE, 0#64) := by
  rw [screened, screen, if_pos (List.any_eq_true.2 h)]

theorem screened_snan (h : ¬∃ v ∈ ops, unimplementedOperand v = true) (hs : .snan ∈ ops) :
    screened f md ops r = (causeV, md.qnan f) := by
  have signals : ops.any isSnan = true := List.any_eq_true.2 ⟨_, hs, rfl⟩
  rw [screened, screen, if_neg (mt List.any_eq_true.1 h), if_pos signals]

theorem screened_passes (h : ∀ v ∈ ops, Plain v) : screened f md ops r = r := by
  have implemented : ¬ops.any unimplementedOperand = true := fun ha => by
    obtain ⟨v, hv, hu⟩ := List.any_eq_true.1 ha
    exact absurd ((h v hv).1.symm.trans hu) (by decide)
  have quiet : ¬ops.any isSnan = true := fun ha => by
    obtain ⟨v, hv, hu⟩ := List.any_eq_true.1 ha
    exact absurd ((h v hv).2.symm.trans hu) (by decide)
  rw [screened, screen, if_neg implemented, if_neg quiet]

/-- Screening passes every operand, or its answer does not depend on the operation. -/
theorem screened_cases (f : FpFmt) (md : FpMode) (ops : List FpVal) :
    (∀ v ∈ ops, Plain v) ∨ ∃ x, ∀ r, screened f md ops r = x := by
  by_cases h : ∃ v ∈ ops, unimplementedOperand v = true
  · exact .inr ⟨_, fun _ => screened_unimplemented h⟩
  by_cases hs : FpVal.snan ∈ ops
  · exact .inr ⟨_, fun _ => screened_snan h hs⟩
  · exact .inl fun v hv => ⟨Bool.eq_false_iff.2 fun hu => h ⟨v, hv, hu⟩,
      Bool.eq_false_iff.2 fun hn => hs ((isSnan_iff v).1 hn ▸ hv)⟩

end

/-! ### One and two operands (48_fpu_arith R518) -/

theorem finishesFp_binary {g : Rounding → FpVal → FpVal → Exact} {ft fs : Reg} (hready : FpReady s [fs, fd])
    (hft : s.fprOk ft = true) (hx : exec i s = fpBinary f g ft fs fd s) :
    FinishesFp i s f fd (binaryResult f s.fpMode (g s.rounding) (s.fpVal f fs) (s.fpVal f ft)) := by
  have hfd := fprOk_destination hready
  have ready : FpReady s [fs, ft, fd] := ⟨hready.1, by simp [hft, hfd, hready.2 fs (by simp)]⟩
  exact finishesFp_of hfd (fpGate_ready s _ ready) hx

theorem finishesFp_unary {g : FpVal → Exact} {fs : Reg} (hready : FpReady s [fs, fd])
    (hx : exec i s = fpUnary f g fs fd s) : FinishesFp i s f fd (unaryResult f s.fpMode g (s.fpVal f fs)) :=
  finishesFp_of (fprOk_destination hready) (fpGate_ready s _ hready) hx

/-! ### Multiply-add (48_fpu_arith R529) -/

theorem plain_packInf (f : FpFmt) (neg : Bool) : Plain (unpack f (packInf f neg)) := by
  rw [unpack_packInf]
  exact ⟨rfl, rfl⟩

theorem plain_packZero (f : FpFmt) (neg : Bool) : Plain (unpack f (packZero f neg)) := by
  rw [unpack_packZero]
  exact ⟨rfl, rfl⟩

theorem plain_finite (n : Bool) (m : Nat) (e : Int) : Plain (.finite false n m e) := ⟨rfl, rfl⟩

theorem plain_overflowValue (f : FpFmt) (mode : Rounding) (neg : Bool) :
    Plain (unpack f (overflowValue f mode neg)) := by
  by_cases h : mode = .rn ∨ RoundsAway mode neg
  · rw [overflowValue_inf h]
    exact plain_packInf f neg
  · rw [overflowValue_max h, unpack_packMax]
    exact plain_finite ..

theorem plain_underflowValue (f : FpFmt) (mode : Rounding) (neg : Bool) :
    Plain (unpack f (underflowValue f mode neg)) := by
  by_cases h : RoundsAway mode neg
  · rw [underflowValue_min h, unpack_packMinNormal]
    exact plain_finite ..
  · rw [underflowValue_zero h]
    exact plain_packZero f neg

/-- A delivered result with Cause set c: Invalid, Unimplemented, or neither and a plain value. -/
def Delivered (f : FpFmt) (r : BitVec 6 × Word) : Prop :=
  r.1 = causeV ∨ r.1 = causeE ∨ (r.1.getLsbD 4 = false ∧ Plain (unpack f r.2))

theorem delivered_plain {c : BitVec 6} (hc : c.getLsbD 4 = false) (hv : Plain (unpack f v)) : Delivered f (c, v) :=
  .inr (.inr ⟨hc, hv⟩)

theorem delivered_real (f : FpFmt) (md : FpMode) (neg : Bool) {m : Nat} (hm : 0 < m) (e : Int) (sticky : Bool) :
    Delivered f (deliverReal f md neg m e sticky) := by
  rcases lt_or_ge (fpEmax f : Int) (roundedExp f md neg m e sticky) with big | high
  · rw [deliverReal_overflow big]
    exact delivered_plain (by decide) (plain_overflowValue ..)
  rcases lt_or_ge (roundedExp f md neg m e sticky) (fpEmin f) with tiny | low
  · rw [deliverReal_tiny tiny, deliverTiny]
    split
    · exact .inr (.inl rfl)
    · exact delivered_plain (by decide) (plain_underflowValue ..)
  · obtain ⟨cause, value⟩ := deliverReal_normal hm low high
    refine .inr (.inr ⟨?_, ?_⟩)
    · rw [cause]
      split <;> rfl
    · rw [value]
      exact plain_finite ..

/-- An exact result whose significand, if it has one, is not zero. -/
def ProperExact : Exact → Prop
  | .real _ m _ _ => 0 < m
  | _ => True

theorem delivered_deliver (f : FpFmt) (md : FpMode) {x : Exact} (hx : ProperExact x) :
    Delivered f (deliver f md x) := by
  cases x with
  | invalid => exact .inl rfl
  | divByZero n => exact delivered_plain (c := causeZ) (by decide) (plain_packInf f n)
  | zero n => exact delivered_plain (c := 0#6) (by decide) (plain_packZero f n)
  | inf n => exact delivered_plain (c := 0#6) (by decide) (plain_packInf f n)
  | real n m e sticky => exact delivered_real f md n hx e sticky

/-- The significand of a value that a word stands for is not zero. -/
theorem unpack_finite_pos {w : Word} {d n : Bool} {m : Nat} {e : Int} (h : unpack f w = .finite d n m e) : 0 < m := by
  rcases unpack_cases f w with (hv | hv) | ⟨-, -, hv⟩ | ⟨-, -, hv⟩ | ⟨hf, hv⟩ | ⟨-, -, hv⟩ <;> cases hv.symm.trans h
  · exact hf
  · exact Nat.add_pos_left (Nat.two_pow_pos _) _

theorem proper_exactMul {a b : FpVal} (ha : ∀ {d n m e}, a = .finite d n m e → 0 < m)
    (hb : ∀ {d n m e}, b = .finite d n m e → 0 < m) : ProperExact (exactMul a b) := by
  cases a with
  | finite =>
    cases b with
    | finite => exact Nat.mul_pos (ha rfl) (hb rfl)
    | _ => trivial
  | _ => cases b <;> trivial

theorem binaryResult_plain {md : FpMode} {g : FpVal → FpVal → Exact} {a b : FpVal} (ha : Plain a) (hb : Plain b) :
    binaryResult f md g a b = deliver f md (g a b) := screened_passes (by simp [ha, hb])

/-- The model's multiply-add in the words of the statement: a product of operands that pass is a plain value, which the
sum screens in vain, unless it traps or is Invalid. -/
theorem finishesFp_mulAdd {sub neg : Bool} {fr ft fs : Reg} (hready : FpReady s [fr, fs, ft, fd]) (hcu3 : s.cu 3 = true)
    (hx : exec i s = fpMulAdd f sub neg fr ft fs fd s) :
    let md := s.fpMode
    let p := binaryResult f md exactMul (s.fpVal f fs) (s.fpVal f ft)
    let sum :=
      binaryResult f md (if sub then exactSub s.rounding else exactAdd s.rounding) (unpack f p.2) (s.fpVal f fr)
    FinishesFp i s f fd (screened f md [s.fpVal f fr, s.fpVal f fs, s.fpVal f ft] <|
      if fcrTraps p.1 s then p
      else if p.1 = causeV then (causeV, md.qnan f)
      else (p.1 ||| sum.1, if neg then negateResult f sum.2 else sum.2)) := by
  intro md p sum
  have runs := finishesFp_of (hready.2 fd (by simp)) (fpGate4_ready s _ hready hcu3) hx
  rcases screened_cases f md [s.fpVal f fr, s.fpVal f fs, s.fpVal f ft] with plain | ⟨x, stopped⟩
  case inr =>
    rw [mulAddResult, stopped] at runs
    rwa [stopped]
  case inl =>
    rw [mulAddResult, screened_passes plain] at runs
    rw [screened_passes plain]
    simp only [List.forall_mem_cons, List.not_mem_nil, IsEmpty.forall_iff, implies_true, and_true] at plain
    obtain ⟨plainR, plainS, plainT⟩ := plain
    have product : p = deliver f md (exactMul (s.fpVal f fs) (s.fpVal f ft)) := binaryResult_plain plainS plainT
    rw [← product] at runs
    have traps : (p.1.getLsbD 5 || decide (p.1.extractLsb' 0 5 &&& s.fcrEnables ≠ 0#5)) = fcrTraps p.1 s := rfl
    rw [traps] at runs
    split at runs
    next trapped =>
      rw [if_pos trapped]
      exact finishesFp_of_trap (r := (p.1, 0#64)) rfl trapped runs
    next quiet =>
      rw [if_neg quiet]
      have ends : Delivered f p :=
        product ▸ delivered_deliver f md (proper_exactMul unpack_finite_pos unpack_finite_pos)
      rcases ends with invalid | unimplemented | ⟨valid, plainP⟩
      · rw [invalid] at runs ⊢
        exact runs
      · exact absurd (unimplemented ▸ fcrTraps_causeE s) quiet
      · have notInvalid : p.1 ≠ causeV := fun h => absurd (h ▸ valid) (by decide)
        have same : sum = deliver f md (if sub then exactSub md.rounding (unpack f p.2) (s.fpVal f fr)
            else exactAdd md.rounding (unpack f p.2) (s.fpVal f fr)) := by
          cases sub <;> exact binaryResult_plain plainP plainR
        rw [if_neg (by rw [valid]; decide), ← same] at runs
        rwa [if_neg notInvalid]

/-! ### The approximations (48_fpu_arith R527, R528; log 28) -/

/-- A number made of free bits is a normalized one. -/
theorem isNormal_normalFrom (f : FpFmt) (w : Word) : isNormal (unpack f (normalFrom f w)) = true := by
  have below : w.toNat / 2 ^ (fpPrec f - 1) % (2 * fpEmax f) < 2 * fpEmax f := Nat.mod_lt _ (by cases f <;> decide)
  rw [normalFrom, unpack_packBits (Nat.succ_pos _) (Nat.succ_lt_succ below) (Nat.mod_lt _ (Nat.two_pow_pos _))]
  rfl

/-- What an approximation has to do with a normal operand: some normal number where the exact result is deliverable as
one, and what the exact result delivers elsewhere. -/
def Approximates (i : Instr) (s : State) (f : FpFmt) (fd : Reg) (r : BitVec 6 × Word) : Prop :=
  (r.1 = 0#6 ∨ r.1 = causeI →
      ∃ c v, (c = 0#6 ∨ c = causeI) ∧ isNormal (unpack f v) = true ∧ FinishesFp i s f fd (c, v))
    ∧ (r.1 ≠ 0#6 → r.1 ≠ causeI → FinishesFp i s f fd r)

section
variable {a : FpVal} {bits : Word} {inexact : Bool}

theorem approximate_special (h : isNormal a = false) : approximate f a bits inexact r = r := by
  rw [approximate, h, Bool.false_and]
  rfl

theorem approximate_open (h : isNormal a = true) (hr : r.1 = 0#6 ∨ r.1 = causeI) :
    approximate f a bits inexact r = (if inexact then causeI else 0#6, normalFrom f bits) := by
  have deliverable : (r.1 == 0#6 || r.1 == causeI) = true := by simpa using hr
  rw [approximate, h, deliverable]
  rfl

theorem approximate_outside (h0 : r.1 ≠ 0#6) (hI : r.1 ≠ causeI) : approximate f a bits inexact r = r := by
  have outside : (r.1 == 0#6 || r.1 == causeI) = false := by simp [h0, hI]
  rw [approximate, outside, Bool.and_false]
  rfl

theorem approximates_of (h : isNormal a = true) (hx : FinishesFp i s f fd (approximate f a bits inexact r)) :
    Approximates i s f fd r := by
  refine ⟨fun hr => ?_, fun h0 hI => ?_⟩
  · rw [approximate_open h hr] at hx
    refine ⟨_, _, ?_, isNormal_normalFrom f bits, hx⟩
    split
    · exact .inr rfl
    · exact .inl rfl
  · rwa [approximate_outside h0 hI] at hx

end

/-- RECIP and RSQRT by the class of the operand: E for what is not implemented, V for a signaling NaN, what the exact
result delivers for a zero or an infinity and, outside 0 and I, for a normal number. -/
structure ApproximatesAll (i : Instr) (s : State) (f : FpFmt) (fd : Reg) (a : FpVal) (exact : FpVal → Exact) :
    Prop where
  unimplemented : unimplementedOperand a = true → TrapsFp i s causeE
  signaling : a = .snan → FinishesFp i s f fd (causeV, s.fpMode.qnan f)
  special : Plain a → isNormal a = false → FinishesFp i s f fd (deliver f s.fpMode (exact a))
  normal : isNormal a = true → Approximates i s f fd (deliver f s.fpMode (exact a))

theorem plain_of_isNormal {a : FpVal} (h : isNormal a = true) : Plain a := by
  cases a with
  | finite d n m e => exact ⟨by simpa [isNormal, unimplementedOperand] using h, rfl⟩
  | _ => cases h

theorem approximatesAll_of {a : FpVal} {exact : FpVal → Exact} {bits : Word} {inexact : Bool}
    (h : FinishesFp i s f fd
      (screened f s.fpMode [a] (approximate f a bits inexact (deliver f s.fpMode (exact a))))) :
    ApproximatesAll i s f fd a exact where
  unimplemented ha := trapsFp_of_causeE h (by rw [screened_unimplemented ⟨a, List.mem_singleton_self a, ha⟩])
  signaling ha := by
    subst ha
    rwa [screened_snan (by simp [unimplementedOperand]) (List.mem_singleton_self _)] at h
  special plain ha := by
    rwa [screened_passes (by simpa using plain), approximate_special ha] at h
  normal ha := by
    rw [screened_passes (by simpa using plain_of_isNormal ha)] at h
    exact approximates_of ha h

end

/-- Settles O53: every operation is one run of its screened exact result, by its equation of exec. -/
theorem fpArithmetic : Obligations.FpArithmetic := by
  refine ⟨fun s ft fs fd f hready => ?runs, fun _ _ _ _ _ _ => ⟨rfl, rfl⟩, fun f md ops r => ?screening⟩
  case runs =>
    intro a b two one
    refine ⟨fun hft => ⟨?_, ?_, ?_, ?_⟩, ?_, ?_, ?_⟩
    · exact finishesFp_binary hready hft (by cases f <;> rfl)
    · exact finishesFp_binary hready hft (by cases f <;> rfl)
    · exact finishesFp_binary (g := fun _ => exactMul) hready hft (by cases f <;> rfl)
    · exact finishesFp_binary (g := fun _ => exactDiv) hready hft (by cases f <;> rfl)
    · exact finishesFp_unary hready (by cases f <;> rfl)
    · exact finishesFp_unary hready (by cases f <;> rfl)
    · exact finishesFp_unary hready (by cases f <;> rfl)
  case screening =>
    intro unimplemented
    have operand : unimplemented ↔ ∃ v ∈ ops, unimplementedOperand v = true := by
      simp [unimplemented, unimplementedOperand_iff]
    refine ⟨fun h => ?_, fun h hs => screened_snan (mt operand.2 h) hs,
      fun h hs => screened_passes fun v hv => ⟨?_, ?_⟩⟩
    · rw [screened_unimplemented (operand.1 h)]
    · exact Bool.eq_false_iff.2 fun hu => h (operand.2 ⟨v, hv, hu⟩)
    · exact Bool.eq_false_iff.2 fun hn => hs ((isSnan_iff v).1 hn ▸ hv)

/-- Settles O54: each of the four is the one multiply-add, by its equation of exec. -/
theorem multiplyAdd : Obligations.MultiplyAdd := by
  intro s fr ft fs fd f hready hcu3 md p sum inverted r
  exact ⟨finishesFp_mulAdd hready hcu3 (sub := false) (neg := false) (by cases f <;> rfl),
    finishesFp_mulAdd hready hcu3 (sub := true) (neg := false) (by cases f <;> rfl),
    finishesFp_mulAdd hready hcu3 (sub := false) (neg := true) (by cases f <;> rfl),
    finishesFp_mulAdd hready hcu3 (sub := true) (neg := true) (by cases f <;> rfl)⟩

/-- Settles O55: by the class of the operand; the exact result of a special one is an equation of the operation. -/
theorem approximations : Obligations.Approximations := by
  intro s fs fd f hready hcu3 recip rsqrt md a somehow
  have gate := fpGate4_ready s _ hready hcu3
  have hfd := fprOk_destination hready
  have recips : FinishesFp recip s f fd (recipResult f md (s.fpr f fs)) :=
    finishesFp_of hfd gate (by cases f <;> rfl)
  have rsqrts : FinishesFp rsqrt s f fd (rsqrtResult f md (s.fpr f fs)) :=
    finishesFp_of hfd gate (by cases f <;> rfl)
  have recipAll : ApproximatesAll recip s f fd a exactRecip := approximatesAll_of recips
  have rsqrtAll : ApproximatesAll rsqrt s f fd a exactRsqrt := approximatesAll_of rsqrts
  refine ⟨recips, rsqrts, fun n ha => ?zero, fun n ha => ?inf, fun m e ha => ?negative,
    fun ha => ⟨recipAll.signaling ha, rsqrtAll.signaling ha⟩, fun ha => ?unimplemented,
    fun ha => ⟨recipAll.normal ha, rsqrtAll.normal ha⟩⟩
  case zero =>
    rw [ha] at recipAll rsqrtAll
    have exact : exactRecip (.zero n) = .divByZero n := congrArg _ (Bool.false_bne n)
    have first := recipAll.special ⟨rfl, rfl⟩ rfl
    rw [exact] at first
    exact ⟨first, rsqrtAll.special ⟨rfl, rfl⟩ rfl⟩
  case inf =>
    rw [ha] at recipAll rsqrtAll
    have exact : exactRecip (.inf n) = .zero n := congrArg _ (Bool.false_bne n)
    have first := recipAll.special ⟨rfl, rfl⟩ rfl
    have second := rsqrtAll.special ⟨rfl, rfl⟩ rfl
    rw [exact] at first
    refine ⟨first, ?_⟩
    cases n with
    | true => exact second
    | false => exact second
  case negative =>
    rw [ha] at rsqrtAll
    exact (rsqrtAll.normal rfl).2 (show causeV ≠ 0#6 by decide) (show causeV ≠ causeI by decide)
  case unimplemented =>
    have operand : unimplementedOperand a = true := (unimplementedOperand_iff a).2 ha
    exact ⟨recipAll.unimplemented operand, rsqrtAll.unimplemented operand⟩

end Sys2Proof.Proofs

/-! PROOFS. The exact operations on the numbers that values stand for: sum, product, quotient, order and roots, and
their special values. -/

namespace Sys2Proof.Proofs

open Sys2Proof.Machine

set_option Elab.async false

section
variable {a b : FpVal} {mode : Rounding} {neg n k d : Bool} {m : Nat} {e : Int}

/-! ### Numbers in scale (48_fpu_arith R510) -/

theorem scaled_neg_iff (hm : 0 < m) (e : Int) : scaled neg m e < 0 ↔ neg = true := by
  have size : (0 : Rat) < m * 2 ^ e := by positivity
  rw [scaled_eq, mul_assoc]
  cases neg with
  | true => simp [sgn, size]
  | false => simp [sgn, size.le]

theorem scaled_pos_iff (hm : 0 < m) (e : Int) : 0 < scaled neg m e ↔ neg = false := by
  have size : (0 : Rat) < m * 2 ^ e := by positivity
  rw [scaled_eq, mul_assoc]
  cases neg with
  | true => simp [sgn, size.le]
  | false => simp [sgn, size]

theorem scaled_ne_zero (neg : Bool) (hm : 0 < m) (e : Int) : scaled neg m e ≠ 0 := by
  cases neg with
  | true => exact ((scaled_neg_iff hm e).2 rfl).ne
  | false => exact ((scaled_pos_iff hm e).2 rfl).ne'

theorem scaled_not (neg : Bool) (m : Nat) (e : Int) : scaled (!neg) m e = -scaled neg m e := by
  cases neg <;> simp [scaled]

theorem sgn_bne (n k : Bool) : sgn (n != k) = sgn n * sgn k := by cases n <;> cases k <;> norm_num [sgn]

theorem sgn_div_sgn (n k : Bool) : sgn n / sgn k = sgn (n != k) := by
  cases n <;> cases k <;> norm_num [sgn]

/-- The integer that a value is at a smaller exponent. -/
theorem signedInt_aligned (neg : Bool) (m : Nat) {e low : Int} (h : low ≤ e) :
    ((signedInt neg (m * 2 ^ (e - low).toNat) : Int) : Rat) * 2 ^ low = scaled neg m e := by
  have power : (2 : Rat) ^ (e - low).toNat * 2 ^ low = 2 ^ e := by
    rw [← zpow_natCast, Int.toNat_of_nonneg (by omega), ← zpow_add₀ two_ne_zero, sub_add_cancel]
  rw [signedInt_cast, scaled_eq, ← power]
  push_cast
  ring

/-- A number is a zero or a finite value that is not 0. -/
theorem isNumber_cases (h : a.isNumber) : (∃ n, a = .zero n) ∨ ∃ d n m e, a = .finite d n m e ∧ 0 < m := by
  cases a with
  | zero n => exact .inl ⟨n, rfl⟩
  | finite d n m e => exact .inr ⟨d, n, m, e, rfl, h⟩
  | _ => exact h.elim

theorem number_eq_zero_iff (h : a.isNumber) : a.number = 0 ↔ ∃ n, a = .zero n := by
  rcases isNumber_cases h with ⟨n, rfl⟩ | ⟨d, n, m, e, rfl, hm⟩
  · exact ⟨fun _ => ⟨n, rfl⟩, fun _ => rfl⟩
  · exact ⟨fun h0 => absurd h0 (scaled_ne_zero n hm e), fun ⟨_, h0⟩ => nomatch h0⟩

/-- A value that stands for something else than 0 is finite. -/
theorem finite_of_number_ne_zero (h : a.isNumber) (h0 : a.number ≠ 0) : ∃ d n m e, a = .finite d n m e ∧ 0 < m :=
  (isNumber_cases h).resolve_left (mt (number_eq_zero_iff h).2 h0)

theorem negVal_number (b : FpVal) : (negVal b).number = -b.number := by
  cases b with
  | finite d n m e => exact scaled_not n m e
  | _ => exact neg_zero.symm

theorem negVal_isNumber (h : b.isNumber) : (negVal b).isNumber := by
  cases b with
  | zero n => trivial
  | finite d n m e => exact h
  | _ => exact h.elim

theorem negVal_eq_zero_iff : negVal b = .zero n ↔ b = .zero (!n) := by
  cases b <;> simp [negVal, Bool.not_eq_eq_eq_not]

/-! ### Sum and difference (48_fpu_arith R520, R521) -/

theorem denotes_real (neg : Bool) (hm : 0 < m) (e : Int) : (Exact.real neg m e false).Denotes (scaled neg m e) :=
  ⟨hm, rfl⟩

theorem exactOfInt_denotes (mode : Rounding) (z e : Int) : (exactOfInt mode z e).Denotes (z * 2 ^ e) := by
  unfold exactOfInt
  split
  next h0 => simp [Exact.Denotes, h0]
  next h0 =>
    have sign : sgn (decide (z < 0)) * (z.natAbs : Rat) = z := by
      rcases lt_or_ge z 0 with hz | hz
      · rw [decide_eq_true hz, Nat.cast_natAbs, abs_of_neg hz]
        simp [sgn]
      · rw [decide_eq_false hz.not_gt, Nat.cast_natAbs, abs_of_nonneg hz]
        simp [sgn]
    rw [← sign]
    exact denotes_real _ (Int.natAbs_pos.2 h0) e

theorem exactOfInt_of_zero (mode : Rounding) {z e : Int} (h : (z : Rat) * 2 ^ e = 0) :
    exactOfInt mode z e = .zero (mode == .rm) := by
  have power : (2 : Rat) ^ e ≠ 0 := by positivity
  have zero : z = 0 := Int.cast_eq_zero.1 ((mul_eq_zero.1 h).resolve_right power)
  rw [exactOfInt, if_pos zero]

/-- The integer sum at the smaller exponent is the sum. -/
theorem aligned_sum (na nb : Bool) (ma mb : Nat) (ea eb : Int) :
    ((signedInt na (ma * 2 ^ (ea - min ea eb).toNat) + signedInt nb (mb * 2 ^ (eb - min ea eb).toNat) : Int) : Rat)
      * 2 ^ min ea eb = scaled na ma ea + scaled nb mb eb := by
  rw [Int.cast_add, add_mul, signedInt_aligned na ma (min_le_left ea eb), signedInt_aligned nb mb (min_le_right ea eb)]

theorem exactAdd_denotes (mode : Rounding) (ha : a.isNumber) (hb : b.isNumber) :
    (exactAdd mode a b).Denotes (a.number + b.number) := by
  rcases isNumber_cases ha with ⟨n, rfl⟩ | ⟨d, n, m, e, rfl, hm⟩ <;>
    rcases isNumber_cases hb with ⟨n', rfl⟩ | ⟨d', n', m', e', rfl, hm'⟩
  · exact add_zero 0
  · exact (zero_add (scaled n' m' e')).symm ▸ denotes_real n' hm' e'
  · exact (add_zero (scaled n m e)).symm ▸ denotes_real n hm e
  · exact aligned_sum n n' m m' e e' ▸ exactOfInt_denotes mode _ _

/-- The sign of an exact zero sum. -/
theorem exactAdd_of_zero (mode : Rounding) (ha : a.isNumber) (hb : b.isNumber) (h : a.number + b.number = 0) :
    exactAdd mode a b = .zero (if a = .zero true ∧ b = .zero true then true
      else if a = .zero false ∧ b = .zero false then false else mode == .rm) := by
  rcases isNumber_cases ha with ⟨n, rfl⟩ | ⟨d, n, m, e, rfl, hm⟩ <;>
    rcases isNumber_cases hb with ⟨n', rfl⟩ | ⟨d', n', m', e', rfl, hm'⟩
  · cases n <;> cases n' <;> rfl
  · exact absurd ((zero_add (scaled n' m' e')).symm.trans h) (scaled_ne_zero n' hm' e')
  · exact absurd ((add_zero (scaled n m e)).symm.trans h) (scaled_ne_zero n hm e)
  · exact exactOfInt_of_zero mode ((aligned_sum n n' m m' e e').trans h)

theorem exactSub_denotes (mode : Rounding) (ha : a.isNumber) (hb : b.isNumber) :
    (exactSub mode a b).Denotes (a.number - b.number) := by
  rw [sub_eq_add_neg, ← negVal_number]
  exact exactAdd_denotes mode ha (negVal_isNumber hb)

theorem exactSub_of_zero (mode : Rounding) (ha : a.isNumber) (hb : b.isNumber) (h : a.number - b.number = 0) :
    exactSub mode a b = .zero (if a = .zero true ∧ b = .zero false then true
      else if a = .zero false ∧ b = .zero true then false else mode == .rm) := by
  rw [sub_eq_add_neg, ← negVal_number] at h
  rw [exactSub, exactAdd_of_zero mode ha (negVal_isNumber hb) h]
  simp only [negVal_eq_zero_iff, Bool.not_true, Bool.not_false]

/-! ### Product (48_fpu_arith R522) -/

theorem exactMul_denotes (ha : a.isNumber) (hb : b.isNumber) : (exactMul a b).Denotes (a.number * b.number) := by
  rcases isNumber_cases ha with ⟨n, rfl⟩ | ⟨d, n, m, e, rfl, hm⟩ <;>
    rcases isNumber_cases hb with ⟨n', rfl⟩ | ⟨d', n', m', e', rfl, hm'⟩
  · exact zero_mul _
  · exact zero_mul _
  · exact mul_zero _
  · have product : scaled n m e * scaled n' m' e' = scaled (n != n') (m * m') (e + e') := by
      rw [scaled_eq, scaled_eq, scaled_eq, sgn_bne, zpow_add₀ two_ne_zero]
      push_cast
      ring
    exact product ▸ denotes_real (n != n') (Nat.mul_pos hm hm') (e + e')

theorem exactMul_of_zero (ha : a.isNumber) (hb : b.isNumber) (h : a.number * b.number = 0) :
    exactMul a b = .zero (a.negative != b.negative) := by
  rcases isNumber_cases ha with ⟨n, rfl⟩ | ⟨d, n, m, e, rfl, hm⟩ <;>
    rcases isNumber_cases hb with ⟨n', rfl⟩ | ⟨d', n', m', e', rfl, hm'⟩
  · rfl
  · rfl
  · rfl
  · exact absurd h (mul_ne_zero (scaled_ne_zero n hm e) (scaled_ne_zero n' hm' e'))

/-! ### Quotient (48_fpu_arith R523) -/

/-- A quotient of naturals and whether something is left of it stand for the quotient of rationals. -/
theorem quotient_denotes (neg : Bool) {x y : Nat} (hy : 0 < y) (hxy : y ≤ x) (e : Int) :
    (Exact.real neg (x / y) e (decide (x % y ≠ 0))).Denotes (sgn neg * ((x : Rat) / y) * 2 ^ e) := by
  have y0 : (0 : Rat) < y := Nat.cast_pos.2 hy
  have power : (0 : Rat) < 2 ^ e := by positivity
  have whole : (x : Rat) / y = (x / y : Nat) + (x % y : Nat) / y := div_add_part x hy
  have positive : 0 < x / y := Nat.div_pos hxy hy
  by_cases left : x % y = 0
  · rw [left, Nat.cast_zero, zero_div, add_zero] at whole
    rw [decide_eq_false (not_not.2 left), whole]
    exact denotes_real neg positive e
  · have below : (0 : Rat) < (x % y : Nat) / y := div_pos (Nat.cast_pos.2 (Nat.pos_of_ne_zero left)) y0
    have above : ((x % y : Nat) : Rat) / y < 1 := (div_lt_one y0).2 (Nat.cast_lt.2 (Nat.mod_lt x hy))
    have quotient : (0 : Rat) < x / y := whole ▸ add_pos_of_nonneg_of_pos (Nat.cast_nonneg _) below
    have size : |sgn neg * ((x : Rat) / y) * 2 ^ e| = (x : Rat) / y * 2 ^ e := by
      rw [abs_mul, abs_mul, abs_sgn, one_mul, abs_of_pos quotient, abs_of_pos power]
    rw [decide_eq_true left]
    refine ⟨positive, ?_⟩
    rw [if_pos rfl, size, scaled_eq, scaled_eq, sgn, if_neg Bool.false_ne_true, one_mul, one_mul]
    refine ⟨mul_lt_mul_of_pos_right (by linarith) power, mul_lt_mul_of_pos_right (by push_cast; linarith) power, ?_⟩
    rw [mul_assoc]
    have positive := mul_pos quotient power
    cases neg with
    | true => simpa [sgn] using positive
    | false => simpa [sgn] using positive.le

theorem exactDiv_finite (d d' n n' : Bool) (m m' : Nat) (e e' : Int) :
    exactDiv (.finite d n m e) (.finite d' n' m' e') = .real (n != n') (m * 2 ^ 120 / m') (e - e' - 120)
      (decide (m * 2 ^ 120 % m' ≠ 0)) := rfl

theorem exactDiv_denotes (ha : a.isNumber) (hb : b.isNumber) (h0 : b.number ≠ 0)
    (hbound : ∀ d n m e, b = .finite d n m e → m < 2 ^ 120) : (exactDiv a b).Denotes (a.number / b.number) := by
  obtain ⟨d', n', m', e', rfl, hm'⟩ := finite_of_number_ne_zero hb h0
  rcases isNumber_cases ha with ⟨n, rfl⟩ | ⟨d, n, m, e, rfl, hm⟩
  · exact zero_div _
  · have scale : m' ≤ m * 2 ^ 120 := (hbound _ _ _ _ rfl).le.trans (Nat.le_mul_of_pos_left _ hm)
    have quotient : scaled n m e / scaled n' m' e'
        = sgn (n != n') * (((m * 2 ^ 120 : Nat) : Rat) / m') * 2 ^ (e - e' - 120) := by
      rw [scaled_eq, scaled_eq, ← sgn_div_sgn, zpow_sub₀ two_ne_zero, zpow_sub₀ two_ne_zero]
      push_cast
      have s0 : sgn n' ≠ 0 := by cases n' <;> norm_num [sgn]
      have m0 : (m' : Rat) ≠ 0 := Nat.cast_ne_zero.2 hm'.ne'
      field_simp
    rw [exactDiv_finite]
    exact quotient ▸ quotient_denotes (n != n') hm' scale (e - e' - 120)

/-- A quotient that is not exact has more bits than either format. -/
theorem exactDiv_long (ha : a.isNumber) (hb : 0 < m) {n' : Bool} {m' : Nat} {e' : Int} (hm : m < 2 ^ 53)
    (h : exactDiv a (.finite d n m e) = .real n' m' e' true) : 2 ^ 53 < m' := by
  rcases isNumber_cases ha with ⟨k, rfl⟩ | ⟨d', k, x, e'', rfl, hx⟩
  · nomatch h
  · rw [exactDiv_finite] at h
    injection h with _ quotient
    rw [← quotient, Nat.lt_iff_add_one_le, Nat.le_div_iff_mul_le hb]
    calc (2 ^ 53 + 1) * m ≤ (2 ^ 53 + 1) * 2 ^ 53 := Nat.mul_le_mul_left _ hm.le
      _ ≤ 1 * 2 ^ 120 := by norm_num
      _ ≤ x * 2 ^ 120 := Nat.mul_le_mul_right _ hx

theorem exactDiv_zero_of (ha : a.isNumber) (hb : b.isNumber) :
    (a.number = 0 → b.number ≠ 0 → exactDiv a b = .zero (a.negative != b.negative))
    ∧ (a.number ≠ 0 → b.number = 0 → exactDiv a b = .divByZero (a.negative != b.negative))
    ∧ (a.number = 0 → b.number = 0 → exactDiv a b = .invalid) := by
  refine ⟨fun ha0 hb0 => ?_, fun ha0 hb0 => ?_, fun ha0 hb0 => ?_⟩
  · obtain ⟨n, rfl⟩ := (number_eq_zero_iff ha).1 ha0
    obtain ⟨d', n', m', e', rfl, -⟩ := finite_of_number_ne_zero hb hb0
    rfl
  · obtain ⟨d, n, m, e, rfl, -⟩ := finite_of_number_ne_zero ha ha0
    obtain ⟨n', rfl⟩ := (number_eq_zero_iff hb).1 hb0
    rfl
  · obtain ⟨n, rfl⟩ := (number_eq_zero_iff ha).1 ha0
    obtain ⟨n', rfl⟩ := (number_eq_zero_iff hb).1 hb0
    rfl

/-! ### Order (48_fpu_arith R540) -/

theorem fpOrder_numbers (ha : a.isNumber) (hb : b.isNumber) :
    fpOrder a b = (decide (a.number < b.number), decide (a.number = b.number)) := by
  rcases isNumber_cases ha with ⟨n, rfl⟩ | ⟨d, n, m, e, rfl, hm⟩ <;>
    rcases isNumber_cases hb with ⟨n', rfl⟩ | ⟨d', n', m', e', rfl, hm'⟩
  · exact Prod.ext (decide_eq_false (lt_irrefl (0 : Rat))).symm (decide_eq_true (Eq.refl (0 : Rat))).symm
  · refine Prod.ext ?_ (decide_eq_false (scaled_ne_zero n' hm' e').symm).symm
    show (!n') = decide (0 < scaled n' m' e')
    rw [decide_eq_decide.2 (scaled_pos_iff hm' e')]
    cases n' <;> rfl
  · refine Prod.ext ?_ (decide_eq_false (scaled_ne_zero n hm e)).symm
    show n = decide (scaled n m e < 0)
    rw [decide_eq_decide.2 (scaled_neg_iff hm e)]
    cases n <;> rfl
  · have power : (0 : Rat) < 2 ^ min e e' := by positivity
    have left := signedInt_aligned n m (min_le_left e e')
    have right := signedInt_aligned n' m' (min_le_right e e')
    show (decide (_ < _), decide (_ = _))
      = (decide (scaled n m e < scaled n' m' e'), decide (scaled n m e = scaled n' m' e'))
    rw [← left, ← right, Prod.mk.injEq, decide_eq_decide, decide_eq_decide, mul_lt_mul_iff_left₀ power,
      mul_left_inj' power.ne', Int.cast_lt, Int.cast_inj]
    exact ⟨Iff.rfl, Iff.rfl⟩

/-! ### Infinities (48_fpu_arith R515, R520 to R523, R540) -/

theorem exactMul_inf (n : Bool) (ha : a.isNumber) :
    exactMul (.inf n) a = (if a.number = 0 then .invalid else .inf (n != a.negative))
      ∧ exactMul a (.inf n) = (if a.number = 0 then .invalid else .inf (n != a.negative)) := by
  rcases isNumber_cases ha with ⟨k, rfl⟩ | ⟨d, k, m, e, rfl, hm⟩
  · exact ⟨rfl, rfl⟩
  · have nonzero : (FpVal.finite d k m e).number ≠ 0 := scaled_ne_zero k hm e
    rw [if_neg nonzero]
    exact ⟨rfl, congrArg Exact.inf (bne_comm)⟩

/-! ### Roots (48_fpu_arith R524, R528) -/

theorem sqrtBits_correct {x : Nat} (k r : Nat) (hlow : r * r ≤ x) (hhigh : x < (r + 2 ^ k) * (r + 2 ^ k)) :
    sqrtBits x k r * sqrtBits x k r ≤ x ∧ x < (sqrtBits x k r + 1) * (sqrtBits x k r + 1) := by
  induction k generalizing r with
  | zero => exact ⟨hlow, hhigh⟩
  | succ k ih =>
    rw [sqrtBits]
    split
    next fits =>
      refine ih _ fits ?_
      rwa [Nat.add_assoc, ← Nat.two_mul, ← pow_succ']
    next above => exact ih r hlow (not_le.1 above)

theorem natSqrt_correct {x : Nat} (h : x < 2 ^ 200) :
    natSqrt x * natSqrt x ≤ x ∧ x < (natSqrt x + 1) * (natSqrt x + 1) :=
  sqrtBits_correct 100 0 (Nat.zero_le x) (h.trans_eq (by norm_num))

theorem lt_natSqrt {x y : Nat} (h : x < 2 ^ 200) (hy : (y + 1) * (y + 1) ≤ x) : y < natSqrt x := by
  by_contra small
  have root : natSqrt x + 1 ≤ y + 1 := by omega
  exact absurd ((natSqrt_correct h).2.trans_le (Nat.mul_self_le_mul_self root)) hy.not_gt

theorem scaled_sq (q : Nat) (k : Int) : scaled false q k ^ 2 = ((q * q : Nat) : Rat) * 2 ^ (2 * k) := by
  rw [scaled_eq, sgn, if_neg Bool.false_ne_true, two_mul, zpow_add₀ two_ne_zero]
  push_cast
  ring

theorem scaled_false (m : Nat) (e : Int) : scaled false m e = (m : Rat) * 2 ^ e := by
  rw [scaled_eq, sgn, if_neg Bool.false_ne_true, one_mul]

/-- The root is taken of the significand scaled by an even power of two. -/
theorem exactSqrt_positive (d : Bool) (m : Nat) (e : Int) : ∃ (j : Nat) (k : Int), 120 ≤ j ∧ j ≤ 121 ∧ 2 * k + j = e
    ∧ exactSqrt (.finite d false m e) = .real false (natSqrt (m * 2 ^ j)) k
      (decide (natSqrt (m * 2 ^ j) * natSqrt (m * 2 ^ j) ≠ m * 2 ^ j)) := by
  by_cases odd : e % 2 = 1
  · refine ⟨121, (e - 121) / 2, by omega, by omega, by omega, ?_⟩
    simp only [exactSqrt, odd, if_true, if_false, Bool.false_eq_true]
  · refine ⟨120, (e - 120) / 2, by omega, by omega, by omega, ?_⟩
    simp only [exactSqrt, odd, if_false, Bool.false_eq_true]

/-- The root of a positive number: exact, or between two neighbours by their squares. -/
theorem exactSqrt_correct (d : Bool) (e : Int) (hm : 0 < m) (hbound : m < 2 ^ 79) :
    ∃ q k sticky, exactSqrt (.finite d false m e) = .real false q k sticky ∧ 2 ^ 53 < q
      ∧ (sticky = false → scaled false q k ^ 2 = scaled false m e)
      ∧ (sticky = true → scaled false q k ^ 2 < scaled false m e
        ∧ scaled false m e < scaled false (q + 1) k ^ 2) := by
  obtain ⟨j, k, low, high, exponent, result⟩ := exactSqrt_positive d m e
  have power : (0 : Rat) < 2 ^ (2 * k) := by positivity
  have value : scaled false m e = ((m * 2 ^ j : Nat) : Rat) * 2 ^ (2 * k) := by
    rw [scaled_false, ← exponent, zpow_add₀ two_ne_zero, zpow_natCast]
    push_cast
    ring
  have least : 2 ^ 120 ≤ m * 2 ^ j :=
    calc 2 ^ 120 ≤ 2 ^ j := Nat.pow_le_pow_right two_pos low
      _ ≤ m * 2 ^ j := Nat.le_mul_of_pos_left _ hm
  have most : m * 2 ^ j < 2 ^ 200 :=
    calc m * 2 ^ j < 2 ^ 79 * 2 ^ j := Nat.mul_lt_mul_of_pos_right hbound (Nat.two_pow_pos j)
      _ ≤ 2 ^ 79 * 2 ^ 121 := Nat.mul_le_mul_left _ (Nat.pow_le_pow_right two_pos high)
      _ = 2 ^ 200 := by norm_num
  obtain ⟨below, above⟩ := natSqrt_correct most
  refine ⟨_, _, _, result, lt_natSqrt most (least.trans' (by norm_num)), fun exact => ?_, fun rounded => ?_⟩
  · rw [scaled_sq, value, not_not.1 (of_decide_eq_false exact)]
  · rw [scaled_sq, scaled_sq, value, mul_lt_mul_iff_left₀ power, mul_lt_mul_iff_left₀ power, Nat.cast_lt, Nat.cast_lt]
    exact ⟨below.lt_of_ne (of_decide_eq_true rounded), above⟩

/-- The significand that the reciprocal root is taken of, at an even exponent. -/
theorem exactRsqrt_positive (d : Bool) (m : Nat) (e : Int) : ∃ (y : Nat) (j : Int), m ≤ y ∧ y ≤ 2 * m
    ∧ scaled false m e = (y : Rat) * 2 ^ (2 * j)
    ∧ exactRsqrt (.finite d false m e) = .real false (natSqrt (2 ^ 180 / y)) (-90 - j)
      (decide (natSqrt (2 ^ 180 / y) * natSqrt (2 ^ 180 / y) * y ≠ 2 ^ 180)) := by
  by_cases odd : e % 2 = 1
  · refine ⟨2 * m, (e - 1) / 2, by omega, le_rfl, ?_, ?_⟩
    · rw [scaled_false, show 2 * ((e - 1) / 2) = e - 1 by omega, zpow_sub₀ two_ne_zero]
      push_cast
      ring
    · simp only [exactRsqrt, odd, if_true, if_false, Bool.false_eq_true]
  · refine ⟨m, e / 2, le_rfl, by omega, ?_, ?_⟩
    · rw [scaled_false, show 2 * (e / 2) = e by omega]
    · simp only [exactRsqrt, odd, if_false, Bool.false_eq_true]

/-- The root q of the integer quotient x / y: q squared times y, and the next square times y, enclose x. -/
theorem natSqrt_div_correct {x y : Nat} (hy : 0 < y) (h : x < 2 ^ 200) :
    natSqrt (x / y) * natSqrt (x / y) * y ≤ x ∧ x < (natSqrt (x / y) + 1) * (natSqrt (x / y) + 1) * y := by
  obtain ⟨below, above⟩ := natSqrt_correct ((Nat.div_le_self x y).trans_lt h)
  exact ⟨(Nat.le_div_iff_mul_le hy).1 below, (Nat.div_lt_iff_lt_mul hy).1 above⟩

/-- The reciprocal root of a positive number: its square times the number is 1, or 1 lies between those of two
neighbours. -/
theorem exactRsqrt_correct (d : Bool) (e : Int) (hm : 0 < m) :
    ∃ q k sticky, exactRsqrt (.finite d false m e) = .real false q k sticky ∧ (m < 2 ^ 53 → 2 ^ 53 < q)
      ∧ (sticky = false → scaled false q k ^ 2 * scaled false m e = 1)
      ∧ (sticky = true → scaled false q k ^ 2 * scaled false m e < 1
        ∧ 1 < scaled false (q + 1) k ^ 2 * scaled false m e) := by
  obtain ⟨y, j, low, high, value, result⟩ := exactRsqrt_positive d m e
  have hy : 0 < y := hm.trans_le low
  obtain ⟨below, above⟩ := natSqrt_div_correct (x := 2 ^ 180) hy (by norm_num)
  have square (q : Nat) :
      scaled false q (-90 - j) ^ 2 * scaled false m e = ((q * q * y : Nat) : Rat) / (2 ^ 180 : Nat) := by
    have powers : (2 : Rat) ^ (2 * (-90 - j)) * 2 ^ (2 * j) = 1 / (2 ^ 180 : Nat) := by
      rw [← zpow_add₀ two_ne_zero, show 2 * (-90 - j) + 2 * j = -((180 : Nat) : Int) by push_cast; ring, zpow_neg,
        zpow_natCast, one_div]
      norm_num
    rw [scaled_sq, value, mul_mul_mul_comm, powers, mul_one_div, Nat.cast_mul (q * q) y]
  have unit : (0 : Rat) < (2 ^ 180 : Nat) := Nat.cast_pos.2 (Nat.two_pow_pos 180)
  refine ⟨_, _, _, result, fun hbound => ?_, fun exact => ?_, fun rounded => ?_⟩
  · refine lt_natSqrt ((Nat.div_le_self _ _).trans_lt (by norm_num)) ((Nat.le_div_iff_mul_le hy).2 ?_)
    calc (2 ^ 53 + 1) * (2 ^ 53 + 1) * y ≤ (2 ^ 53 + 1) * (2 ^ 53 + 1) * (2 * 2 ^ 53) :=
          Nat.mul_le_mul_left _ (high.trans (Nat.mul_le_mul_left 2 hbound.le))
      _ ≤ 2 ^ 180 := by norm_num
  · rw [square, not_not.1 (of_decide_eq_false exact), div_self unit.ne']
  · rw [square, square, div_lt_one unit, one_lt_div unit, Nat.cast_lt, Nat.cast_lt]
    exact ⟨below.lt_of_ne (of_decide_eq_true rounded), above⟩

end

/-- Settles O58: operation by operation, the numbers being zeros and finite values that are not 0. -/
theorem exactOperations : Obligations.ExactOperations := by
  refine ⟨fun mode a b ha hb => ?numbers, fun mode n k a ha => ?infinities, fun d m e hm => ?sqrt,
    fun n => ⟨rfl, rfl⟩, fun d m e hm => ⟨rfl, exactRsqrt_correct d e hm⟩, fun n => ⟨rfl, rfl⟩,
    fun _ => natSqrt_correct⟩
  case numbers =>
    obtain ⟨quotientZero, quotientByZero, quotientInvalid⟩ := exactDiv_zero_of ha hb
    refine ⟨exactAdd_denotes mode ha hb, exactSub_denotes mode ha hb, exactMul_denotes ha hb, exactDiv_denotes ha hb,
      fun d n m e hbe hm n' m' e' => ?_, fpOrder_numbers ha hb, exactAdd_of_zero mode ha hb,
      exactSub_of_zero mode ha hb, exactMul_of_zero ha hb, quotientZero, quotientByZero, quotientInvalid⟩
    subst hbe
    exact exactDiv_long ha hb hm
  case infinities =>
    obtain ⟨infTimes, timesInf⟩ := exactMul_inf n ha
    have opposite : exactSub mode (.inf n) (.inf k) = if n = k then .invalid else .inf n := by
      cases n <;> cases k <;> rfl
    rcases isNumber_cases ha with ⟨n', rfl⟩ | ⟨d', n', m', e', rfl, -⟩
    · exact ⟨rfl, rfl, rfl, rfl, rfl, opposite, rfl, infTimes, timesInf, rfl, rfl, rfl, rfl, rfl, rfl⟩
    · exact ⟨rfl, rfl, rfl, rfl, rfl, opposite, rfl, infTimes, timesInf, rfl, rfl, rfl, rfl, rfl, rfl⟩
  case sqrt => exact ⟨rfl, exactSqrt_correct d e hm⟩

end Sys2Proof.Proofs

/-! PROOFS. The FPU conversions: how one to fixed point finishes, and what it gives of each class of value. -/

namespace Sys2Proof.Proofs

open Sys2Proof.Machine

set_option Elab.async false

/-! ### Delivery of an integer (49_fpu_convert R550, R551) -/

/-- The floating-point format whose FPRs hold a fixed-point one (10_state R52, R53). -/
def fpFmtOf : IntFmt → FpFmt
  | .w => .s
  | .l => .d

theorem setFprInt_eq (f : IntFmt) (fd : Reg) (v : Word) : setFprInt f fd v = setFpr (fpFmtOf f) fd v := by
  cases f <;> rfl

theorem low_eq_ofInt (v : Word) : low v = BitVec.ofInt 32 v.toInt :=
  (BitVec.signExtend_eq_setWidth_of_le v (by decide)).symm

section
variable {s : State} {i j : Instr} {fs fd : Reg} {c : BitVec 6} {r : BitVec 6 × Word}

/-- An FPR delivered in a floating-point format, read in the fixed-point one. -/
theorem deliversInt_of_deliversFp {f : IntFmt} {v : Word} (h : DeliversFp i s (fpFmtOf f) fd c v) :
    DeliversInt i s f fd c v.toInt := by
  obtain ⟨t, runs, ⟨value, control⟩, keeps, steps⟩ := h
  cases f with
  | w =>
    have word : t.fpr32 fd = BitVec.ofInt 32 v.toInt :=
      calc t.fpr32 fd = low (t.fpr .s fd) := (low_fpr_single t fd).symm
        _ = low ((low v).setWidth 64) := congrArg low value
        _ = low v := BitVec.setWidth_setWidth_of_le _ (by decide)
        _ = BitVec.ofInt 32 v.toInt := low_eq_ofInt v
    exact ⟨t, runs, ⟨word, control⟩, keeps, steps⟩
  | l => exact ⟨t, runs, ⟨value.trans BitVec.ofInt_toInt.symm, control⟩, keeps, steps⟩

theorem finishesInt_of_finishesFp {f : IntFmt} (h : FinishesFp i s (fpFmtOf f) fd r) : FinishesInt i s f fd r := by
  unfold FinishesFp at h
  unfold FinishesInt
  split
  next traps => rwa [if_pos traps] at h
  next quiet =>
    rw [if_neg quiet] at h
    exact deliversInt_of_deliversFp h

/-- A conversion to fixed point finishes with ToInt in its rounding mode. -/
theorem finishesInt_fpToInt {src : FpFmt} {dst : IntFmt} {mode : State → Rounding} (hready : FpReady s [fs, fd])
    (hx : exec i s = fpToInt src dst mode fs fd s) :
    FinishesInt i s dst fd (toInt dst (mode s) (s.fpVal src fs)) := by
  rw [fpToInt, setFprInt_eq] at hx
  exact finishesInt_of_finishesFp (finishesFp_of (fprOk_destination hready) (fpGate_ready s _ hready) hx)

/-- The conversions of one rounding mode to the two fixed-point formats. -/
theorem finishesInt_both {src : FpFmt} (mode : State → Rounding) (hready : FpReady s [fs, fd])
    (hi : exec i s = fpToInt src .w mode fs fd s) (hj : exec j s = fpToInt src .l mode fs fd s) :
    FinishesInt i s .w fd (toInt .w (mode s) (s.fpVal src fs))
      ∧ FinishesInt j s .l fd (toInt .l (mode s) (s.fpVal src fs)) :=
  ⟨finishesInt_fpToInt hready hi, finishesInt_fpToInt hready hj⟩

/-! ### Conversions to floating point (49_fpu_convert R562 to R567) -/

theorem finishesFp_fpToFp {src dst : FpFmt} (hready : FpReady s [fs, fd]) (hx : exec i s = fpToFp src dst fs fd s) :
    FinishesFp i s dst fd
      (screened dst s.fpMode [s.fpVal src fs] (deliver dst s.fpMode (exactOf (s.fpVal src fs)))) :=
  finishesFp_of (fprOk_destination hready) (fpGate_ready s _ hready) hx

theorem finishesFp_fpFromW {dst : FpFmt} (hready : FpReady s [fs, fd]) (hx : exec i s = fpFromW dst fs fd s) :
    FinishesFp i s dst fd (deliver dst s.fpMode (exactFromInt (s.fpr32 fs).toInt)) :=
  finishesFp_of (fprOk_destination hready) (fpGate_ready s _ hready) hx

theorem finishesFp_fpFromL {dst : FpFmt} (hready : FpReady s [fs, fd]) (hx : exec i s = fpFromL dst fs fd s) :
    FinishesFp i s dst fd (fromLResult dst s.fpMode (s.fpr64 fs).toInt) :=
  finishesFp_of (fprOk_destination hready) (fpGate_ready s _ hready) hx

end

section
variable {dst : FpFmt} {md : FpMode} {n : Int}

theorem fromLResult_inside (h : -2 ^ 52 ≤ n ∧ n < 2 ^ 52) :
    fromLResult dst md n = deliver dst md (exactFromInt n) := if_pos h

theorem fromLResult_outside (h : ¬(-2 ^ 52 ≤ n ∧ n < 2 ^ 52)) : (fromLResult dst md n).1 = causeE :=
  congrArg Prod.fst (if_neg h)

end

/-! ### ToInt of a normalized number (49_fpu_convert R551) -/

section
variable {dst : IntFmt} {mode : Rounding} {n : Bool} {m : Nat} {e : Int}

theorem toInt_inside (h : intFits dst (roundInt mode n m e).1 = true) : toInt dst mode (.finite false n m e)
    = (if (roundInt mode n m e).2 then causeI else 0#6, BitVec.ofInt 64 (roundInt mode n m e).1) :=
  if_neg (by rw [h]; decide)

theorem toInt_outside (h : ¬intFits dst (roundInt mode n m e).1 = true) :
    toInt dst mode (.finite false n m e) = (causeE, 0#64) :=
  if_pos (by rw [Bool.not_eq_true] at h; rw [h]; rfl)

end

/-- Settles O57: to fixed point each conversion is one ToInt in its format and mode, and to floating point one delivered
value, by its equation of exec; ToInt by the class of its operand. -/
theorem conversions : Obligations.Conversions := by
  refine ⟨fun s fs fd hready => ?toFixed, fun s fs fd hready => ?toFloating, fun dst mode => ?classes⟩
  case toFixed =>
    simp only [List.forall_mem_cons, List.not_mem_nil, IsEmpty.forall_iff, implies_true, and_true]
    have both {src : FpFmt} {i j : Instr} (mode : State → Rounding) :=
      finishesInt_both (src := src) (i := i) (j := j) mode hready
    exact ⟨⟨both State.rounding rfl rfl, both (fun _ => .rn) rfl rfl, both (fun _ => .rz) rfl rfl,
        both (fun _ => .rp) rfl rfl, both (fun _ => .rm) rfl rfl⟩,
      both State.rounding rfl rfl, both (fun _ => .rn) rfl rfl, both (fun _ => .rz) rfl rfl,
      both (fun _ => .rp) rfl rfl, both (fun _ => .rm) rfl rfl⟩
  case toFloating =>
    refine ⟨finishesFp_fpToFp hready rfl, finishesFp_fpToFp hready rfl, finishesFp_fpFromW hready rfl,
      finishesFp_fpFromW hready rfl, ?_⟩
    intro n
    have single : FinishesFp (.cvtSL fs fd) s .s fd (fromLResult .s s.fpMode n) := finishesFp_fpFromL hready rfl
    have double : FinishesFp (.cvtDL fs fd) s .d fd (fromLResult .d s.fpMode n) := finishesFp_fpFromL hready rfl
    split
    next inside =>
      rw [fromLResult_inside inside] at single double
      exact ⟨single, double⟩
    next outside =>
      exact ⟨trapsFp_of_causeE single (fromLResult_outside outside),
        trapsFp_of_causeE double (fromLResult_outside outside)⟩
  case classes =>
    intro largest bound
    have fits (n : Int) : intFits dst n = true ↔ -bound ≤ n ∧ n ≤ bound - 1 := by
      cases dst <;> exact decide_eq_true_iff
    refine ⟨rfl, ?snan, fun _ => ⟨rfl, rfl⟩, fun _ _ _ => rfl, fun n m e => ?normalized⟩
    case snan => cases dst <;> rfl
    case normalized =>
      exact ⟨fun inside => toInt_inside ((fits _).2 inside),
        fun outside => congrArg Prod.fst (toInt_outside (mt (fits _).1 outside))⟩

end Sys2Proof.Proofs

/-! PROOFS. The trap instructions, and taking a Cache Error. -/

namespace Sys2Proof.Proofs

open Sys2Proof.Machine

set_option Elab.async false

/-! ### The Trap exception (60_exceptions R603, R620 to R622) -/

theorem takeTrap_pc (s : State) : (takeException .trap s).pc
    = if s.bev then 0xFFFFFFFFBFC00380#64 else 0xFFFFFFFF80000180#64 := by
  show s.vectorBase + 0x180#64 = _
  rw [State.vectorBase]
  split <;> rfl

theorem takeTrap_bd {s : State} (h : s.exl = false) :
    (takeException .trap s).cp0.cause.getLsbD 31 = s.next.isSome :=
  (enterGeneral_causeBD .trap s s.cp0).trans (if_neg (by simp [h]))

theorem takeTrap_epc {s : State} (h : s.exl = false) :
    (takeException .trap s).cp0.epc = if s.next.isSome then s.pc - 4#64 else s.pc := if_neg (by simp [h])

/-! ### The trap instructions (45_trap_system R425 to R436) -/

theorem trapsIf_of {i : Instr} {s : State} {b : Bool} {c : Prop} (hx : exec i s = trapIf b s) (hb : b = true ↔ c) :
    TrapsIf i s c := by
  refine ⟨fun hc => ?traps, fun hc => ?completes⟩
  case traps =>
    rw [trapIf, if_pos (hb.2 hc)] at hx
    exact hx
  case completes =>
    rw [trapIf, if_neg (mt hb.1 hc)] at hx
    exact changesNothing_of hx

theorem eq_simm_iff (v : Word) (imm : BitVec 16) : v = simm imm ↔ v.toInt = imm.toInt := by
  rw [← toInt_simm imm, BitVec.toInt_inj]

/-- Settles O26: each instruction is one `trapIf`, and the bit that it tests is its comparison of the 64-bit values. -/
theorem conditionalTraps : Obligations.ConditionalTraps := by
  refine ⟨fun s =>
      ⟨enterGeneral_excCode .trap s s.cp0, takeTrap_pc s, fun h => ⟨takeTrap_bd h, takeTrap_epc h⟩⟩,
    fun s rs rt code imm => ⟨trapsIf_of rfl BitVec.sle_iff_toInt_le, trapsIf_of rfl BitVec.ule_iff_le,
      trapsIf_of rfl BitVec.slt_iff_toInt_lt, trapsIf_of rfl BitVec.ult_iff_lt, trapsIf_of rfl beq_iff_eq,
      trapsIf_of rfl bne_iff_ne, trapsIf_of rfl ?tgei, trapsIf_of rfl BitVec.ule_iff_le, trapsIf_of rfl ?tlti,
      trapsIf_of rfl BitVec.ult_iff_lt, trapsIf_of rfl (beq_iff_eq.trans (eq_simm_iff _ imm)),
      trapsIf_of rfl (bne_iff_ne.trans (eq_simm_iff _ imm).not)⟩⟩
  case tgei => rw [BitVec.sle_iff_toInt_le, toInt_simm]
  case tlti => rw [BitVec.slt_iff_toInt_lt, toInt_simm]

/-! ### Cache Error entry (60_exceptions R625) -/

/-- CacheErr by its fields (10_state R91). -/
theorem cacheErrWord_fields (e : CacheError) : (cacheErrWord e).getLsbD 31 = e.er
    ∧ (cacheErrWord e).getLsbD 30 = false ∧ (cacheErrWord e).getLsbD 29 = e.ed
    ∧ (cacheErrWord e).getLsbD 28 = e.et ∧ (cacheErrWord e).getLsbD 27 = e.es
    ∧ (cacheErrWord e).getLsbD 26 = e.ee ∧ (cacheErrWord e).getLsbD 25 = e.eb
    ∧ (cacheErrWord e).extractLsb' 0 25 = 0#25 := by
  refine ⟨?_, ?_, ?_, ?_, ?_, ?_, ?_, BitVec.extractLsb'_append_eq_right⟩
  all_goals
    unfold cacheErrWord
    iterate 7 rw [BitVec.getLsbD_append]
    simp

theorem takeCacheError_pc (e : CacheError) (s : State) : (takeCacheError e s).pc
    = if s.bev then 0xFFFFFFFFBFC00300#64 else 0xFFFFFFFFA0000100#64 := by
  unfold takeCacheError
  dsimp only
  split <;> rfl

theorem keeps_takeCacheError (e : CacheError) (s : State) :
    Keeps { cp0 := true, link := true } s (takeCacheError e s) :=
  { keeps_refl { cp0 := true, link := true } s with
    cp0 := fun hw => nomatch hw
    link := fun hw => nomatch hw
    window := fun _ => ⟨sameWindow_onCp0 (enterCacheError e s) s, fun hw => nomatch hw⟩ }

/-- Settles O39: the entry by its fields, each read off `takeCacheError` and `enterCacheError`. -/
theorem cacheErrorEntry : Obligations.CacheErrorEntry := fun s e =>
  ⟨rfl, cacheErrWord_fields e, rfl, takeCacheError_pc e s, rfl, keeps_takeCacheError e s⟩

end Sys2Proof.Proofs

/-! PROOFS. The gates of the 64-bit and MIPS IV instructions. -/

namespace Sys2Proof.Proofs

open Sys2Proof.Machine

set_option Elab.async false

/-! ### Where an instruction stops (30_encoding R238 to R241) -/

section
variable {α β : Type} {i : Instr} {s : State} {u : BitVec 2} {cc : BitVec 3} {x : Except Stop α}
  {f : α → Except Stop β} {g : Except Stop Unit}

/-- What x stops with, the instruction stops with. -/
def StopsWith (i : Instr) (s : State) (x : Except Stop α) : Prop := ∀ st, x = .error st → exec i s = stopOut st s

theorem stopsWith_of_finish {y : Except Stop State} (hx : exec i s = finish s y) : StopsWith i s y := by
  rintro st rfl
  exact hx

theorem stopsWith_of_fpRun {c : BitVec 6} {write : State → State} (hx : exec i s = fpRun g s c write) :
    StopsWith i s g := by
  rintro st rfl
  exact hx

theorem stopsWith_of_bind (h : StopsWith i s (x >>= f)) : StopsWith i s x := by
  rintro st rfl
  exact h st rfl

/-- Past a unit that is usable, the next check decides. -/
theorem stopsWith_after_unit (hu : s.cu u.toNat = true) (h : StopsWith i s (requireUnit u s >>= fun _ => x >>= f)) :
    StopsWith i s x := by
  rw [requireUnit_usable u s hu, bind_ok] at h
  exact stopsWith_of_bind h

theorem requireCc_nonzero (h : (cc != 0#3) = true) : requireCc cc s = requireMips4 s := if_neg (bne_iff_ne.1 h)

end

/-- A 64-bit operation whose unit, if it has one, is usable checks next that it is enabled. -/
theorem needs64_stopsWith (i : Instr) (s : State) (h : needs64 i = true) (hu : UnitMarked i s) :
    StopsWith i s (require64 s) := by
  cases i
  case lwu | ld | sd | ldl | ldr | sdl | sdr | lld | scd | dadd | daddu | dsub | dsubu | daddi | daddiu | dsll | dsrl
      | dsra | dsll32 | dsrl32 | dsra32 | dsllv | dsrlv | dsrav | dmult | dmultu | ddiv | ddivu =>
    exact stopsWith_of_bind (stopsWith_of_finish rfl)
  case dmfc0 | dmtc0 => exact stopsWith_after_unit (hu 0#2 rfl) (stopsWith_of_finish rfl)
  case dmfc1 | dmtc1 => exact stopsWith_after_unit (hu 1#2 rfl) (stopsWith_of_finish rfl)
  all_goals exact nomatch h

/-- A MIPS IV instruction whose unit, if it has one, is usable checks next that it is enabled. -/
theorem needsMips4_stopsWith (i : Instr) (s : State) (h : needsMips4 i = true) (hu : UnitMarked i s) :
    StopsWith i s (requireMips4 s) := by
  cases i
  case pref | movn | movz => exact stopsWith_of_bind (stopsWith_of_finish rfl)
  case lwxc1 | ldxc1 | swxc1 | sdxc1 | prefx | movf | movt =>
    exact stopsWith_after_unit (hu 1#2 rfl) (stopsWith_of_finish rfl)
  case movfS | movtS | movnS | movzS | movfD | movtD | movnD | movzD =>
    exact stopsWith_after_unit (hu 1#2 rfl) (stopsWith_of_bind (stopsWith_of_finish rfl))
  case recipS | rsqrtS | recipD | rsqrtD | maddS | maddD | msubS | msubD | nmaddS | nmaddD | nmsubS | nmsubD =>
    exact stopsWith_after_unit (hu 1#2 rfl) (stopsWith_of_fpRun rfl)
  case bc1f cc _ | bc1t cc _ | bc1fl cc _ | bc1tl cc _ =>
    rw [← requireCc_nonzero h]
    exact stopsWith_after_unit (hu 1#2 rfl) (stopsWith_of_bind (stopsWith_of_finish rfl))
  case cFS | cUnS | cEqS | cUeqS | cOltS | cUltS | cOleS | cUleS | cSfS | cNgleS | cSeqS | cNglS | cLtS | cNgeS | cLeS
      | cNgtS | cFD | cUnD | cEqD | cUeqD | cOltD | cUltD | cOleD | cUleD | cSfD | cNgleD | cSeqD | cNglD | cLtD
      | cNgeD | cLeD | cNgtD =>
    rw [← requireCc_nonzero h]
    exact stopsWith_after_unit (hu 1#2 rfl) (stopsWith_of_fpRun rfl)
  all_goals exact nomatch h

/-- Settles O10: the check that comes next stops as the mode has it. -/
theorem gatedInstructions : Obligations.GatedInstructions := fun i s hu =>
  ⟨fun h64 below disabled => needs64_stopsWith i s h64 hu _ (require64_disabled s below disabled),
    fun h4 hcu3 => ⟨fun below user => needsMips4_stopsWith i s h4 hu _ (requireMips4_user s hcu3 below user),
      fun above => needsMips4_stopsWith i s h4 hu _ (requireMips4_above s hcu3 above)⟩⟩

end Sys2Proof.Proofs
